-- ==== Sys2Proof/Word.lean ====
section
/-! DEFINITION. The word of the part (spec 00, "Words, octets and numbers"), the names of its bus masters and cores
(R11, R177), and the operand forms of the commands that are more than a number. -/
namespace Sys2Proof

/-- A word is always 24 bits (spec 00). -/
abbrev Word := BitVec 24

/-- An octet is 8 bits (spec 00). -/
abbrev Octet := BitVec 8

/-- An accumulator holds 56 bits (R174, R175). -/
abbrev Acc := BitVec 56

/-- The masters of the system bus, in the order of R11. -/
inductive Master where
  | radio | lk | tw | a0 | a1 | ash | hl | dbg
  deriving DecidableEq, Repr

/-- The four Ixxia-24 cores, numbered as cid numbers them (R177). -/
inductive CoreId where
  | lk | a0 | a1 | ash
  deriving DecidableEq, Repr

/-- The number that cid holds for a core (R177). -/
def CoreId.cid : CoreId → Nat
  | .lk => 0
  | .a0 => 1
  | .a1 => 2
  | .ash => 3

/-- The bus master that a core's data port is (R11). -/
def CoreId.master : CoreId → Master
  | .lk => .lk
  | .a0 => .a0
  | .a1 => .a1
  | .ash => .ash

/-- A number for each master, by which per-master latches are kept. -/
def Master.index : Master → Nat
  | .radio => 0
  | .lk => 1
  | .tw => 2
  | .a0 => 3
  | .a1 => 4
  | .ash => 5
  | .hl => 6
  | .dbg => 7

/-- The immediate operand of format I: the short field, or the extension word with x = 1 (R210, R212). -/
inductive Imm9 where
  | short (imm : BitVec 9)
  | ext (w : Word)
  deriving DecidableEq, Repr

/-- The immediate operand of format L (R212). -/
inductive Imm13 where
  | short (imm : BitVec 13)
  | ext (w : Word)
  deriving DecidableEq, Repr

/-- The addressing modes of loads and stores (R179, R220). -/
inductive Addr where
  /-- `[gB + k]`, k the signed short field. -/
  | offset (b : Fin 16) (k : BitVec 6)
  /-- `[gB + k]` with the extension word. -/
  | offsetExt (b : Fin 16) (k : Word)
  /-- `[gB++]`. -/
  | postInc (b : Fin 16)
  /-- `[--gB]`. -/
  | preDec (b : Fin 16)
  /-- `[addr]`, the extension word. -/
  | absolute (a : Word)
  deriving DecidableEq, Repr

/-- A branch or call target: a displacement from the branch, or the extension word (R222). -/
inductive Target where
  | rel (disp : BitVec 13)
  | ext (a : Word)
  deriving DecidableEq, Repr

/-- What the fetch path of the core finds in the two delay slots of a branch (R186): whether each slot's
instruction has an extension word, and whether either is one that the rule forbids there. -/
structure Slots where
  x1  : Bool
  x2  : Bool
  bad : Bool
  deriving DecidableEq, Repr

/-- The count operand of `rpt` (R187, R212): n − 1 in ten bits, or a register. -/
inductive RptCount where
  | imm (nm1 : BitVec 10)
  | reg (g : Fin 16)
  deriving DecidableEq, Repr

/-- What the front end finds around it at the start of a transmission: VPA in mV (R68), the mean power in dBm at the antenna over
the listen interval of R73 on chain A and, for diversity, on chain B, and whether the channel was busy in the CCA time of R120. -/
structure AirEnv where
  vpa : Nat
  lbt : Int
  lbtB : Int := -200
  cca : Bool := false
  deriving DecidableEq, Repr

/-- What a receiver finds at the end of a sync word (R84, R96, R106 to R108): the bits of the sync word as it decides them, bit 0 sent
first; for MR-FSK without a programmable word, the bit errors against the standard's SFD that lies nearer, and whether that is the
one of coded frames; the timestamp at the RF port; the mean power of both chains in units of 10^-20 mW; the carrier frequency offset in
Hz; and the powers of the data carriers of both chains on the long training field, in ascending order and the same unit. -/
structure RxSync where
  bits   : BitVec 32
  sfdErr : Nat
  coded  : Bool
  t      : BitVec 72
  f      : BitVec 3
  powA   : Nat
  powB   : Nat
  cfo    : Int
  sigA   : List Nat
  sigB   : List Nat
  deriving DecidableEq, Repr

/-- What arrives with the header of a frame (R77, R79, R85): whether the PHR passes its check, its mode-switch bit, the length, the
FCS type and the MCS of a PHR, the 48 bits of a Seam header (24 of a short one), and the octets of the MAC header as the
address filter takes them. -/
structure RxHeader where
  phrOk : Bool
  ms    : Bool
  len   : BitVec 11
  fcs2  : Bool
  mcs   : BitVec 3
  raw   : BitVec 48
  mac   : List Octet
  deriving DecidableEq, Repr

end Sys2Proof
end

