-- ==== Sys2Proof/Syntax.lean ====
section
/-! DEFINITION. The commands of the block: one constructor for each row of spec/opcode_table.json, in its order, with
the row's operands. What a command takes from the world outside the block (a level, a measured time, an octet
string) is an operand of it. -/
namespace Sys2Proof

/-- The commands, one a row of the table. -/
inductive Instr where
  /-- REGISTER_WRITE. A bus write to a register that has no row of its own stores the value by its access code, or is ignored at an unassigned offset (R5) -/
  | registerWrite (m : Master) (a v : Word)
  /-- ARBITRATION_RAISE. A master that has waited 64 HCLK for a port is raised to priority 1½ for its next transfer (R12) -/
  | arbitrationRaise (m : Master)
  /-- SEMAPHORE_TAKE. A read of SYS_SEMn by a core takes the semaphore if it is free and returns taken (R28) -/
  | semaphoreTake (m : Master) (n : Fin 16)
  /-- SEMAPHORE_RELEASE. The owner's write of 0 to SYS_SEMn releases the semaphore; every other write is ignored (R28) -/
  | semaphoreRelease (m : Master) (n : Fin 16) (v : Word)
  /-- SYSTEM_RESET_REQUEST. A keyed write of SYS_RSTCTL.sys requests a system reset (R30) -/
  | systemResetRequest (v : Word)
  /-- APPLICATION_RESET_REQUEST. A keyed write of SYS_RSTCTL.app requests an application reset (R30) -/
  | applicationResetRequest (v : Word)
  /-- LINK_RESET_REQUEST. A keyed write of SYS_RSTCTL.lk requests a link reset (R30) -/
  | linkResetRequest (v : Word)
  /-- RESET_PIN. RESET_N held low is registered as a system reset cause at the next RC edge (R27) -/
  | resetPin
  /-- RESET_RELEASE. A reset in progress is released 32 RC cycles after it took hold, or 20 µs after RESET_N rises (R27) -/
  | resetRelease (compatHigh kekOk : Bool)
  /-- WATCHDOG_KICK. A write of 0x00A5C3 to SYS_WDKICK restarts the watchdog count and divider at the next RTC edge (R29) -/
  | watchdogKick (v : Word)
  /-- WATCHDOG_ENABLE. The write that sets SYS_WDCTL.en starts the watchdog from the next RTC edge (R29) -/
  | watchdogEnable (v : Word)
  /-- WATCHDOG_TIMEOUT. The watchdog count reaches its timeout and raises the reset selected by SYS_WDCTL.act (R29) -/
  | watchdogTimeout
  /-- POWER_UP. VDD crosses the brown-out release level, the RC and buck start and the power reset is released when RESET_N is high (R452) -/
  | powerUp (resetNHigh compatHigh kekOk : Bool)
  /-- BROWN_OUT. VDD falls below the brown-out level and a power reset begins with bor recorded (R278) -/
  | brownOut
  /-- VDD_WARNING. VDD falls below the warning level, setting vdlo and warn and making source 83 pending (R278) -/
  | vddWarning
  /-- TB_CNT0_READ. A read of TB_CNT0 returns the low count word and latches the upper words into the master's shadow (R32) -/
  | tbCnt0Read (m : Master)
  /-- SLOT_WRAP. The slot phase reaches the slot length and returns to 0, and the wrap-tick actions run in their fixed order (R33) -/
  | slotWrap
  /-- SLOT_LENGTH_WRITE. A write to TB_SLOTLEN is held for the next wrap tick, or ignored with lenerr when out of range (R34) -/
  | slotLengthWrite (v : Word)
  /-- PHASE_ADJUST_WRITE. A write to TB_PHADJ.d sets pend for an adjustment at the next wrap tick (R35) -/
  | phaseAdjustWrite (v : Word)
  /-- SLOT_PHASE_START. A write that sets TB_CTL.sph starts the slot phase with a wrap tick in the tick after it lands (R36) -/
  | slotPhaseStart (v : Word)
  /-- PRELOAD_WRITE. A write to TB_SCMPn stores the preload and sets pv (R38) -/
  | preloadWrite (n : Fin 32) (v : Word)
  /-- ARM_STAGE. A write to TB_ARMSETH stages upper arm bits and the when bit for that master (R40) -/
  | armStage (m : Master) (v : Word)
  /-- ARM_COMMIT. A write to TB_ARMSET arms channels 0–23 with the staged bits, at once or at the next wrap tick (R40) -/
  | armCommit (m : Master) (v : Word)
  /-- DISARM_STAGE. A write to TB_DISARMH stages upper disarm bits for that master (R40) -/
  | disarmStage (m : Master) (v : Word)
  /-- DISARM_COMMIT. A write to TB_DISARM disarms the chosen channels at once and cancels pending wrap-tick arms (R41) -/
  | disarmCommit (m : Master) (v : Word)
  /-- ABSOLUTE_VALUE_STAGE. A write to TB_ACMPn_1 or _2 stages an upper word for that master (R42) -/
  | absoluteValueStage (m : Master) (n : Fin 8) (top : Bool) (v : Word)
  /-- ABSOLUTE_VALUE_LOAD. A write to TB_ACMPn_0 loads all three words into the channel, firing late if the value has passed (R42) -/
  | absoluteValueLoad (m : Master) (n : Fin 8) (v : Word)
  /-- SLOT_COMPARE_MATCH. An armed slot-relative channel matches its value, sets fired, disarms and raises its event (R38) -/
  | slotCompareMatch (n : Fin 32)
  /-- ABSOLUTE_COMPARE_MATCH. The count reaches an armed absolute channel's value; the channel fires, disarms and raises its event (R42) -/
  | absoluteCompareMatch (n : Fin 8)
  /-- RATE_TRIM_CARRY. The rate-trim accumulator carries or borrows, so count and phase advance by 2 or hold in that tick (R43) -/
  | rateTrimCarry
  /-- EVENT_DELIVERY. A routed event is acted on by its destinations 8 ticks after it was raised (R44) -/
  | eventDelivery
  /-- SLOT_TICK_ACTED. Eight ticks after the wrap tick every block acts on the slot tick (R44) -/
  | slotTickActed
  /-- CAPTURE_EDGE. A capture input accepts a filtered edge, counts it in the prescaler and captures the count on every (psc+1)-th one (R46) -/
  | captureEdge (n : Fin 8) (rising : Bool)
  /-- CAPTURE_READ. A read of TB_CAPn_0 returns the visible value, latches its upper words and moves the hold forward (R48) -/
  | captureRead (m : Master) (n : Fin 8)
  /-- CAPTURE_ENABLE. Setting TB_CAPCTLn.en clears the prescaler and filter history; the first sample sets the reference level (R47) -/
  | captureEnable (n : Fin 8) (v : Word) (level : Bool)
  /-- WAKE_LEAD_REACHED. During extrapolation the count reaches a wake channel's value less TB_WAKELEAD and the wake sequence begins (R50) -/
  | wakeLeadReached (n : Fin 8)
  /-- REALIGNMENT. After PLL lock, at the next RTC edge, Bedrock loads the extrapolated count and phase, resumes and sets realn (R51) -/
  | realignment (edges : Nat)
  /-- RTC_CAL_START. A write setting TB_RTCCAL.start begins an RTC measurement at the next qualifying RTC edge (R52) -/
  | rtcCalStart (v : Word)
  /-- RTC_CAL_DONE. The 2^k-th RTC edge arrives; the tick count is placed in TB_RTCRES and done is set (R52) -/
  | rtcCalDone (ticks : BitVec 48)
  /-- FRONT_END_ENABLE. Setting RFE_CTL.en moves a path from OFF to SYNTH_CAL or IDLE after the bias start (R58) -/
  | frontEndEnable (v : Word)
  /-- FRONT_END_DISABLE. Clearing RFE_CTL.en ramps down any transmission, moves both paths to OFF and aborts an open direct command (R58) -/
  | frontEndDisable (v : Word)
  /-- BIAS_START_DONE. The 30 µs bias start ends and the path enters SYNTH_CAL or IDLE (R58) -/
  | biasStartDone (p1 : Bool)
  /-- SYNTH_CAL_DONE. A synthesiser calibration completes, records its temperature and enters SETTLE or IDLE (R61) -/
  | synthCalDone (sy1 : Bool) (temp : BitVec 8)
  /-- LOCK_DETECTED. The synthesiser locks in SETTLE and the path goes to IDLE, locked (R58) -/
  | lockDetected (sy1 : Bool) (rechecks : Fin 3)
  /-- LOCK_TIMEOUT. A synthesiser not locked after 100 µs returns to IDLE, sets lockf, invalidates its calibration and reports LOCK_FAIL (R59) -/
  | lockTimeout (sy1 : Bool)
  /-- PA_RAMP_DONE. The PA ramp ends and the first symbol of the transmission follows (R58) -/
  | paRampDone
  /-- TURN_DONE. The TURN interval ends and the path enters TX or RX (R58) -/
  | turnDone
  /-- TX_FRAME_END. The last symbol leaves the DAC and the PA ramps down, to IDLE or TURN (R58) -/
  | txFrameEnd
  /-- RX_STOP. A receive is stopped or its window ends and the path returns to IDLE (R58) -/
  | rxStop (p1 : Bool)
  /-- GRANT_START. An idle grant opens at its trimmed start and the front end begins due calibration steps (R129) -/
  | grantStart (temp : BitVec 8)
  /-- BGCAL_STEP_DONE. A calibration step completes and the path returns to IDLE (R63) -/
  | bgcalStepDone (temp : BitVec 8)
  /-- GRANT_END. The grant reaches its end; direct receives and cw end with DONE (R63) -/
  | grantEnd
  /-- BGCAL_INTERVAL_DUE. 2^k slots after its last completion an interval calibration becomes due (R63) -/
  | bgcalIntervalDue (n : Fin 4)
  /-- DIRECT_STOP. Op 0b000 ends the open direct command as its kind requires (R471) -/
  | directStop (v : Word)
  /-- DIRECT_TUNE. A direct tune is checked and tunes the synthesiser, reporting OK at lock (R64) -/
  | directTune (v : Word) (temp : BitVec 8)
  /-- DIRECT_RECEIVE. A direct receive is checked and receives from DWS until a stop or the grant end (R64) -/
  | directReceive (v : Word) (temp : BitVec 8)
  /-- DIRECT_TRANSMIT. A direct transmit is checked and sends one frame, reporting DONE when it has left the DAC (R64) -/
  | directTransmit (v : Word) (temp : BitVec 8) (flen : Nat) (env : AirEnv)
  /-- DIRECT_CW. A direct continuous-wave test is checked and runs until a stop or the grant end (R64) -/
  | directCw (v : Word) (temp : BitVec 8) (env : AirEnv)
  /-- DIRECT_CALIBRATE. A direct calibrate command calibrates the synthesiser and reports DONE (R64) -/
  | directCalibrate (v : Word)
  /-- HELD_COMMAND_START. A held direct command starts at the later of lock and DWS, or ends LATE_SYNTH when lock comes after DWE (R65) -/
  | heldCommandStart (env : AirEnv)
  /-- DUTY_SUBWINDOW_END. A duty-cycle sub-window of W/16 ends and the oldest one leaves the sum (R72) -/
  | dutySubwindowEnd
  /-- RPCTL_PROGRAM. A keyed RFE_RPCTL program op programs one OTP profile word from RFE_RPDATA (R70) -/
  | rpctlProgram (v : Word)
  /-- RPCTL_LOCK. A keyed RFE_RPCTL lock op locks the profile if its CRC matches, else sets lkerr (R70) -/
  | rpctlLock (v : Word)
  /-- PROFILE_OP_DONE. An OTP program or lock completes, clearing busy and setting perr or lkerr as found (R70) -/
  | profileOpDone
  /-- PHY_DISABLE. Clearing PHY_CTL.en ends a reception at once and refuses later transmissions (R470) -/
  | phyDisable (v : Word)
  /-- SEQUENCER_TX_START. At its offset the sequencer starts a transmission after the fit and regulatory checks (R122) -/
  | sequencerTxStart (env : AirEnv)
  /-- RECEIVE_WINDOW_OPEN. The sequencer issues the receive command for a receive cell, widened by h (R123) -/
  | receiveWindowOpen
  /-- PREAMBLE_DETECT. The receiver detects a preamble of the mode it searches for (R123) -/
  | preambleDetect (chB : Bool) (powA powB : Nat)
  /-- PREAMBLE_DEADLINE. No preamble by the detect deadline closes the window with EMPTY (R123) -/
  | preambleDeadline
  /-- SYNC_DEADLINE. No sync point by the sync deadline closes the window with EMPTY (R123) -/
  | syncDeadline
  /-- SYNC_WORD_MATCH. The sync word is matched within tolerance at the sync point, or the frame is dropped on mismatch (R106) -/
  | syncWordMatch (chB : Bool) (m : RxSync)
  /-- HEADER_RECEIVED. The PHR or Seam header is checked and, when it passes, the sync-point measurements are committed (R108) -/
  | headerReceived (chB : Bool) (h : RxHeader)
  /-- FRAME_END. The last octet arrives and the FCS is checked (R111) -/
  | frameEnd (chB : Bool) (psdu : List Octet)
  /-- FORWARDING_DECISION. The Hopper decides a received or enqueued frame's fate and enters, delivers or drops it (R159) -/
  | forwardingDecision
  /-- ACK_TX_START. The receiver sends the enhanced acknowledgement with its elements at its fixed time (R124) -/
  | ackTxStart (env : AirEnv)
  /-- ACK_RECEIVED. A good acknowledgement arrives and its elements update fallback, peer and advertised tables (R102) -/
  | ackReceived (psdu : List Octet)
  /-- ACK_WINDOW_CLOSE. No acknowledgement sync point by its deadline closes the wait with NOACK (R124) -/
  | ackWindowClose
  /-- NOFRAME_DEADLINE. No frame from the Hopper by +370 µs ends the transmit cell with NOFRAME (R130) -/
  | noframeDeadline
  /-- SURVEY_SAMPLE_DONE. A survey sample ends and updates class noise, wideband noise and counts (R95) -/
  | surveySampleDone (chB : Bool) (powers : List Nat)
  /-- LOADING_STORE_INIT. A write setting PHY_LSCTL.init starts clearing the loading store (R98) -/
  | loadingStoreInit (v : Word)
  /-- LOADING_STORE_INIT_DONE. The store is cleared, init falls and source 62 becomes pending (R98) -/
  | loadingStoreInitDone
  /-- PROPOSE. A write to PHY_PROPOSE places a proposal, allocating its tag, or reports ILLEGAL or BUSY (R100) -/
  | propose (v : Word)
  /-- PROPOSAL_WRITTEN. The proposal is written into the entry and PHY_PSTAT.busy falls (R100) -/
  | proposalWritten
  /-- ASN_READ. A read of SLOT_ASN0 returns the low ASN and latches the high bits in the master's shadow (R112) -/
  | asnRead (m : Master)
  /-- ASN_SET_REQUEST. A write of SLOT_ASNSET1.go requests a new ASN at the next wrap tick (R113) -/
  | asnSetRequest (m : Master) (v : Word)
  /-- HOP_LIST_COMMIT. A write of commit = 1 schedules the shadow hopping list for the next wrap tick (R114) -/
  | hopListCommit (m : Master) (v : Word)
  /-- SLOT_ARM. A write of SLOT_ARM arms the next slot, or is discarded as LATE or ILLEGAL (R126) -/
  | slotArm (m : Master) (v : Word)
  /-- ARM_DEADLINE. The arm deadline passes with the slot unarmed; the default action runs and an overrun is counted (R128) -/
  | armDeadline
  /-- SLOT_ABORT. A write of SLOT_ABORT.go aborts the current slot operation (R131) -/
  | slotAbort (m : Master) (v : Word)
  /-- RESULT_READ. A read of SLOT_RES0 latches SLOT_RES1 for the reading master (R130) -/
  | resultRead (m : Master)
  /-- TIME_SOURCE_FAILOVER. Time source 0 has supplied nothing for fo slots and time source 1 comes into use (R135) -/
  | timeSourceFailover
  /-- COAST_ENTER. LK's write of SLOT_CTL.coast = 1 begins coast mode (R141) -/
  | coastEnter (m : Master) (v : Word)
  /-- BANK_SWITCH_REQUEST. A write of SLOT_LKBANK.sw sets pend for a switch at the chosen slotframe boundary (R143) -/
  | bankSwitchRequest (m : Master) (v : Word)
  /-- HOPPER_ENABLE. Setting HOP_CTL.en enables the Hopper, or is refused with cfg for an invalid layout (R147) -/
  | hopperEnable (v : Word)
  /-- DEFER_EXPIRED. A queue's deferral count reaches 0 and it may become eligible again (R162) -/
  | deferExpired (q : Fin 32)
  /-- CELL_ALLOC. A read of HOP_ALLOC takes a free cell for the core unless fewer than 65 are free (R166) -/
  | cellAlloc (m : Master)
  /-- CELL_ALLOC_RESERVE. A read of HOP_ALLOCC takes a free cell, using the reserve down to the last (R166) -/
  | cellAllocReserve (m : Master)
  /-- ENQUEUE. A write of HOP_ENQ hands a frame to the Hopper, forwarded or entered directly (R167) -/
  | enqueue (m : Master) (v : Word)
  /-- DEQUEUE. A read of HOP_DQq removes the head frame of a local queue for the core (R168) -/
  | dequeue (m : Master) (q : Fin 4)
  /-- RELEASE. A write of HOP_RELEASE frees a core-held frame (R168) -/
  | release (v : Word)
  /-- QUEUE_FLUSH. QCMD flush frees every frame of a control or local queue except a locked head (R168) -/
  | queueFlush (v : Word)
  /-- QUEUE_BIND. QCMD bind pins an empty next-hop queue to a neighbour (R157) -/
  | queueBind (v : Word)
  /-- QUEUE_UNBIND. QCMD unbind releases an empty next-hop queue (R157) -/
  | queueUnbind (v : Word)
  /-- ADD. Adds two registers (R214) -/
  | add (c : CoreId) (d a b : Fin 16)
  /-- ADDC. Adds two registers and the carry (R214) -/
  | addc (c : CoreId) (d a b : Fin 16)
  /-- SUB. Subtracts one register from another (R214) -/
  | sub (c : CoreId) (d a b : Fin 16)
  /-- SUBC. Subtracts with carry (R214) -/
  | subc (c : CoreId) (d a b : Fin 16)
  /-- ADDS. Adds with saturation to int24 (R214) -/
  | adds (c : CoreId) (d a b : Fin 16)
  /-- SUBS. Subtracts with saturation to int24 (R214) -/
  | subs (c : CoreId) (d a b : Fin 16)
  /-- AND. Bitwise and (R214) -/
  | and (c : CoreId) (d a b : Fin 16)
  /-- OR. Bitwise or (R214) -/
  | or (c : CoreId) (d a b : Fin 16)
  /-- XOR. Bitwise exclusive or (R214) -/
  | xor (c : CoreId) (d a b : Fin 16)
  /-- ANDN. And with the complement (R214) -/
  | andn (c : CoreId) (d a b : Fin 16)
  /-- MIN. Signed minimum (R214) -/
  | min (c : CoreId) (d a b : Fin 16)
  /-- MAX. Signed maximum (R214) -/
  | max (c : CoreId) (d a b : Fin 16)
  /-- MINU. Unsigned minimum (R214) -/
  | minu (c : CoreId) (d a b : Fin 16)
  /-- MAXU. Unsigned maximum (R214) -/
  | maxu (c : CoreId) (d a b : Fin 16)
  /-- SHL. Logical left shift by a register count (R215) -/
  | shl (c : CoreId) (d a b : Fin 16)
  /-- SHR. Logical right shift by a register count (R215) -/
  | shr (c : CoreId) (d a b : Fin 16)
  /-- SAR. Arithmetic right shift by a register count (R215) -/
  | sar (c : CoreId) (d a b : Fin 16)
  /-- SHLS. Saturating left shift by a register count (R215) -/
  | shls (c : CoreId) (d a b : Fin 16)
  /-- SHLI. Logical left shift by an immediate count (R215) -/
  | shli (c : CoreId) (d a : Fin 16) (n : BitVec 6)
  /-- SHRI. Logical right shift by an immediate count (R215) -/
  | shri (c : CoreId) (d a : Fin 16) (n : BitVec 6)
  /-- SARI. Arithmetic right shift by an immediate count (R215) -/
  | sari (c : CoreId) (d a : Fin 16) (n : BitVec 6)
  /-- SHLSI. Saturating left shift by an immediate count (R215) -/
  | shlsi (c : CoreId) (d a : Fin 16) (n : BitVec 6)
  /-- MPY. Integer multiply into an accumulator (R216) -/
  | mpy (c : CoreId) (d : Fin 4) (a b : Fin 16)
  /-- MPF. Fractional multiply into an accumulator (R216) -/
  | mpf (c : CoreId) (d : Fin 4) (a b : Fin 16)
  /-- MAC. Integer multiply-accumulate (R216) -/
  | mac (c : CoreId) (d : Fin 4) (a b : Fin 16)
  /-- MACF. Fractional multiply-accumulate (R216) -/
  | macf (c : CoreId) (d : Fin 4) (a b : Fin 16)
  /-- MSU. Integer multiply-subtract (R216) -/
  | msu (c : CoreId) (d : Fin 4) (a b : Fin 16)
  /-- MSUF. Fractional multiply-subtract (R216) -/
  | msuf (c : CoreId) (d : Fin 4) (a b : Fin 16)
  /-- DIV. Signed division with quotient and remainder (R216) -/
  | div (c : CoreId) (d a b : Fin 16)
  /-- DIVU. Unsigned division with quotient and remainder (R216) -/
  | divu (c : CoreId) (d a b : Fin 16)
  /-- ACLR. Clears an accumulator (R217) -/
  | aclr (c : CoreId) (d : Fin 4)
  /-- AADD. Adds two accumulators (R217) -/
  | aadd (c : CoreId) (d a : Fin 4)
  /-- ASUB. Subtracts two accumulators (R217) -/
  | asub (c : CoreId) (d a : Fin 4)
  /-- ASH. Arithmetic shift of an accumulator (R217) -/
  | ash (c : CoreId) (d : Fin 4) (n : BitVec 6)
  /-- MVG_L. Moves a register into accumulator bits 23:0 (R217) -/
  | mvgL (c : CoreId) (d : Fin 4) (a : Fin 16)
  /-- MVG_H. Moves a register into accumulator bits 47:24 (R217) -/
  | mvgH (c : CoreId) (d : Fin 4) (a : Fin 16)
  /-- MVG_G. Moves a register into the guard bits (R217) -/
  | mvgG (c : CoreId) (d : Fin 4) (a : Fin 16)
  /-- MVG_I. Moves a register into an accumulator sign-extended (R217) -/
  | mvgI (c : CoreId) (d : Fin 4) (a : Fin 16)
  /-- MVG_F. Moves a register into an accumulator as a fraction (R217) -/
  | mvgF (c : CoreId) (d : Fin 4) (a : Fin 16)
  /-- MVA_L. Reads accumulator bits 23:0 (R217) -/
  | mvaL (c : CoreId) (d : Fin 16) (a : Fin 4)
  /-- MVA_H. Reads accumulator bits 47:24 (R217) -/
  | mvaH (c : CoreId) (d : Fin 16) (a : Fin 4)
  /-- MVA_G. Reads the guard bits (R217) -/
  | mvaG (c : CoreId) (d : Fin 16) (a : Fin 4)
  /-- MVA_R. Reads an accumulator rounded and saturated (R191) -/
  | mvaR (c : CoreId) (d : Fin 16) (a : Fin 4)
  /-- MOV. Moves a register (R218) -/
  | mov (c : CoreId) (d a : Fin 16)
  /-- NOT. Bitwise complement (R218) -/
  | not (c : CoreId) (d a : Fin 16)
  /-- NEG. Two's complement negation (R218) -/
  | neg (c : CoreId) (d a : Fin 16)
  /-- NEGS. Saturating negation (R218) -/
  | negs (c : CoreId) (d a : Fin 16)
  /-- ABS. Absolute value (R218) -/
  | abs (c : CoreId) (d a : Fin 16)
  /-- CLZ. Counts leading zeros (R218) -/
  | clz (c : CoreId) (d a : Fin 16)
  /-- EXO. Extracts an octet selected by a register (R181) -/
  | exo (c : CoreId) (d a b : Fin 16)
  /-- INO. Inserts an octet selected by a register (R181) -/
  | ino (c : CoreId) (d a b : Fin 16)
  /-- ADDI. Adds an immediate (R219) -/
  | addi (c : CoreId) (d a : Fin 16) (i : Imm9)
  /-- SUBI. Subtracts an immediate (R219) -/
  | subi (c : CoreId) (d a : Fin 16) (i : Imm9)
  /-- ANDI. Ands an immediate (R219) -/
  | andi (c : CoreId) (d a : Fin 16) (i : Imm9)
  /-- ORI. Ors an immediate (R219) -/
  | ori (c : CoreId) (d a : Fin 16) (i : Imm9)
  /-- XORI. Exclusive-ors an immediate (R219) -/
  | xori (c : CoreId) (d a : Fin 16) (i : Imm9)
  /-- EXOI. Extracts an octet selected by an immediate (R219) -/
  | exoi (c : CoreId) (d a : Fin 16) (n : BitVec 2)
  /-- INOI. Inserts an octet selected by an immediate (R219) -/
  | inoi (c : CoreId) (d a : Fin 16) (n : BitVec 2)
  /-- LDI. Loads an immediate (R219) -/
  | ldi (c : CoreId) (d : Fin 16) (i : Imm13)
  /-- LD. Loads a word from memory (R220) -/
  | ld (c : CoreId) (r : Fin 16) (a : Addr)
  /-- ST. Stores a word to memory (R220) -/
  | st (c : CoreId) (r : Fin 16) (a : Addr)
  /-- FLASH_READ. A read of a flash row checks its CRC-24, re-reading up to 3 times before NVM_CRC (R302) -/
  | flashRead (m : Master) (a : Word) (fetch : Bool) (failed : Nat)
  /-- BRANCH. A conditional branch with two delay slots (R221) -/
  | branch (c : CoreId) (cond : BitVec 4) (t : Target) (slots : Slots)
  /-- CALL. A call that writes the return address to g15 (R222) -/
  | call (c : CoreId) (t : Target) (slots : Slots)
  /-- JR. Jumps to a register (R222) -/
  | jr (c : CoreId) (a : Fin 16) (slots : Slots)
  /-- CALR. Calls through a register (R222) -/
  | calr (c : CoreId) (a : Fin 16) (slots : Slots)
  /-- RETI. Returns from a handler, restoring pc, sr and lc and any delay slots or repetition (R196) -/
  | reti (c : CoreId) (slots : Slots)
  /-- RPT. Repeats the next instruction a latched number of times (R187) -/
  | rpt (c : CoreId) (n : RptCount) (x bad : Bool)
  /-- NOP. Does nothing (R223) -/
  | nop (c : CoreId)
  /-- MFS. Reads a special register (R223) -/
  | mfs (c : CoreId) (d : Fin 16) (sp : BitVec 5)
  /-- MTS. Writes a special register (R223) -/
  | mts (c : CoreId) (sp : BitVec 5) (a : Fin 16)
  /-- TRAP. Raises the TRAP exception with its number (R223) -/
  | trap (c : CoreId) (n : BitVec 8)
  /-- BRK. Halts under a debugger or raises BRK (R223) -/
  | brk (c : CoreId)
  /-- WFI. Waits for writes to land and stops the core clock until a routed source is pending (R202) -/
  | wfi (c : CoreId)
  /-- WFI_WAKE. A presentable routed source wakes a core from wfi (R253) -/
  | wfiWake (c : CoreId)
  /-- WST. Waits for the next slot tick event (R203) -/
  | wst (c : CoreId)
  /-- WST_RESUME. The slot tick reaches the core and issue resumes after wst (R203) -/
  | wstResume (c : CoreId)
  /-- CPWAIT. Stalls until the oldest CP3 operation is collected, or faults (R204) -/
  | cpwait (c : CoreId)
  /-- CPWAIT_COLLECT. The oldest CP3 result becomes visible and the stalled cpwait completes or raises CPFAULT (R231) -/
  | cpwaitCollect (c : CoreId)
  /-- INTERRUPT_ACCEPT. A core accepts the presented source, which becomes active and raises the running level (R244) -/
  | interruptAccept (c : CoreId)
  /-- INTERRUPT_ENTRY. At the boundary the core saves its state and starts the vectored handler (R195) -/
  | interruptEntry (c : CoreId)
  /-- IMPRECISE_FAULT. A failed data access completes and the core enters its handler with imp set (R199) -/
  | impreciseFault (c : CoreId)
  /-- C0WR. Writes a CP0 register (R228) -/
  | c0wr (c : CoreId) (r : Fin 16) (a : Fin 16)
  /-- C0RD. Reads a CP0 register (R228) -/
  | c0rd (c : CoreId) (d : Fin 16) (r : Fin 16)
  /-- C0CODE. Starts the loading-table computation of R99 (R225) -/
  | c0code (c : CoreId)
  /-- C0CODE_DONE. At distance 28 c0code writes the table, rate, none and D and clears busy (R225) -/
  | c0codeDone (c : CoreId)
  /-- C0EVAL. Evaluates D and none for the table in CP0 (R228) -/
  | c0eval (c : CoreId)
  /-- C0CNT. Counts the bits of eight codes (R228) -/
  | c0cnt (c : CoreId) (d a : Fin 16)
  /-- C0EXT. Extracts one code from a table word (R228) -/
  | c0ext (c : CoreId) (d a b : Fin 16)
  /-- C0DEP. Deposits one code into a table word (R228) -/
  | c0dep (c : CoreId) (d a b : Fin 16)
  /-- C0NSYM. Computes the number of payload symbols (R228) -/
  | c0nsym (c : CoreId) (d a : Fin 16)
  /-- C1CRC. Updates the CRC-24 with three octets (R229) -/
  | c1crc (c : CoreId) (a : Fin 16)
  /-- C1CRCO. Updates the CRC-24 with one octet (R229) -/
  | c1crco (c : CoreId) (a : Fin 16)
  /-- C1RDC. Reads the CRC register (R229) -/
  | c1rdc (c : CoreId) (d : Fin 16)
  /-- C1WRC. Writes the CRC register (R229) -/
  | c1wrc (c : CoreId) (a : Fin 16)
  /-- C1INI. Sets the CRC to its initial value (R229) -/
  | c1ini (c : CoreId)
  /-- C1PN9. Whitens three octets (R229) -/
  | c1pn9 (c : CoreId) (d a : Fin 16)
  /-- C1PN9O. Whitens one octet (R229) -/
  | c1pn9o (c : CoreId) (d a : Fin 16)
  /-- C1WRP. Writes the PN9 state (R229) -/
  | c1wrp (c : CoreId) (a : Fin 16)
  /-- C1RDP. Reads the PN9 state (R229) -/
  | c1rdp (c : CoreId) (d : Fin 16)
  /-- C1SCR. Scrambles 24 bits with the Seam scrambler (R229) -/
  | c1scr (c : CoreId) (d a : Fin 16)
  /-- C1WRS. Writes the scrambler state (R229) -/
  | c1wrs (c : CoreId) (a : Fin 16)
  /-- C1RDS. Reads the scrambler state (R229) -/
  | c1rds (c : CoreId) (d : Fin 16)
  /-- CADD. Complex saturated add (R230) -/
  | cadd (c : CoreId) (d a b : Fin 16)
  /-- CSUB. Complex saturated subtract (R230) -/
  | csub (c : CoreId) (d a b : Fin 16)
  /-- CCONJ. Complex conjugate (R230) -/
  | cconj (c : CoreId) (d a : Fin 16)
  /-- CMUL. Complex multiply, rounded and saturated (R230) -/
  | cmul (c : CoreId) (d a b : Fin 16)
  /-- CMULC. Multiply by the conjugate (R230) -/
  | cmulc (c : CoreId) (d a b : Fin 16)
  /-- CROT. Rotates by a power of j (R230) -/
  | crot (c : CoreId) (d a b : Fin 16)
  /-- CPWR. Computes complex power (R230) -/
  | cpwr (c : CoreId) (d a : Fin 16)
  /-- CMAC. Complex multiply-accumulate into re and im (R230) -/
  | cmac (c : CoreId) (a b : Fin 16)
  /-- CMACC. Conjugate multiply-accumulate into re and im (R230) -/
  | cmacc (c : CoreId) (a b : Fin 16)
  /-- CCLR. Clears re and im (R230) -/
  | cclr (c : CoreId)
  /-- CRDR. Reads re saturated (R230) -/
  | crdr (c : CoreId) (d : Fin 16)
  /-- CRDI. Reads im saturated (R230) -/
  | crdi (c : CoreId) (d : Fin 16)
  /-- CRDRH. Reads re bits 31:24 (R230) -/
  | crdrh (c : CoreId) (d : Fin 16)
  /-- CRDRL. Reads re bits 23:0 (R230) -/
  | crdrl (c : CoreId) (d : Fin 16)
  /-- CRDIH. Reads im bits 31:24 (R230) -/
  | crdih (c : CoreId) (d : Fin 16)
  /-- CRDIL. Reads im bits 23:0 (R230) -/
  | crdil (c : CoreId) (d : Fin 16)
  /-- CWRR. Writes re (R230) -/
  | cwrr (c : CoreId) (a b : Fin 16)
  /-- CWRI. Writes im (R230) -/
  | cwri (c : CoreId) (a b : Fin 16)
  /-- C3. Sends an operation to the Adit port, or discards it when four are uncollected (R231) -/
  | c3 (c : CoreId) (d a b : Fin 16) (op : BitVec 6)
  /-- ADIT_COMMAND_SEND. A waiting CP3 command is driven as five beats once the port direction allows (R236) -/
  | aditCommandSend
  /-- ADIT_RESPONSE. A three-beat response is received and its result or error recorded for its tag (R235) -/
  | aditResponse (b0 b1 b2 : BitVec 12)
  /-- ADIT_TIMEOUT. An operation unanswered within tmo × 16 ACLK ends with TMO and its tag is retired (R237) -/
  | aditTimeout (c : CoreId) (tag : Fin 4)
  /-- ADIT_DISABLE. Clearing ADIT_CTL.en ends every outstanding operation with OFF and returns the pads (R237) -/
  | aditDisable (v : Word)
  /-- K1KEY. Writes an AES key word (R350) -/
  | k1key (i : Fin 11) (a : Fin 16)
  /-- K1KEK. Loads the KEK into the key register (R350) -/
  | k1kek
  /-- K1CFG. Sets the AES key length (R350) -/
  | k1cfg (a : Fin 16)
  /-- K1CLR. Clears the crypto engine registers (R350) -/
  | k1clr
  /-- K1BW. Writes an AES block word (R350) -/
  | k1bw (i : Fin 6) (a : Fin 16)
  /-- K1BR. Reads an AES block word (R350) -/
  | k1br (d : Fin 16) (i : Fin 6)
  /-- K1ENC. Starts AES encryption of the block (R350) -/
  | k1enc
  /-- K1DEC. Starts AES decryption of the block (R350) -/
  | k1dec
  /-- AES_DONE. The AES operation writes its block at its internal distance (R350) -/
  | aesDone
  /-- K1HINI. Sets the SHA-512 initial state (R350) -/
  | k1hini
  /-- K1HW. Writes a SHA-512 message word (R350) -/
  | k1hw (i : Fin 43) (a : Fin 16)
  /-- K1HRUN. Starts a SHA-512 compression (R350) -/
  | k1hrun
  /-- SHA_DONE. The SHA-512 compression writes its state at distance 84 (R350) -/
  | shaDone
  /-- K1HR. Reads a SHA-512 state word (R350) -/
  | k1hr (d : Fin 16) (i : Fin 22)
  /-- K1ST. Reads the crypto engine status (R350) -/
  | k1st (d : Fin 16)
  /-- K1RSA. Starts the RSA engine on a descriptor (R351) -/
  | k1rsa (a b : Fin 16)
  /-- RSA_DONE. The RSA engine operation ends, writing r or setting rsae (R351) -/
  | rsaDone
  /-- K1RNG. Takes a random word from the pool (R350) -/
  | k1rng (d : Fin 16)
  /-- END_OF_INTERRUPT. A write to INT_EOIc clears the source's active bit and recomputes the running level (R245) -/
  | endOfInterrupt (c : Fin 3) (v : Word)
  /-- SOFTWARE_INTERRUPT. A write to INT_SWSET makes software sources pending (R239) -/
  | softwareInterrupt (v : Word)
  /-- SOURCE_SETTINGS_WRITE. A write to INT_SRCn changes a source's settings from the next cycle, releasing a held bit when it leaves a unit (R246) -/
  | sourceSettingsWrite (n : Fin 128) (v : Word)
  /-- COALESCING_DISABLE. Clearing INT_CUn_CTL.en makes every held member presentable and closes the window (R250) -/
  | coalescingDisable (u : Fin 16) (v : Word)
  /-- COALESCING_COUNT_REACHED. A unit's event count reaches its limit (R248) -/
  | coalescingCountReached (u : Fin 16)
  /-- COALESCING_TIME_EXPIRY. A unit's time window expires (R248) -/
  | coalescingTimeExpiry (u : Fin 16)
  /-- COALESCING_SLOT_EXPIRY. A unit's slot window reaches its slot count (R248) -/
  | coalescingSlotExpiry (u : Fin 16)
  /-- CLOCK_CONTROL_WRITE. A write to SYS_CLKCTL enables sources, starts a CCLK switch or changes dividers, protecting sources in use (R259) -/
  | clockControlWrite (v : Word)
  /-- SOURCE_STABLE. A clock source completes its good-cycle count and becomes stable (R255) -/
  | sourceStable (k : Fin 3)
  /-- PLL_LOCK. A PLL reports lock (R255) -/
  | pllLock (tpll : Bool)
  /-- CLOCK_SWITCH_COMPLETE. The new CCLK source is stable and the glitch-free switch completes (R260) -/
  | clockSwitchComplete
  /-- CLOCK_SWITCH_FORCED. A switch away from a stopped source completes after 16 new cycles and sets forced (R261) -/
  | clockSwitchForced
  /-- DIVIDER_CHANGE. New divider settings take effect at the first common rising edge (R262) -/
  | dividerChange
  /-- GATE_ACCESS_TIMEOUT. An access to a closing gated block not completed in 256 HCLK ends with a bus error and the gate closes (R264) -/
  | gateAccessTimeout (m : Master) (a : Word)
  /-- CLOCK_FAIL. A monitor detects a failed clock and the affected domains fall back to the RC (R266) -/
  | clockFail (k : Fin 4)
  /-- CLOCK_RETURN. A failed clock returns; domains switch back and Bedrock re-aligns (R269) -/
  | clockReturn (k : Fin 4)
  /-- SAFE_RELEASE. A write of SYS_SAFECTL.rel releases the forced outputs when no clock is failed (R269) -/
  | safeRelease (v : Word)
  /-- DEEP_SLEEP_ENTRY. With every condition holding, the part enters deep sleep in its ordered steps (R273) -/
  | deepSleepEntry (abandoned : Bool)
  /-- DEEP_SLEEP_EXIT. A wake source starts the exit at an RTC edge, restarting the buck, reference and PLLs (R274) -/
  | deepSleepExit (edges : Nat)
  /-- EXIT_REFERENCE_TIMEOUT. A reference not stable 2 ms after the wake edge is treated as failed (R274) -/
  | exitReferenceTimeout
  /-- OFF_REQUEST. A keyed write of SYS_PMCTL.off requests off-with-RTC (R276) -/
  | offRequest (v : Word)
  /-- OFF_ENTRY. Once no NVM operation runs, the pads take their off states and only the RTC domain keeps power (R276) -/
  | offEntry
  /-- BOOT_SEQUENCE. After a power or system reset A0 runs the boot ROM steps that configure and release the part (R295) -/
  | bootSequence (bad verify retried : List Nat) (xtal tcxo pll : Bool)
  /-- APPLICATION_RESTART. After an application reset the ROM scans the journal, copies if required, checks bank A and restarts firmware (R296) -/
  | applicationRestart (verify retried : List Nat)
  /-- LINK_RAM_LOAD. A write to SYS_LKLDDAT stores a word in link RAM bank 0 and advances the loader address (R288) -/
  | linkRamLoad (v : Word)
  /-- A1_RELEASE. Setting SYS_CORECTL.a1go releases A1 into the boot ROM, which jumps to SYS_A1ENT (R469) -/
  | a1Release (v : Word)
  /-- LK_RELEASE. Setting SYS_CORECTL.lkgo releases LK at word 0 of the active bank and closes the loader (R469) -/
  | lkRelease (v : Word)
  /-- STATUS. Host-link command returning boot information, SYS_REV and RFE_RPSTAT (R298) -/
  | status (tag : BitVec 16)
  /-- NOR_READ. Host-link command reading words from the configuration memory (R298) -/
  | norRead (tag : BitVec 16) (addr n : Word)
  /-- NOR_ERASE. Host-link command erasing a 4 KiB sector of the configuration memory (R298) -/
  | norErase (tag : BitVec 16) (addr : Word)
  /-- NOR_WRITE. Host-link command programming words within one page of the configuration memory (R298) -/
  | norWrite (tag : BitVec 16) (addr : Word) (ws : List Word)
  /-- PROFILE_WORD. Host-link command programming one regulatory profile word (R298) -/
  | profileWord (tag : BitVec 16) (idx v : Word)
  /-- PROFILE_LOCK. Host-link command locking the regulatory profile (R298) -/
  | profileLock (tag : BitVec 16)
  /-- ASHLAR. Host-link command passing a mailbox command to the Ashlar and returning its response (R298) -/
  | ashlar (tag : BitVec 16) (code : Octet) (ws : List Word)
  /-- RESET. Host-link command replying OK and making a system reset 1 ms later (R298) -/
  | reset (tag : BitVec 16)
  /-- PROGRAM. An NVM program command writes a row from NVM_BUF after its checks (R306) -/
  | program (m : Master) (v : Word)
  /-- PROGRAM_COMPLETE. The row and spare word are programmed and verified, ending DONE or VERIFY (R306) -/
  | programComplete (ok : Bool)
  /-- ERASE. An NVM erase command opens a ticket and starts erase pulses on a sector (R307) -/
  | erase (m : Master) (v : Word)
  /-- ERASE_PULSE_END. A 1 ms erase pulse ends and a blank verify or the next pulse follows (R307) -/
  | erasePulseEnd
  /-- BLANK_VERIFY_END. A blank verify ends; a blank sector closes its tickets, counts the erase and ends DONE (R307) -/
  | blankVerifyEnd (blank : Bool)
  /-- SUSPEND. An NVM suspend stops the running erase pulse (R310) -/
  | suspend (m : Master) (v : Word) (late : Bool)
  /-- SUSPEND_STOP. The erase pulse has stopped; the ticket is SUSPENDED and the bank readable (R310) -/
  | suspendStop
  /-- RESUME. An NVM resume reopens the ticket and repeats the interrupted pulse (R310) -/
  | resume (m : Master) (v : Word)
  /-- FLASH_BROWN_OUT. The flash brown-out detector asserts and ends any pulse in progress with BOR (R314) -/
  | flashBrownOut (written : Nat)
  /-- JOURNAL_WRITE. NVM_JCMD write op copies buffer words into the journal (R319) -/
  | journalWrite (m : Master) (v : Word)
  /-- JOURNAL_INCREMENT. NVM_JCMD increment op adds 1 to a firmware counter word (R319) -/
  | journalIncrement (m : Master) (v : Word)
  /-- CALIBRATION_WRITE. NVM_JCMD calibration-write op writes words inside the calibration set (R319) -/
  | calibrationWrite (m : Master) (v : Word)
  /-- JOURNAL_WRITE_DONE. A journal operation ends and source 80 becomes pending (R319) -/
  | journalWriteDone
  /-- MAILBOX_CLAIM. A read of ASH_CLAIM takes the mailbox for the master if it is free (R327) -/
  | mailboxClaim (m : Master)
  /-- GET_INFO. Ashlar command returning enclave state, digests, counters and loaded slots (R334) -/
  | getInfo (m : Master) (len : BitVec 10)
  /-- GET_CERT. Ashlar command returning a chunk of the device certificate (R332) -/
  | getCert (m : Master) (len : BitVec 10)
  /-- RANDOM. Ashlar command returning random words (R332) -/
  | random (m : Master) (len : BitVec 10)
  /-- HASH_START. Ashlar command opening a hash stream (R333) -/
  | hashStart (m : Master) (len : BitVec 10)
  /-- HASH_DATA. Ashlar command appending words to the hash stream (R333) -/
  | hashData (m : Master) (len : BitVec 10)
  /-- VERIFY_CONFIG. Ashlar command verifying an owner signature over a configuration or image message (R335) -/
  | verifyConfig (m : Master) (len : BitVec 10)
  /-- VERIFY_IMAGE. Ashlar command checking a firmware image in a bank and recording its body digest (R335) -/
  | verifyImage (m : Master) (len : BitVec 10)
  /-- COMMIT_BOOT. Ashlar command raising the sequence floor (R335) -/
  | commitBoot (m : Master) (len : BitVec 10)
  /-- APPLY_SEC. Ashlar command applying the items of a SEC record (R347) -/
  | applySec (m : Master) (len : BitVec 10)
  /-- REGISTER_OWNER. Ashlar command storing the owner key and locking debug (R341) -/
  | registerOwner (m : Master) (len : BitVec 10)
  /-- TRANSFER_OWNER. Ashlar command replacing the owner key under the current owner's signature (R342) -/
  | transferOwner (m : Master) (len : BitVec 10)
  /-- ATTEST. Ashlar command returning a signed attestation report (R336) -/
  | attest (m : Master) (len : BitVec 10)
  /-- VERIFY_TOKEN. Ashlar command verifying an owner-signed firmware token (R333) -/
  | verifyToken (m : Master) (len : BitVec 10)
  /-- LOAD_LINK_KEY. Ashlar command decrypting a link-key envelope into a slot (R338) -/
  | loadLinkKey (m : Master) (len : BitVec 10)
  /-- CLEAR_LINK_KEY. Ashlar command emptying link-key slots and their stored copies (R338) -/
  | clearLinkKey (m : Master) (len : BitVec 10)
  /-- FCNT_RESERVE. Ashlar command reserving a frame-counter block (R340) -/
  | fcntReserve (m : Master) (len : BitVec 10)
  /-- FCNT_RAISE. Ashlar command raising the frame-counter mark (R340) -/
  | fcntRaise (m : Master) (len : BitVec 10)
  /-- DEBUG_CHALLENGE. Ashlar command returning a fresh debug challenge (R344) -/
  | debugChallenge (m : Master) (len : BitVec 10)
  /-- DEBUG_UNLOCK. Ashlar command unlocking debug under an owner token (R344) -/
  | debugUnlock (m : Master) (len : BitVec 10)
  /-- MAILBOX_RESPONSE. The Ashlar writes the response, length and final status, clearing run and setting done (R328) -/
  | mailboxResponse
  /-- MAILBOX_RELEASE. The holder's write of ASH_CTL.rel releases the mailbox and clears its state (R328) -/
  | mailboxRelease (m : Master) (v : Word) (past : Bool)
  /-- WITHDRAW. A write of ASH_CTL.wd withdraws the running command unless it has committed or ended (R329) -/
  | withdraw (m : Master) (v : Word) (past : Bool)
  /-- GLITCH. The voltage glitch detector fires, abandoning private-key operations and raising an alert (R346) -/
  | glitch (gap : Nat)
  /-- TEMPERATURE_ALARM. The die temperature leaves −45 to +130 °C and an alert is raised (R345) -/
  | temperatureAlarm
  /-- HEALTH_TEST_FAIL. The random source fails a health test, emptying the pool and setting hf (R352) -/
  | healthTestFail
  /-- HEALTH_RECOVERED. 1,024 consecutive good raw samples clear hf (R352) -/
  | healthRecovered
  /-- UPD_HEADER. The update service checks an image header from a source before any body block (R357) -/
  | updHeader (src : Fin 3) (tag : BitVec 16) (h : List Word) (ok : Bool)
  /-- UPD_BLOCK. The update service programs a body block into bank B and stages the image after the last (R358) -/
  | updBlock (src : Fin 3) (tag : BitVec 16) (k : Word) (ws : List Word) (crcOk ok : Bool)
  /-- UPD_STATUS. Host-link command reporting the update status (R367) -/
  | updStatus (tag : BitVec 16)
  /-- UPD_ABANDON. Host-link command abandoning the transfer (R360) -/
  | updAbandon (tag : BitVec 16)
  /-- TRANSFER_TIMEOUT. No block for 10 minutes abandons the transfer (R360) -/
  | transferTimeout
  /-- TWIN_LINK_ENABLE. Setting TW_CTL.en starts the twin link from DOWN (R370) -/
  | twinLinkEnable (v : Word)
  /-- COMMA_RECEIVED. Commas arrive on the receive lane and the link enters TRAIN (R370) -/
  | commaReceived
  /-- LINK_UP. 64 clean idle pairs bring the link UP and its latency is measured (R370) -/
  | linkUp (trip : Nat)
  /-- COMMA_TIMEOUT. No comma for 10 µs takes the link DOWN (R370) -/
  | commaTimeout
  /-- LATENCY_MEASURE. Every 2^16 slots the link measures TW_LAT by an echo (R370) -/
  | latencyMeasure (trip : Nat)
  /-- BLOCK_SEND. A unit sends its next block of the slot in type order while room and time remain (R373) -/
  | blockSend
  /-- BLOCK_ACK. An ACK for a sent block arrives and frees its place in the window (R371) -/
  | blockAck (seq : BitVec 8)
  /-- BLOCK_NAK. A NAK arrives; reason 0 re-sends from that block, reason 1 after 50 µs (R372) -/
  | blockNak (seq : BitVec 8) (full : Bool)
  /-- BLOCK_ANSWER_TIMEOUT. No answer within 10 µs re-sends the block, taking the link DOWN after 3 re-sends (R372) -/
  | blockAnswerTimeout
  /-- RING_FULL_RETRY. 50 µs after a ring-full NAK the sender re-sends the block (R372) -/
  | ringFullRetry
  /-- HEARTBEAT_RECEIVED. A good HEARTBEAT arrives, clearing the miss count (R378) -/
  | heartbeatReceived (seq : BitVec 8) (ws : List Word)
  /-- PAGE_RECEIVED. A PAGE block's contents are written into the standby's SRAM (R381) -/
  | pageReceived (seq : BitVec 8) (a : Word) (ws : List Word)
  /-- STATE_RECEIVED. A STATE block arrives; the snapshot is applied at its commit block or discarded if malformed (R382) -/
  | stateReceived (seq : BitVec 8) (ws : List Word)
  /-- DATA_RECEIVED. A DATA block is stored in the receive ring (R374) -/
  | dataReceived (seq : BitVec 8) (ws : List Word)
  /-- HANDOVER_RECEIVED. A HANDOVER block of proposal, acceptance, refusal or confirmation arrives (R390) -/
  | handoverReceived (seq : BitVec 8) (w0 w1 : Word)
  /-- DATA_SEND. A write of TW_TXCMD sends words as one DATA block (R374) -/
  | dataSend (v : Word)
  /-- HEARTBEAT_MISS. No good active heartbeat by the window end counts a miss (R378) -/
  | heartbeatMiss
  /-- TW_FLT_ASSERT. A qualified low level on TW_FLT counts for an edge (R384) -/
  | twFltAssert
  /-- HANDOVER_START. A write of TW_CTL.ho starts a planned handover (R389) -/
  | handoverStart (v : Word)
  /-- HANDOVER_DEADLINE. At E − 200 µs an unaccepted handover ends with hofail (R389) -/
  | handoverDeadline
  /-- RTC_SECOND. The subsecond wraps and the calendar advances by one second (R391) -/
  | rtcSecond
  /-- RTC_TRIM_CARRY. The RTC trim accumulator carries or borrows and the subsecond steps by 2 or holds (R403) -/
  | rtcTrimCarry
  /-- CALENDAR_FREEZE. A read of RTC_SUBSEC freezes the calendar into the master's shadow (R393) -/
  | calendarFreeze (m : Master)
  /-- CALENDAR_RELEASE. A read of RTC_YEAR returns the shadow year and releases the shadow (R393) -/
  | calendarRelease (m : Master)
  /-- SHADOW_STALE. A shadow held 32,768 RTC cycles is released and stale set (R393) -/
  | shadowStale (m : Master)
  /-- CALENDAR_SET_REQUEST. A write of RTC_SETCTL.go requests a calendar set, or is refused with serr (R394) -/
  | calendarSetRequest (v : Word)
  /-- CALENDAR_SET. At the next RTC edge the calendar takes the set time and the alarms are recomputed (R394) -/
  | calendarSet
  /-- ALARM_ENABLE. A write of RTC_ALnCTL.en enables an alarm, or is ignored with serr (R395) -/
  | alarmEnable (n : Fin 4) (v : Word)
  /-- ALARM_ARM. At the next RTC edge the alarm is armed with its next occurrence (R395) -/
  | alarmArm (n : Fin 4)
  /-- ALARM_FIRE. An armed alarm reaches its occurrence, sets fired and makes its source pending (R396) -/
  | alarmFire (n : Fin 4)
  /-- BACKUP_SWITCH_OVER. VDD falls and the RTC domain switches to VBK, counting and stamping the switch-over (R400) -/
  | backupSwitchOver
  /-- BACKUP_SWITCH_BACK. VDD rises and the RTC domain switches back to VDD (R400) -/
  | backupSwitchBack
  /-- RTC_DOMAIN_LOSS. The RTC supply falls below 1.45 V and the domain restarts as at first power-up (R401) -/
  | rtcDomainLoss
  /-- SWITCH_OVER_STAMP_CLEAR. A write of 1 to RTC_SWTS1.v clears both stamp words (R400) -/
  | switchOverStampClear (v : Word)
  /-- LOSS_CLEAR. A write of 1 to RTC_STAT.lost clears lost and logd (R402) -/
  | lossClear (v : Word)
  /-- DALI_TRANSMIT. A write of DALI_TXCTL.go starts a forward-frame transmission after its checks (R411) -/
  | daliTransmit (v : Word) (busLow : Bool)
  /-- DALI_ABORT. A write of DALI_TXCTL.abort ends a transmission before its start bit with ABORTED (R411) -/
  | daliAbort (v : Word)
  /-- SETTLING_DONE. The bus has been idle for the drawn settling time and the frame starts (R408) -/
  | settlingDone
  /-- TWICE_TIMEOUT. The second frame cannot start within 100 ms and the transmission ends TWICEFAIL (R408) -/
  | twiceTimeout
  /-- COLLISION. A sampled bus level differs from the output; the frame stops and the bus is driven low (R410) -/
  | collision
  /-- COLLISION_BACKOFF_END. 1,300 µs of low drive ends and the interface waits to resend, or ends COLL (R410) -/
  | collisionBackoffEnd
  /-- DALI_FRAME_SENT. A forward frame ends; it completes DONE or opens an answer window (R409) -/
  | daliFrameSent
  /-- ANSWER_WINDOW_CLOSE. The answer window ends with NOANS, DONE or BWERR (R409) -/
  | answerWindowClose (frame : Option (List Nat))
  /-- DALI_FRAME_RECEIVED. 1,200 µs without an edge ends a received frame, which is stored or dropped (R407) -/
  | daliFrameReceived (edges : List Nat)
  /-- DALI_RX_READ. A read of DALI_RXD returns and removes the oldest FIFO entry (R412) -/
  | daliRxRead (m : Master)
  /-- BUS_LOW_FAULT. The bus stays low 45 ms undriven by the part and lowf is set (R413) -/
  | busLowFault
  /-- DALI_HOLD. Setting DALI_CTL.hold drives the bus low and refuses a waiting transmission (R413) -/
  | daliHold (v : Word)
  /-- PWM_PERIOD_START. A PWM count wraps and new period and duty values take effect (R414) -/
  | pwmPeriodStart (n : Fin 2)
  /-- ADC_SEQUENCE_START. A write of ADC_CTL.go or the Bedrock trigger starts a conversion sequence (R418) -/
  | adcSequenceStart (v : Word)
  /-- ADC_CONVERSION_DONE. One conversion ends and its corrected result is written; the last sets done (R418) -/
  | adcConversionDone (raw : BitVec 12)
  /-- ADC_CALIBRATE. A write of ADC_CTL.cal starts self-calibration (R419) -/
  | adcCalibrate (v : Word)
  /-- ADC_CALIBRATION_DONE. Self-calibration ends and sets gain and offset (R419) -/
  | adcCalibrationDone (sum0 sum1 : BitVec 18)
  /-- HL_FRAME_RECEIVED. A host-link frame is received whole and answered ACK or NAK, and stored (R423) -/
  | hlFrameReceived (fs : List Word)
  /-- HL_ACK_RECEIVED. An ACK for the part's frame ends it with DONE (R423) -/
  | hlAckReceived (seq : BitVec 8)
  /-- HL_NAK_RECEIVED. A NAK makes the part resend the frame (R423) -/
  | hlNakReceived (seq : BitVec 8) (reason : Fin 2)
  /-- HL_ACK_TIMEOUT. No ACK within ato ms resends the frame, ending CRC_FAIL after 3 (R423) -/
  | hlAckTimeout
  /-- HL_GAP_TIMEOUT. A UART gap longer than HL_CFG.gap discards the frame in progress (R422) -/
  | hlGapTimeout
  /-- HL_CSN_RISE. HL_CSN rising inside a frame discards or restarts it (R425) -/
  | hlCsnRise (fromHost : Bool)
  /-- HL_FRAME_START. In deep sleep a frame start makes source 93 pending and wakes the part (R426) -/
  | hlFrameStart
  /-- HL_TRANSMIT. A write of HL_TXCMD sends words as one frame (R424) -/
  | hlTransmit (v : Word)
  /-- NODE_INFO. Host-link command returning node identity, versions, ASN, parent and time (R426) -/
  | nodeInfo (tag : BitVec 16)
  /-- NEIGHBOURS. Host-link command returning neighbour summaries (R426) -/
  | neighbours (tag : BitVec 16) (first : Word)
  /-- COUNTERS. Host-link command returning PHY, SLOT and HOP counters (R426) -/
  | counters (tag : BitVec 16)
  /-- MESH_SEND. Host-link command handing a frame to the Hopper with fwd = 1 (R167) -/
  | meshSend (tag : BitVec 16) (os : List Octet)
  /-- LAMP_SET. Host-link command setting lamp level and fade through DALI (R426) -/
  | lampSet (tag : BitVec 16) (level fade : Word)
  /-- LAMP_GET. Host-link command returning lamp level, gear status and failures (R426) -/
  | lampGet (tag : BitVec 16)
  /-- DALI_FRAME. Host-link command running one DALI transmission (R411) -/
  | daliFrame (tag : BitVec 16) (frame ctl : Word) (busLow : Bool)
  /-- ENERGY. Host-link command returning D4i energy and diagnostics data (R426) -/
  | energy (tag : BitVec 16)
  /-- SCHED_GET. Host-link command returning the lamp schedule (R426) -/
  | schedGet (tag : BitVec 16)
  /-- SCHED_SET. Host-link command setting the lamp schedule under an owner-signed token (R333) -/
  | schedSet (tag : BitVec 16) (msg sig : List Word)
  /-- TIME_SET. Host-link command setting the RTC (R394) -/
  | timeSet (tag : BitVec 16) (t0 t1 : Word) (sub : BitVec 15)
  /-- LOG_READ. Host-link command returning Core Sample entries (R426) -/
  | logRead (tag : BitVec 16) (first n : Word)
  /-- SPIM_TRANSFER. A write of SPIM_CMD.go starts an SPI transfer (R427) -/
  | spimTransfer (v : Word)
  /-- SPIM_TRANSFER_DONE. The SPI transfer ends, sets its status and makes source 96 pending (R427) -/
  | spimTransferDone (os : List Octet)
  /-- I2C_TRANSFER. A write of I2C_CMD.go starts an I2C write and read (R428) -/
  | i2cTransfer (v : Word)
  /-- I2C_TRANSFER_DONE. The I2C transfer ends with DONE or its failure status (R428) -/
  | i2cTransferDone (how : Fin 4) (os : List Octet)
  /-- I2C_TIMEOUT. SCL or SDA held low beyond tmo ms ends the transfer with STRETCH or BUSLOW (R428) -/
  | i2cTimeout (stretch : Bool)
  /-- GPIO_SET. A write of GPIO_SET sets bits of GPIO_OUT (R429) -/
  | gpioSet (v : Word)
  /-- GPIO_CLR. A write of GPIO_CLR clears bits of GPIO_OUT (R429) -/
  | gpioClr (v : Word)
  /-- GPIO_EDGE. A selected edge on a pad sets GPIO_EVT and makes its source pending (R430) -/
  | gpioEdge (n : Fin 24) (rising : Bool)
  /-- DEBUG_ATTACH. The attach sequence on DIO attaches the probe (R432) -/
  | debugAttach
  /-- DEBUG_DETACH. A write of DBG_CTL.det detaches the port (R432) -/
  | debugDetach
  /-- DEBUG_TRANSACTION. A probe header is answered OK, WAIT, ERROR or not at all (R434) -/
  | debugTransaction (h : BitVec 12) (v : Word) (dOk : Bool)
  /-- DEBUG_BUS_READ. A port read of DBG_DATA starts a bus read at DBG_ADDR (R435) -/
  | debugBusRead
  /-- DEBUG_BUS_WRITE. A port write of DBG_DATA starts a bus write at DBG_ADDR (R435) -/
  | debugBusWrite (v : Word)
  /-- DEBUG_HALT. A write of DBG_CTL.halt halts a core at its next boundary (R436) -/
  | debugHalt (cores : BitVec 3)
  /-- DEBUG_RUN. A write of DBG_CTL.run resumes a halted core (R436) -/
  | debugRun (cores : BitVec 3)
  /-- DEBUG_STEP. A write of DBG_CTL.step runs a halted core for one instruction (R436) -/
  | debugStep (cores : BitVec 3)
  /-- DEBUG_RESET. A port write of DBG_CTL.rst requests a system reset (R438) -/
  | debugReset
  /-- CORE_REGISTER_ACCESS. A port access to DBG_CREG reads or writes a halted core's register (R437) -/
  | coreRegisterAccess (rd : Bool) (v : Word)
  /-- ENTRY_WRITE. The head request is written as one entry, extending the chain and updating the head (R444) -/
  | entryWrite
  /-- HEAD_READ. A read of CS_HEAD0 latches CS_HEAD1 and CS_HIDX for the reading master (R445) -/
  | headRead (m : Master)
  /-- FIRMWARE_ENTRY. A write to CS_FWCMD queues a firmware entry, or reports ILLEGAL or BUSY (R445) -/
  | firmwareEntry (m : Master) (v : Word)
  /-- FLASH_BROWN_OUT_RELEASE. VDD rises above 1.80 V, the flash brown-out detector releases and NVM_STAT.bor clears, so program and erase commands are accepted again (R314) -/
  | flashBrownOutRelease
  /-- VDD_WARNING_RELEASE. VDD rises back above the warning level and SYS_SUPSTAT.vdlo clears (R278) -/
  | vddWarningRelease
  /-- RANDOM_DATA_READY. The random source adds a word that passed the health tests to the pool, and Ashlar source 4 becomes pending when avail reaches 16 (R352) -/
  | randomDataReady
  /-- DIE_TEMPERATURE_RETURN. The die temperature comes back inside −45 to +130 °C, and private-key operations are no longer refused (R345) -/
  | dieTemperatureReturn
  /-- BAD_BLOCK_RECEIVED. A twin block that fails its CRC-24 or has a code error arrives, and the receiver answers NAK with reason 0x00 (R371) -/
  | badBlockReceived (seq : BitVec 8)
  deriving DecidableEq, Repr

end Sys2Proof
end

