-- ==== Sys2Proof/Config.lean ====
section
/-! DEFINITION. What the spec leaves open: constants without a body, so that no proof can lean on a value of them.
Each is named in the assumption log. -/
namespace Sys2Proof

/-- The free values: one unconstrained number for each count of the model's own counter `State.fresh`
(assumption 3). -/
opaque Config.freeValue : Nat → Nat

/-- What an unlisted memory word reads as after its region has lost its contents: a number for each loss of the
region and each address (R26, R275; assumption 4). -/
opaque Config.lostWord : Nat → Nat → Word

/-- The contents of the boot ROM, which the spec does not give (R17; assumption 5). -/
opaque Config.romWord : Nat → Word

/-- The listener program that the boot ROM loads into link RAM in the safe commissioning state (R297; assumption 5). -/
opaque Config.listenerProgram : List Word

/-- Bits 7:0 of SYS_REV, the silicon revision (spec 01, register list; assumption 6). -/
opaque Config.siliconRevision : BitVec 8

/-- The modulus of the unit's identity key, RSA-4096 (R324; assumption 10). -/
opaque Config.identityModulus : Nat

/-- The modulus of the vendor key in the enclave ROM (R355; assumption 10); its exponent is taken as 65,537. -/
opaque Config.vendorModulus : Nat

/-- The private exponent of the identity key, which never leaves the enclave (R324; assumption 10). -/
opaque Config.identityPrivate : Nat

/-- The device certificate, in octets (R324; assumption 10). -/
opaque Config.certificate : List Nat

/-- The key-encryption key that the unit's SRAM power-up state yields, 32 octets (R325; assumption 10). -/
opaque Config.kek : List Nat

/-- Where the Ashlar core sees its RAM, and what its ROM holds, which the spec does not give (R323; assumption 21). -/
opaque Config.ashRamBase : Nat

/-- Words of the journal that differ from unit to unit as manufacture leaves them: the calibration set, the GENESIS
entry (R318, R321, R441; assumption 10). -/
opaque Config.madeWord : Nat → Word

/-- What a port of an engine takes for a word at an address that it does not reach: the transfer ends with a bus error, and the spec
does not give its data (R15; assumption 98). -/
opaque Config.unreachedWord : Nat → Nat → Word

end Sys2Proof
end

