-- ==== Sys2Proof/Machine/Bits.lean ====
section
/-! DEFINITION. Bit fields of a word, signed readings, octets in words (R2), and the sparse maps in which registers
and memory are held. -/
namespace Sys2Proof.Machine

/-- Bits lo + len − 1 : lo of a word, as a number. -/
def fieldOf (w : Word) (lo len : Nat) : Nat := (w.toNat >>> lo) % 2 ^ len

/-- The word with bits lo + len − 1 : lo replaced. -/
def withField (w : Word) (lo len v : Nat) : Word :=
  (w &&& ~~~ BitVec.ofNat 24 ((2 ^ len - 1) <<< lo)) ||| BitVec.ofNat 24 ((v % 2 ^ len) <<< lo)

/-- One bit of a word replaced. -/
def withBit (w : Word) (i : Nat) (b : Bool) : Word := withField w i 1 (if b then 1 else 0)

/-- A field of `len` bits read in two's complement. -/
def signed (len v : Nat) : Int := if v % 2 ^ len < 2 ^ (len - 1) then (v % 2 ^ len : Nat) else (v % 2 ^ len : Nat) - (2 ^ len : Nat)

/-- The word that holds an integer modulo 2^24. -/
def wordOfInt (i : Int) : Word := BitVec.ofInt 24 i

/-- A Bool as the number 0 or 1. -/
def b2n (b : Bool) : Nat := if b then 1 else 0

/-- Octet k of a word, k = 0 the highest (R2); none beyond 2. -/
def octetOf (w : Word) (k : Nat) : Nat := if k < 3 then fieldOf w (16 - 8 * k) 8 else 0

/-- The word with octet k replaced (R2). -/
def withOctet (w : Word) (k v : Nat) : Word := if k < 3 then withField w (16 - 8 * k) 8 v else w

/-- The octets of a list of words, in the order of R2. -/
def octetsOf (ws : List Word) : List Nat := ws.flatMap fun w => [octetOf w 0, octetOf w 1, octetOf w 2]

/-- Octets packed three to a word; unused positions of the last word are 0 (R2). -/
def packOctets : List Nat → List Word
  | a :: b :: c :: os => BitVec.ofNat 24 (a % 256 * 65536 + b % 256 * 256 + c % 256) :: packOctets os
  | [a, b] => [BitVec.ofNat 24 (a % 256 * 65536 + b % 256 * 256)]
  | [a] => [BitVec.ofNat 24 (a % 256 * 65536)]
  | [] => []

/-- A value of consecutive words, the least significant first (R3). -/
def ofWords : List Word → Nat
  | [] => 0
  | w :: ws => w.toNat + 2 ^ 24 * ofWords ws

/-- The n words of a value, the least significant first (R3). -/
def toWords : Nat → Nat → List Word
  | 0, _ => []
  | n + 1, v => BitVec.ofNat 24 v :: toWords n (v / 2 ^ 24)

/-- Element i of a list, a default beyond its end. -/
def nth {α : Type} (d : α) (l : List α) (i : Nat) : α := l.getD i d

/-- Element i of a list changed by f; the list as it is beyond its end. -/
def mapAt {α : Type} (f : α → α) : List α → Nat → List α
  | [], _ => []
  | x :: xs, 0 => f x :: xs
  | x :: xs, i + 1 => x :: mapAt f xs i

/-- Element i of a list replaced. -/
def setAt {α : Type} (v : α) (l : List α) (i : Nat) : List α := mapAt (fun _ => v) l i

/-- a divided by b, rounded up; 0 for b = 0. -/
def ceilDiv (a b : Nat) : Nat := if b = 0 then 0 else (a + b - 1) / b

/-- Sparse words by address. What an unlisted address reads as is given by a function. -/
abbrev WordMap := List (Nat × Word)

/-- The word at an address. -/
def WordMap.get (d : Nat → Word) : WordMap → Nat → Word
  | [], a => d a
  | (k, w) :: m, a => if a = k then w else WordMap.get d m a

/-- The map without an address. -/
def WordMap.erase : WordMap → Nat → WordMap
  | [], _ => []
  | (k, w) :: m, a => if a = k then WordMap.erase m a else (k, w) :: WordMap.erase m a

/-- The map with an entry put before the first greater address. -/
def WordMap.insert : WordMap → Nat → Word → WordMap
  | [], a, v => [(a, v)]
  | (k, w) :: m, a, v => if a < k then (a, v) :: (k, w) :: m else (k, w) :: WordMap.insert m a v

/-- The map after a write: the canonical form lists no word equal to what the unlisted address reads as. -/
def WordMap.set (d : Nat → Word) (m : WordMap) (a : Nat) (v : Word) : WordMap :=
  if v = d a then WordMap.erase m a else WordMap.insert (WordMap.erase m a) a v

/-- The map with every address that `p` names unlisted. -/
def WordMap.drop (p : Nat → Bool) (m : WordMap) : WordMap := m.filter fun e => ! p e.1

/-- Whether every address is above a bound and the addresses rise. -/
def WordMap.sortedFrom : Nat → WordMap → Bool
  | _, [] => true
  | lo, (k, _) :: m => decide (lo ≤ k) && WordMap.sortedFrom (k + 1) m

/-- The canonical form: addresses strictly rising, no word equal to what the unlisted address reads as. -/
def WordMap.wf (d : Nat → Word) (m : WordMap) : Bool := WordMap.sortedFrom 0 m && m.all fun e => decide (e.2 ≠ d e.1)

end Sys2Proof.Machine
end

