-- ==== Sys2Proof/Machine/Crypto.lean ====
section
/-! DEFINITION. The standard algorithms that the spec names by their standards: AES (FIPS 197), SHA-512 (FIPS 180-4),
CCM* (IEEE 802.15.4), and the RSA padding schemes of PKCS #1 v2.2. Octet strings are lists of numbers below 256.
PRESUMED: their text is outside the spec (assumption 15). -/
namespace Sys2Proof.Machine

/-! ## Octet strings and numbers -/

/-- The number that octets spell, the first the most significant. -/
def natOfOctets (os : List Nat) : Nat := os.foldl (fun acc o => acc * 256 + o % 256) 0

/-- The n octets of a number, the most significant first. -/
def octetsOfNat : Nat → Nat → List Nat
  | 0, _ => []
  | n + 1, v => octetsOfNat n (v / 256) ++ [v % 256]

/-- Octets XORed place by place, as long as the shorter. -/
def xorOctets (a b : List Nat) : List Nat := List.zipWith (fun x y => x ^^^ y) a b

/-- A list cut into pieces of n. -/
def chunks {α : Type} (n : Nat) : Nat → List α → List (List α)
  | 0, _ => []
  | fuel + 1, l => if l.isEmpty then [] else l.take n :: chunks n fuel (l.drop n)

/-! ## AES (FIPS 197) -/

/-- Multiplication by x in the field of AES. -/
def aesXtime (a : Nat) : Nat := if a < 128 then a * 2 else (a * 2 - 256) ^^^ 0x1B

/-- Multiplication in the field of AES, over n bits of b. -/
def aesMul : Nat → Nat → Nat → Nat
  | 0, _, _ => 0
  | n + 1, a, b => (if b % 2 = 1 then a else 0) ^^^ aesMul n (aesXtime a) (b / 2)

/-- a to the power n in the field of AES, by fuel. -/
def aesPow (a : Nat) : Nat → Nat
  | 0 => 1
  | n + 1 => aesMul 8 (aesPow a n) a

/-- The S-box: the inverse, then the affine map. -/
def aesSub (a : Nat) : Nat :=
  let b := if a = 0 then 0 else aesPow a 254
  let rot := fun n => (b * 2 ^ n) % 256 + b / 2 ^ (8 - n)
  b ^^^ rot 1 ^^^ rot 2 ^^^ rot 3 ^^^ rot 4 ^^^ 0x63

/-- The S-box as a table. -/
def aesSbox : List Nat := (List.range 256).map aesSub

/-- An octet through the S-box. -/
def aesS (a : Nat) : Nat := aesSbox.getD a 0

/-- An octet through the inverse S-box. -/
def aesSInv (a : Nat) : Nat := aesSbox.idxOf a

/-- The key schedule: i words made so far, newest first, with the key of nk words. -/
def aesExpand (nk : Nat) : Nat → Nat → List (List Nat) → List (List Nat)
  | 0, _, ws => ws
  | n + 1, i, ws =>
    let prev := ws.headD []
    let t := if i % nk = 0 then
        xorOctets ((prev.drop 1 ++ prev.take 1).map aesS) [aesPow 2 (i / nk - 1), 0, 0, 0]
      else if 6 < nk ∧ i % nk = 4 then prev.map aesS else prev
    aesExpand nk n (i + 1) (xorOctets (ws.getD (nk - 1) []) t :: ws)

/-- The round keys of a key of 16 or 32 octets, 16 octets each. -/
def aesRoundKeys (key : List Nat) : List (List Nat) :=
  let nk := key.length / 4
  let n := 4 * (nk + 7)
  let ws := (aesExpand nk (n - nk) nk (chunks 4 64 key).reverse).reverse
  (chunks 4 64 ws).map List.flatten

/-- The rows of the state shift: octet 4c + r comes from column c + k·r. -/
def aesShift (k : Nat) (s : List Nat) : List Nat :=
  (List.range 16).map fun i => s.getD ((4 * (i / 4 + k * (i % 4)) + i % 4) % 16) 0

/-- One column times a circulant matrix. -/
def aesMixCol (m c : List Nat) : List Nat :=
  (List.range 4).map fun r =>
    (List.range 4).foldl (fun acc j => acc ^^^ aesMul 8 (c.getD j 0) (m.getD ((4 + j - r) % 4) 0)) 0

/-- The columns of the state times a circulant matrix. -/
def aesMix (m s : List Nat) : List Nat := (chunks 4 5 s).flatMap (aesMixCol m)

/-- Encryption of one block of 16 octets. -/
def aesEncrypt (key block : List Nat) : List Nat :=
  match aesRoundKeys key with
  | [] => block
  | k0 :: ks =>
    let s := ks.dropLast.foldl (fun s k => xorOctets (aesMix [2, 3, 1, 1] (aesShift 1 (s.map aesS))) k) (xorOctets block k0)
    xorOctets (aesShift 1 (s.map aesS)) (ks.getLastD [])

/-- Decryption of one block of 16 octets. -/
def aesDecrypt (key block : List Nat) : List Nat :=
  match (aesRoundKeys key).reverse with
  | [] => block
  | k0 :: ks =>
    let s := ks.dropLast.foldl (fun s k => aesMix [14, 11, 13, 9] (xorOctets ((aesShift 3 s).map aesSInv) k)) (xorOctets block k0)
    xorOctets ((aesShift 3 s).map aesSInv) (ks.getLastD [])

/-- Octets padded with zeros to whole blocks of 16. -/
def aesPad (os : List Nat) : List Nat := os ++ List.replicate ((16 - os.length % 16) % 16) 0

/-! ## CCM* (R339, IEEE 802.15.4) -/

/-- The MIC length in octets of a security level. -/
def micLen (level : Nat) : Nat :=
  match level % 4 with
  | 0 => 0
  | 1 => 4
  | 2 => 8
  | _ => 16

/-- The CBC-MAC of CCM* over the authenticated octets a and the message m. -/
def ccmTag (key nonce a m : List Nat) (mic : Nat) : List Nat :=
  let flags := (if a.isEmpty then 0 else 64) + (if mic = 0 then 0 else (mic - 2) / 2 * 8) + 1
  let b0 := flags :: nonce ++ octetsOfNat 2 m.length
  let aa := if a.isEmpty then [] else aesPad (octetsOfNat 2 a.length ++ a)
  ((chunks 16 1024 (b0 ++ aa ++ aesPad m)).foldl (fun x b => aesEncrypt key (xorOctets x b)) (List.replicate 16 0)).take mic

/-- The key stream block i of CCM*. -/
def ccmStream (key nonce : List Nat) (i : Nat) : List Nat := aesEncrypt key (1 :: nonce ++ octetsOfNat 2 i)

/-- A message under the key stream. -/
def ccmCrypt (key nonce m : List Nat) : List Nat :=
  ((chunks 16 256 m).zipIdx 1).flatMap fun c => xorOctets c.1 (ccmStream key nonce c.2)

/-- The octets that follow the authenticated header: the message, encrypted at levels 4 to 7, and the MIC. -/
def ccmSeal (key nonce : List Nat) (level : Nat) (a m : List Nat) : List Nat :=
  let auth := if 4 ≤ level then a else a ++ m
  let body := if 4 ≤ level then m else []
  let tag := xorOctets (ccmTag key nonce auth body (micLen level)) (ccmStream key nonce 0)
  (if 4 ≤ level then ccmCrypt key nonce m else m) ++ tag

/-- The message of sealed octets, or none where the MIC does not match. -/
def ccmOpen (key nonce : List Nat) (level : Nat) (a c : List Nat) : Option (List Nat) :=
  let n := c.length - micLen level
  let m := if 4 ≤ level then ccmCrypt key nonce (c.take n) else c.take n
  if ccmSeal key nonce level a m = c ∧ micLen level ≤ c.length then some m else none

/-! ## SHA-512 (FIPS 180-4) -/

/-- The first 80 primes. -/
def sha512Primes : List Nat :=
  [2, 3, 5, 7, 11, 13, 17, 19, 23, 29, 31, 37, 41, 43, 47, 53, 59, 61, 67, 71, 73, 79, 83, 89, 97, 101, 103, 107, 109,
    113, 127, 131, 137, 139, 149, 151, 157, 163, 167, 173] ++
  [179, 181, 191, 193, 197, 199, 211, 223, 227, 229, 233, 239, 241, 251, 257, 263, 269, 271, 277, 281, 283, 293, 307,
    311, 313, 317, 331, 337, 347, 349, 353, 359, 367, 373, 379, 383, 389, 397, 401, 409]

/-- The greatest r below 2^n more than acc with r^k at most v, bit by bit. -/
def rootBits (k v : Nat) : Nat → Nat → Nat
  | 0, acc => acc
  | n + 1, acc => rootBits k v n (if (acc + 2 ^ n) ^ k ≤ v then acc + 2 ^ n else acc)

/-- The round constants: the first 64 bits of the fractions of cube roots. -/
def sha512K : List (BitVec 64) := sha512Primes.map fun p => BitVec.ofNat 64 (rootBits 3 (p * 2 ^ 192) 68 0)

/-- The initial hash value: the first 64 bits of the fractions of square roots. -/
def sha512Init : List (BitVec 64) := (sha512Primes.take 8).map fun p => BitVec.ofNat 64 (rootBits 2 (p * 2 ^ 128) 70 0)

/-- The message schedule, newest first. -/
def sha512Schedule : Nat → List (BitVec 64) → List (BitVec 64)
  | 0, ws => ws
  | n + 1, ws =>
    let a := ws.getD 14 0#64
    let b := ws.getD 1 0#64
    let s0 := (a.rotateRight 1) ^^^ (a.rotateRight 8) ^^^ (a >>> 7)
    let s1 := (b.rotateRight 19) ^^^ (b.rotateRight 61) ^^^ (b >>> 6)
    sha512Schedule n ((ws.getD 15 0#64 + s0 + ws.getD 6 0#64 + s1) :: ws)

/-- One round on the eight working words. -/
def sha512Round (st : List (BitVec 64)) (kw : BitVec 64 × BitVec 64) : List (BitVec 64) :=
  match st with
  | [a, b, c, d, e, f, g, h] =>
    let s1 := (e.rotateRight 14) ^^^ (e.rotateRight 18) ^^^ (e.rotateRight 41)
    let t1 := h + s1 + ((e &&& f) ^^^ (~~~ e &&& g)) + kw.1 + kw.2
    let s0 := (a.rotateRight 28) ^^^ (a.rotateRight 34) ^^^ (a.rotateRight 39)
    let t2 := s0 + ((a &&& b) ^^^ (a &&& c) ^^^ (b &&& c))
    [t1 + t2, a, b, c, d + t1, e, f, g]
  | _ => st

/-- One block of 128 octets into the hash value. -/
def sha512Block (h : List (BitVec 64)) (block : List Nat) : List (BitVec 64) :=
  let w := (chunks 8 16 block).map fun o => BitVec.ofNat 64 (natOfOctets o)
  let ws := (sha512Schedule 64 w.reverse).reverse
  List.zipWith (· + ·) h ((sha512K.zip ws).foldl sha512Round h)

/-- The padding of a message of len octets. -/
def sha512Pad (len : Nat) : List Nat :=
  0x80 :: List.replicate ((239 - len % 128) % 128) 0 ++ octetsOfNat 16 (8 * len)

/-- The 64 octets of a hash value. -/
def sha512Out (h : List (BitVec 64)) : List Nat := h.flatMap fun w => octetsOfNat 8 w.toNat

/-- The SHA-512 digest of octets. -/
def sha512 (m : List Nat) : List Nat :=
  let p := m ++ sha512Pad m.length
  sha512Out ((chunks 128 (p.length / 128 + 1) p).foldl sha512Block sha512Init)

/-- HMAC with SHA-512 (RFC 2104). -/
def hmac512 (key m : List Nat) : List Nat :=
  let k0 := if 128 < key.length then sha512 key else key
  let k := k0 ++ List.replicate (128 - k0.length) 0
  sha512 (k.map (fun x => x ^^^ 0x5C) ++ sha512 (k.map (fun x => x ^^^ 0x36) ++ m))

/-! ## RSA (PKCS #1 v2.2) -/

/-- Square and multiply over n bits of e, the lowest first. -/
def powMod (m : Nat) : Nat → Nat → Nat → Nat → Nat
  | 0, _, _, acc => acc
  | n + 1, b, e, acc => powMod m n (b * b % m) (e / 2) (if e % 2 = 1 then acc * b % m else acc)

/-- The mask generation function MGF1 with SHA-512. -/
def mgf1 (seed : List Nat) (len : Nat) : List Nat :=
  ((List.range (len / 64 + 1)).flatMap fun i => sha512 (seed ++ octetsOfNat 4 i)).take len

/-- The digest of an RSA public key (R326): modulus as 512 octets, then the exponent as 4. -/
def keyDigest (n e : Nat) : List Nat := sha512 (octetsOfNat 512 n ++ octetsOfNat 4 e)

/-- The identity digest of the unit (R326). -/
def identityDigest : List Nat := keyDigest Config.identityModulus 65537

/-- The chain value of a log entry: octets 0–5 of the SHA-512 of the previous chain value and the entry's words 0–5, as two words
(R441). -/
def chainWords (prev ws : List Word) : List Word := packOctets ((sha512 (octetsOf (prev ++ ws))).take 6)

/-- The chain value that GENESIS starts from: octets 0–5 of the identity digest (R441). -/
def genesisPrev : List Word := packOctets (identityDigest.take 6)

/-- Words 0–5 of the GENESIS entry (R441, R443): its time is that of manufacture. -/
def genesisWords : List Word :=
  [0x010000#24, Config.madeWord 0x8001, Config.madeWord 0x8002, Config.madeWord 0x8003] ++ packOctets (identityDigest.take 6)

/-- EMSA-PSS verification of an encoded message of 512 octets, salt of 64 octets, for a digest. -/
def pssVerify (digest em : List Nat) : Bool :=
  let db0 := em.take 447
  let h := (em.drop 447).take 64
  let db := xorOctets db0 (mgf1 h 447)
  let db' := setAt (db.getD 0 0 % 128) db 0
  let salt := db'.drop 383
  em.length == 512 && em.getD 511 0 == 0xBC && decide (em.getD 0 0 < 128)
    && db'.take 383 == List.replicate 382 0 ++ [1]
    && sha512 (List.replicate 8 0 ++ digest ++ salt) == h

/-- EMSA-PSS encoding of a digest with a salt of 64 octets. -/
def pssEncode (digest salt : List Nat) : List Nat :=
  let h := sha512 (List.replicate 8 0 ++ digest ++ salt)
  let db := List.replicate 382 0 ++ [1] ++ salt
  let m := xorOctets db (mgf1 h 447)
  setAt (m.getD 0 0 % 128) m 0 ++ h ++ [0xBC]

/-- EME-OAEP decoding of 512 octets with an empty label: the message, or none. -/
def oaepDecode (em : List Nat) : Option (List Nat) :=
  let seed := xorOctets ((em.drop 1).take 64) (mgf1 (em.drop 65) 64)
  let db := xorOctets (em.drop 65) (mgf1 seed 447)
  let rest := (db.drop 64).dropWhile (· == 0)
  if em.length = 512 ∧ em.getD 0 0 = 0 ∧ db.take 64 = sha512 [] ∧ rest.headD 0 = 1 then some (rest.drop 1) else none

end Sys2Proof.Machine
end

