-- ==== Sys2Proof/Machine/RegMap.lean ====
section
/-! DEFINITION. The register lists of the spec: for every register its bus address under its own name, and for every
block the rows of its register list with the bits that each access code of R6 covers and the reset value. -/
namespace Sys2Proof.Machine

/-! The block bases of R19. -/
abbrev Base.SYS : Nat := 0xF00000
abbrev Base.INT : Nat := 0xF01000
abbrev Base.TB : Nat := 0xF02000
abbrev Base.RTC : Nat := 0xF03000
abbrev Base.NVM : Nat := 0xF04000
abbrev Base.RFE : Nat := 0xF05000
abbrev Base.PHY : Nat := 0xF06000
abbrev Base.SLOT : Nat := 0xF07000
abbrev Base.HOP : Nat := 0xF08000
abbrev Base.ASH : Nat := 0xF09000
abbrev Base.TW : Nat := 0xF0A000
abbrev Base.DALI : Nat := 0xF0B000
abbrev Base.HL : Nat := 0xF0C000
abbrev Base.SPIM : Nat := 0xF0D000
abbrev Base.I2C : Nat := 0xF0E000
abbrev Base.GPIO : Nat := 0xF0F000
abbrev Base.ADC : Nat := 0xF10000
abbrev Base.ADIT : Nat := 0xF11000
abbrev Base.CS : Nat := 0xF12000
abbrev Base.DBG : Nat := 0xF13000

/-! The registers by name; a register of an array takes its index (the offset formulas of the lists). -/
/-- Hardware type (01). -/
abbrev Reg.SYS_ID : Nat := 0xF00000
/-- Revision in bits 7:0 (01). -/
abbrev Reg.SYS_REV : Nat := 0xF00001
/-- Reset causes since last cleared (01). -/
abbrev Reg.SYS_RSTCAUSE : Nat := 0xF00010
/-- Software reset requests (01). -/
abbrev Reg.SYS_RSTCTL : Nat := 0xF00011
/-- Watchdog control (01). -/
abbrev Reg.SYS_WDCTL : Nat := 0xF00012
/-- Watchdog restart (01). -/
abbrev Reg.SYS_WDKICK : Nat := 0xF00013
/-- Hardware semaphores (01). -/
abbrev Reg.SYS_SEM (n : Nat) : Nat := 0xF00020 + n
/-- Count bits 23:0 (02). -/
abbrev Reg.TB_CNT0 : Nat := 0xF02000
/-- Count bits 47:24 from shadow (02). -/
abbrev Reg.TB_CNT1 : Nat := 0xF02001
/-- Count bits 71:48 from shadow (02). -/
abbrev Reg.TB_CNT2 : Nat := 0xF02002
/-- Bits 23:0: current slot phase (02). -/
abbrev Reg.TB_PHASE : Nat := 0xF02004
/-- Bits 23:0: slot length in ticks (R34) (02). -/
abbrev Reg.TB_SLOTLEN : Nat := 0xF02005
/-- Phase adjustment (R35) (02). -/
abbrev Reg.TB_PHADJ : Nat := 0xF02006
/-- Control (02). -/
abbrev Reg.TB_CTL : Nat := 0xF02008
/-- Status (02). -/
abbrev Reg.TB_STAT : Nat := 0xF02009
/-- Bits 23:0: signed rate trim, 2^-32 tick per tick (02). -/
abbrev Reg.TB_RATE : Nat := 0xF0200C
/-- Bits 23:0: increment fraction bits 23:0 (02). -/
abbrev Reg.TB_DSRATE0 : Nat := 0xF02010
/-- Increment integer and fraction bits 31:24 (02). -/
abbrev Reg.TB_DSRATE1 : Nat := 0xF02011
/-- Bits 23:0: wake lead in ticks (1 ms) (02). -/
abbrev Reg.TB_WAKELEAD : Nat := 0xF02012
/-- RTC measurement control (02). -/
abbrev Reg.TB_RTCCAL : Nat := 0xF02014
/-- Bits 23:0: measured count bits 23:0 (02). -/
abbrev Reg.TB_RTCRES0 : Nat := 0xF02015
/-- Bits 23:0: measured count bits 47:24 (02). -/
abbrev Reg.TB_RTCRES1 : Nat := 0xF02016
/-- Bits 23:0: arm slot-relative channels 0–23 and commit (R40) (02). -/
abbrev Reg.TB_ARMSET : Nat := 0xF02018
/-- Staged arm bits (02). -/
abbrev Reg.TB_ARMSETH : Nat := 0xF02019
/-- Bits 23:0: disarm slot-relative channels 0–23 and commit (02). -/
abbrev Reg.TB_DISARM : Nat := 0xF0201A
/-- Staged disarm bits (02). -/
abbrev Reg.TB_DISARMH : Nat := 0xF0201B
/-- Bits 23:0: armed state of slot-relative channels 0–23 (02). -/
abbrev Reg.TB_ARMED : Nat := 0xF0201C
/-- Armed state, layout of TB_ARMSETH with bit 23 reading 0 (02). -/
abbrev Reg.TB_ARMEDH : Nat := 0xF0201D
/-- Bits 23:0: slot-relative preload (02). -/
abbrev Reg.TB_SCMP (n : Nat) : Nat := 0xF02100 + n
/-- Bits 23:0: slot-relative active value (02). -/
abbrev Reg.TB_SCACT (n : Nat) : Nat := 0xF02120 + n
/-- Event routing (02). -/
abbrev Reg.TB_CHCTL (n : Nat) : Nat := 0xF02140 + n
/-- Channel status (02). -/
abbrev Reg.TB_CHSTAT (n : Nat) : Nat := 0xF02180 + n
/-- Absolute value bits 23:0 (02). -/
abbrev Reg.TB_ACMP_0 (n : Nat) : Nat := 0xF02200 + 4 * n
/-- Absolute value bits 47:24, staged (02). -/
abbrev Reg.TB_ACMP_1 (n : Nat) : Nat := 0xF02201 + 4 * n
/-- Absolute value bits 71:48, staged (02). -/
abbrev Reg.TB_ACMP_2 (n : Nat) : Nat := 0xF02202 + 4 * n
/-- Capture bits 23:0 (02). -/
abbrev Reg.TB_CAP_0 (n : Nat) : Nat := 0xF02300 + 8 * n
/-- Capture bits 47:24 from shadow (02). -/
abbrev Reg.TB_CAP_1 (n : Nat) : Nat := 0xF02301 + 8 * n
/-- Capture bits 71:48 from shadow (02). -/
abbrev Reg.TB_CAP_2 (n : Nat) : Nat := 0xF02302 + 8 * n
/-- Capture filter and prescaler (02). -/
abbrev Reg.TB_CAPCTL (n : Nat) : Nat := 0xF02304 + 8 * n
/-- Capture source and routing (02). -/
abbrev Reg.TB_CAPSRC (n : Nat) : Nat := 0xF02305 + 8 * n
/-- Capture status (02). -/
abbrev Reg.TB_CAPSTAT (n : Nat) : Nat := 0xF02306 + 8 * n
/-- Enables (03). -/
abbrev Reg.RFE_CTL : Nat := 0xF05000
/-- Path states and flags (03). -/
abbrev Reg.RFE_STAT : Nat := 0xF05001
/-- Default chain configuration (R55) (03). -/
abbrev Reg.RFE_CHAIN : Nat := 0xF05002
/-- SY0 band and N (03). -/
abbrev Reg.RFE_SY0_INT : Nat := 0xF05004
/-- Bits 19:0: SY0 fraction F (03). -/
abbrev Reg.RFE_SY0_FRAC : Nat := 0xF05005
/-- SY1 band and N (03). -/
abbrev Reg.RFE_SY1_INT : Nat := 0xF05006
/-- Bits 19:0: SY1 fraction F (03). -/
abbrev Reg.RFE_SY1_FRAC : Nat := 0xF05007
/-- Lock, calibration validity and temperatures (03). -/
abbrev Reg.RFE_SYSTAT : Nat := 0xF05008
/-- Bits 7:0: last die temperature, signed °C (03). -/
abbrev Reg.RFE_TEMP : Nat := 0xF0500C
/-- Bits 4:0: temperature step in °C (R61) (03). -/
abbrev Reg.RFE_TCAL : Nat := 0xF0500D
/-- Background calibration enables and intervals (03). -/
abbrev Reg.RFE_BGCFG : Nat := 0xF05010
/-- Due flags: bit 5 SY1, 4 SY0, 3 PA detector, 2 filter, 1 IQ, 0 DC (03). -/
abbrev Reg.RFE_BGSTAT : Nat := 0xF05011
/-- FEM lines and PA ramp (03). -/
abbrev Reg.RFE_FEMCFG : Nat := 0xF05014
/-- Bits 5:0: signed dBm at the antenna: the power requested for every sequencer transmission, and the cap on every request (R67) (03). -/
abbrev Reg.RFE_PMAX : Nat := 0xF05018
/-- Bits 23:0: air time in the window, 100 µs units (R72) (03). -/
abbrev Reg.RFE_DUTYUSED : Nat := 0xF05019
/-- Direct command (R64) (03). -/
abbrev Reg.RFE_DCMD : Nat := 0xF05020
/-- Bits 23:0: window start, slot phase (03). -/
abbrev Reg.RFE_DWS : Nat := 0xF05021
/-- Bits 23:0: latest start, slot phase (03). -/
abbrev Reg.RFE_DWE : Nat := 0xF05022
/-- Direct command status (03). -/
abbrev Reg.RFE_DSTAT : Nat := 0xF05023
/-- Bit 0: 1 while a grant is open (03). -/
abbrev Reg.RFE_GRANT : Nat := 0xF05024
/-- Bits 23:0: grant end, slot phase (03). -/
abbrev Reg.RFE_GEND : Nat := 0xF05025
/-- Last transmission outcome (03). -/
abbrev Reg.RFE_TXSTAT : Nat := 0xF05028
/-- Profile programming and lock (03). -/
abbrev Reg.RFE_RPCTL : Nat := 0xF05030
/-- Bits 23:0: word to program (03). -/
abbrev Reg.RFE_RPDATA : Nat := 0xF05031
/-- Profile state (03). -/
abbrev Reg.RFE_RPSTAT : Nat := 0xF05032
/-- Profile words (R70) (03). -/
abbrev Reg.RFE_RP (n : Nat) : Nat := 0xF05100 + n
/-- Low-band PA table (R66) (03). -/
abbrev Reg.RFE_PAT0 (n : Nat) : Nat := 0xF05200 + n
/-- High-band PA table (03). -/
abbrev Reg.RFE_PAT1 (n : Nat) : Nat := 0xF05240 + n
/-- Control (04). -/
abbrev Reg.PHY_CTL : Nat := 0xF06000
/-- Bits 23:0: sync word bits 23:0 (04). -/
abbrev Reg.PHY_SYNCW0 : Nat := 0xF06004
/-- Sync word bits 31:24, length and tolerance (04). -/
abbrev Reg.PHY_SYNCW1 : Nat := 0xF06005
/-- MR-FSK settings (04). -/
abbrev Reg.PHY_FSKCFG : Nat := 0xF06008
/-- MR-OFDM option and MCS (04). -/
abbrev Reg.PHY_OFDMCFG : Nat := 0xF06009
/-- External delay (R107) (04). -/
abbrev Reg.PHY_EXTDLY : Nat := 0xF0600A
/-- Bits 23:6: loading store base (04). -/
abbrev Reg.PHY_LSBASE : Nat := 0xF0600C
/-- Loading store and survey control (04). -/
abbrev Reg.PHY_LSCTL : Nat := 0xF0600D
/-- Thresholds and margins (R99) (04). -/
abbrev Reg.PHY_THR (n : Nat) : Nat := 0xF06010 + n
/-- Channel classes (R93) (04). -/
abbrev Reg.PHY_CLASSMAP (n : Nat) : Nat := 0xF06014 + n
/-- Place a proposal (R100) (04). -/
abbrev Reg.PHY_PROPOSE : Nat := 0xF0601C
/-- Proposal status (04). -/
abbrev Reg.PHY_PSTAT : Nat := 0xF0601D
/-- Bits 23:0: proposed table words (04). -/
abbrev Reg.PHY_PTAB (n : Nat) : Nat := 0xF06020 + n
/-- Bits 23:0: sync-word mismatches, saturating (04). -/
abbrev Reg.PHY_CNTSYNC : Nat := 0xF06030
/-- Bits 23:0: header failures, saturating (04). -/
abbrev Reg.PHY_CNTHDR : Nat := 0xF06031
/-- Bits 23:0: FCS failures, saturating (04). -/
abbrev Reg.PHY_CNTFCS : Nat := 0xF06032
/-- Bits 23:0: TAGMISS frames, saturating (04). -/
abbrev Reg.PHY_CNTTAG : Nat := 0xF06033
/-- Bits 23:0: mode-switch PHRs dropped, saturating (04). -/
abbrev Reg.PHY_CNTMS : Nat := 0xF06034
/-- Chain A latest metadata (R110) (04). -/
abbrev Reg.PHY_RXA (n : Nat) : Nat := 0xF06040 + n
/-- Chain B latest metadata (04). -/
abbrev Reg.PHY_RXB (n : Nat) : Nat := 0xF06050 + n
/-- Bits 23:0: transmit sync point T, low word first (04). -/
abbrev Reg.PHY_TXTS (n : Nat) : Nat := 0xF06060 + n
/-- Bits 23:21: transmit fraction f (04). -/
abbrev Reg.PHY_TXTSF : Nat := 0xF06063
/-- Control (05). -/
abbrev Reg.SLOT_CTL : Nat := 0xF07000
/-- Flags (05). -/
abbrev Reg.SLOT_STAT : Nat := 0xF07001
/-- Standard TxOffset and guard (05). -/
abbrev Reg.SLOT_STDT0 : Nat := 0xF07002
/-- Standard TxAckDelay and acknowledgement guard (05). -/
abbrev Reg.SLOT_STDT1 : Nat := 0xF07003
/-- ASN bits 23:0 (05). -/
abbrev Reg.SLOT_ASN0 : Nat := 0xF07004
/-- Bits 15:0: ASN bits 39:24 from shadow (05). -/
abbrev Reg.SLOT_ASN1 : Nat := 0xF07005
/-- Bits 23:0: new ASN bits 23:0 (R113) (05). -/
abbrev Reg.SLOT_ASNSET0 : Nat := 0xF07006
/-- New ASN high bits and request (05). -/
abbrev Reg.SLOT_ASNSET1 : Nat := 0xF07007
/-- Bits 23:0: arm deadline in ticks before the edge (05). -/
abbrev Reg.SLOT_DEADLINE : Nat := 0xF07008
/-- Bits 23:0: cell table word address, even, in SRAM (05). -/
abbrev Reg.SLOT_CTBASE : Nat := 0xF07009
/-- Bits 23:0: beacon template address (R134) (05). -/
abbrev Reg.SLOT_EBTMPL : Nat := 0xF0700A
/-- Standard CCA offset and CCA time (05). -/
abbrev Reg.SLOT_STDT2 : Nat := 0xF0700B
/-- Lookup result (R118) (05). -/
abbrev Reg.SLOT_NEXT0 : Nat := 0xF0700C
/-- Channel of the looked-up cell (05). -/
abbrev Reg.SLOT_NEXT1 : Nat := 0xF0700D
/-- Arm slot N + 1 (R126) (05). -/
abbrev Reg.SLOT_ARM : Nat := 0xF0700E
/-- Arm outcome (05). -/
abbrev Reg.SLOT_ARMSTAT : Nat := 0xF0700F
/-- Bits 23:0: grant start, slot phase (R129) (05). -/
abbrev Reg.SLOT_GSTART : Nat := 0xF07010
/-- Bits 23:0: grant end, slot phase (05). -/
abbrev Reg.SLOT_GEND : Nat := 0xF07011
/-- Bit 0 go: abort the current operation (R131) (05). -/
abbrev Reg.SLOT_ABORT : Nat := 0xF07012
/-- Last result (R130) (05). -/
abbrev Reg.SLOT_RES0 : Nat := 0xF07013
/-- Bits 23:0: ASN bits 23:0 of that result's slot (05). -/
abbrev Reg.SLOT_RES1 : Nat := 0xF07014
/-- Bits 23:0: overruns, saturating (05). -/
abbrev Reg.SLOT_OVRCNT : Nat := 0xF07015
/-- Hopping list length and commit (R114) (05). -/
abbrev Reg.SLOT_HOPCTL : Nat := 0xF07018
/-- Shadow hopping list, three entries per word (05). -/
abbrev Reg.SLOT_HOP (n : Nat) : Nat := 0xF07020 + n
/-- Slotframe n length, n = 0–7 (R115) (05). -/
abbrev Reg.SLOT_SF_LEN (n : Nat) : Nat := 0xF07060 + 2 * n
/-- Slotframe n cell range (05). -/
abbrev Reg.SLOT_SF_CELLS (n : Nat) : Nat := 0xF07061 + 2 * n
/-- Bits 15:0 fo: failover slots (R135) (05). -/
abbrev Reg.SLOT_SYNCCFG : Nat := 0xF07070
/-- Window widening (R139) (05). -/
abbrev Reg.SLOT_GW : Nat := 0xF07071
/-- Time source n, n = 0–1 (05). -/
abbrev Reg.SLOT_TS_CFG (n : Nat) : Nat := 0xF07074 + 4 * n
/-- Bits 23:0: last correction c, signed ns (05). -/
abbrev Reg.SLOT_TS_CORR (n : Nat) : Nat := 0xF07075 + 4 * n
/-- Bits 15:0: p in 0.625 ns units (05). -/
abbrev Reg.SLOT_TS_PROP (n : Nat) : Nat := 0xF07076 + 4 * n
/-- Bits 23:0: slots since the last measurement, saturating (05). -/
abbrev Reg.SLOT_TS_AGE (n : Nat) : Nat := 0xF07077 + 4 * n
/-- CSMA-CA settings (05). -/
abbrev Reg.SLOT_CSMA : Nat := 0xF0707C
/-- Bits 10:0: planned acknowledgement PSDU in octets (R125) (05). -/
abbrev Reg.SLOT_ACKPLAN : Nat := 0xF0707D
/-- Link RAM bank (R143) (05). -/
abbrev Reg.SLOT_LKBANK : Nat := 0xF07080
/-- Control (06). -/
abbrev Reg.HOP_CTL : Nat := 0xF08000
/-- Flags (06). -/
abbrev Reg.HOP_STAT : Nat := 0xF08001
/-- Deferral, retries, pool low water (06). -/
abbrev Reg.HOP_CFG : Nat := 0xF08002
/-- Bits 23:7: pool base (06). -/
abbrev Reg.HOP_POOLBASE : Nat := 0xF08004
/-- Bits 11:0: cells (R147) (06). -/
abbrev Reg.HOP_POOLCNT : Nat := 0xF08005
/-- Bits 23:0: link array base (06). -/
abbrev Reg.HOP_LINKBASE : Nat := 0xF08006
/-- Bits 23:4: neighbour table base (06). -/
abbrev Reg.HOP_NTBASE : Nat := 0xF08007
/-- Bits 23:2: route table base (06). -/
abbrev Reg.HOP_RTBASE : Nat := 0xF08008
/-- Bits 3:0 pm1: probe length − 1 (R153) (06). -/
abbrev Reg.HOP_RTCFG : Nat := 0xF08009
/-- Bits 11:0: free cells (06). -/
abbrev Reg.HOP_FREECNT : Nat := 0xF0800A
/-- Bits 15:0: PAN ID (R144) (06). -/
abbrev Reg.HOP_PAN : Nat := 0xF0800C
/-- Bits 15:0: own short address (06). -/
abbrev Reg.HOP_OWNS : Nat := 0xF0800D
/-- Own extended address, 8 octets by R2 (06). -/
abbrev Reg.HOP_OWNE (n : Nat) : Nat := 0xF0800E + n
/-- Bits 7:0: next sequence number (06). -/
abbrev Reg.HOP_DSN : Nat := 0xF08011
/-- Bits 23:0: outgoing frame counter bits 23:0 (06). -/
abbrev Reg.HOP_FCNT0 : Nat := 0xF08012
/-- Bits 7:0: counter bits 31:24 (06). -/
abbrev Reg.HOP_FCNT1 : Nat := 0xF08013
/-- Key of R153 for hashing (06). -/
abbrev Reg.HOP_HKEY (n : Nat) : Nat := 0xF08014 + n
/-- Bits 9:0: home index of the key (06). -/
abbrev Reg.HOP_HIDX : Nat := 0xF08017
/-- Read takes a cell (R166) (06). -/
abbrev Reg.HOP_ALLOC : Nat := 0xF08018
/-- Read takes a cell, reserve allowed (06). -/
abbrev Reg.HOP_ALLOCC : Nat := 0xF08019
/-- Bits 10:0: first cell to free (R168) (06). -/
abbrev Reg.HOP_RELEASE : Nat := 0xF0801A
/-- Enqueue (R167) (06). -/
abbrev Reg.HOP_ENQ : Nat := 0xF0801B
/-- Outcome of this master's last enqueue (06). -/
abbrev Reg.HOP_ENQSTAT : Nat := 0xF0801C
/-- Queue command (06). -/
abbrev Reg.HOP_QCMD : Nat := 0xF0801D
/-- Gate event (R158) (06). -/
abbrev Reg.HOP_EVSEL : Nat := 0xF0801E
/-- Read removes the head frame (R168) (06). -/
abbrev Reg.HOP_DQ (n : Nat) : Nat := 0xF08020 + n
/-- Bits 23:0: frames rejected by the address filter (06). -/
abbrev Reg.HOP_CNTFLT : Nat := 0xF08030
/-- Bits 23:0: frames not stored for want of cells (06). -/
abbrev Reg.HOP_CNTNOBUF : Nat := 0xF08031
/-- Bits 23:0: drops and refusals to protect the reserve (R160) (06). -/
abbrev Reg.HOP_CNTPOOL : Nat := 0xF08032
/-- Bits 23:0: drops for no route (06). -/
abbrev Reg.HOP_CNTNR : Nat := 0xF08033
/-- Bits 23:0: drops for Hops Left (06). -/
abbrev Reg.HOP_CNTHOP : Nat := 0xF08034
/-- Bits 23:0: drops for no queue (06). -/
abbrev Reg.HOP_CNTNOQ : Nat := 0xF08035
/-- Bits 23:0: security failures (06). -/
abbrev Reg.HOP_CNTSEC : Nat := 0xF08036
/-- Bits 23:0: duplicates (06). -/
abbrev Reg.HOP_CNTDUP : Nat := 0xF08037
/-- Bits 23:0: drops at the retry limit (06). -/
abbrev Reg.HOP_CNTRETRY : Nat := 0xF08038
/-- Bits 23:0: frames forwarded (06). -/
abbrev Reg.HOP_CNTFWD : Nat := 0xF08039
/-- Queue q configuration, q = 0–31 (06). -/
abbrev Reg.HOP_QCFG (n : Nat) : Nat := 0xF08100 + 4 * n
/-- Bits 10:0: high-water mark in cells (06). -/
abbrev Reg.HOP_QHW (n : Nat) : Nat := 0xF08101 + 4 * n
/-- Queue q state (06). -/
abbrev Reg.HOP_QSTAT (n : Nat) : Nat := 0xF08102 + 4 * n
/-- Bits 23:0: entry drops and refusals (R160) (06). -/
abbrev Reg.HOP_QDROP (n : Nat) : Nat := 0xF08103 + 4 * n
/-- Enable, clock and timeout (08). -/
abbrev Reg.ADIT_CTL : Nat := 0xF11000
/-- Port state (08). -/
abbrev Reg.ADIT_STAT : Nat := 0xF11001
/-- LK operations (08). -/
abbrev Reg.ADIT_CSTAT0 : Nat := 0xF11004
/-- A0 operations (08). -/
abbrev Reg.ADIT_CSTAT1 : Nat := 0xF11005
/-- A1 operations (08). -/
abbrev Reg.ADIT_CSTAT2 : Nat := 0xF11006
/-- Generation-1 numbering (09). -/
abbrev Reg.INT_CTL : Nat := 0xF01000
/-- Flags (09). -/
abbrev Reg.INT_STAT : Nat := 0xF01001
/-- Sub-priority bits per core (R242) (09). -/
abbrev Reg.INT_PRIGRP : Nat := 0xF01002
/-- Bits 6:0: end of interrupt for LK (R245) (09). -/
abbrev Reg.INT_EOI0 : Nat := 0xF01004
/-- The same for A0 (09). -/
abbrev Reg.INT_EOI1 : Nat := 0xF01005
/-- The same for A1 (09). -/
abbrev Reg.INT_EOI2 : Nat := 0xF01006
/-- State of LK, A0, A1 (09). -/
abbrev Reg.INT_CSTAT (n : Nat) : Nat := 0xF01008 + n
/-- Pending bits (09). -/
abbrev Reg.INT_PEND (n : Nat) : Nat := 0xF01010 + n
/-- Active bits, same layout (09). -/
abbrev Reg.INT_ACT (n : Nat) : Nat := 0xF01018 + n
/-- Bits 3:0: 1 sets source 112 + bit as pending (09). -/
abbrev Reg.INT_SWSET : Nat := 0xF01020
/-- Unit n control, n = 0–15 (09). -/
abbrev Reg.INT_CU_CTL (n : Nat) : Nat := 0xF01040 + 2 * n
/-- Unit n limits (09). -/
abbrev Reg.INT_CU_LIM (n : Nat) : Nat := 0xF01041 + 2 * n
/-- Unit n state (09). -/
abbrev Reg.INT_CU_STAT (n : Nat) : Nat := 0xF01060 + n
/-- Source n settings, n = 0–127 (09). -/
abbrev Reg.INT_SRC (n : Nat) : Nat := 0xF01100 + n
/-- Sources, CCLK selection, dividers (10). -/
abbrev Reg.SYS_CLKCTL : Nat := 0xF00040
/-- Source state, monitors, safe state (10). -/
abbrev Reg.SYS_CLKSTAT : Nat := 0xF00041
/-- Bit 0 rel: release forced outputs (R269) (10). -/
abbrev Reg.SYS_SAFECTL : Nat := 0xF00042
/-- Safe levels of GPIO pads 0–11 (10). -/
abbrev Reg.SYS_GPSAFE0 : Nat := 0xF00043
/-- Safe levels of GPIO pads 12–23 (10). -/
abbrev Reg.SYS_GPSAFE1 : Nat := 0xF00044
/-- Run gates (R263) (10). -/
abbrev Reg.SYS_GATERUN : Nat := 0xF00048
/-- Sleep gates (10). -/
abbrev Reg.SYS_GATESLP : Nat := 0xF00049
/-- Deep-sleep wake logic (10). -/
abbrev Reg.SYS_GATEDS : Nat := 0xF0004A
/-- Power-mode control (10). -/
abbrev Reg.SYS_PMCTL : Nat := 0xF00050
/-- Power-mode status (10). -/
abbrev Reg.SYS_PMSTAT : Nat := 0xF00051
/-- SRAM retention (R275) (10). -/
abbrev Reg.SYS_RETAIN : Nat := 0xF00052
/-- Bit 0 offx: started from off-with-RTC (R276) (10). -/
abbrev Reg.SYS_OFFSTAT : Nat := 0xF00053
/-- Supply warnings (R278) (10). -/
abbrev Reg.SYS_SUPCTL : Nat := 0xF00054
/-- Supply state (10). -/
abbrev Reg.SYS_SUPSTAT : Nat := 0xF00055
/-- Boot outcome, written by the ROM before the lock (11). -/
abbrev Reg.SYS_BOOTSTAT : Nat := 0xF00060
/-- Release of LK and A1 (11). -/
abbrev Reg.SYS_CORECTL : Nat := 0xF00061
/-- Bits 13:0: next link RAM bank 0 offset for the loader (R288) (11). -/
abbrev Reg.SYS_LKLDADR : Nat := 0xF00062
/-- Bits 23:0: word stored at SYS_LKLDADR, which then advances by 1 (11). -/
abbrev Reg.SYS_LKLDDAT : Nat := 0xF00063
/-- Bits 23:0: A0 firmware entry, from ENTRY_A0 (11). -/
abbrev Reg.SYS_A0ENT : Nat := 0xF00064
/-- Bits 23:0: A1 entry, from ENTRY_A1 (11). -/
abbrev Reg.SYS_A1ENT : Nat := 0xF00065
/-- Program, erase, suspend, resume (R305) (12). -/
abbrev Reg.NVM_CMD : Nat := 0xF04000
/-- Bits 20:0: row or sector address (12). -/
abbrev Reg.NVM_ADDR : Nat := 0xF04001
/-- Operation state and flags (12). -/
abbrev Reg.NVM_STAT : Nat := 0xF04002
/-- Suspended erase (12). -/
abbrev Reg.NVM_EST : Nat := 0xF04003
/-- Bits 20:0: row of the last NVM_CRC (12). -/
abbrev Reg.NVM_CRCADR : Nat := 0xF04004
/-- Bits 23:0: address of the last execute-only violation (12). -/
abbrev Reg.NVM_XOADR : Nat := 0xF04005
/-- Bits 23:0: reads that passed on a re-read, saturating (12). -/
abbrev Reg.NVM_RRCNT : Nat := 0xF04006
/-- Journal operation (R319) (12). -/
abbrev Reg.NVM_JCMD : Nat := 0xF04008
/-- This master's journal status (12). -/
abbrev Reg.NVM_JSTAT : Nat := 0xF04009
/-- Execute-only regions (R312) (12). -/
abbrev Reg.NVM_XO (n : Nat) : Nat := 0xF04010 + n
/-- Bits 23:0: row program data (12). -/
abbrev Reg.NVM_BUF (n : Nat) : Nat := 0xF04040 + n
/-- Bits 23:0: journal data, one set per master (12). -/
abbrev Reg.NVM_JBUF (n : Nat) : Nat := 0xF04080 + n
/-- A read claims the mailbox (R327) (13). -/
abbrev Reg.ASH_CLAIM : Nat := 0xF09000
/-- Start a command (R328) (13). -/
abbrev Reg.ASH_CMD : Nat := 0xF09001
/-- Release and withdraw (13). -/
abbrev Reg.ASH_CTL : Nat := 0xF09002
/-- Command state (13). -/
abbrev Reg.ASH_STAT : Nat := 0xF09003
/-- Enclave state (13). -/
abbrev Reg.ASH_INFO : Nat := 0xF09004
/-- Bits 23:0: request words (13). -/
abbrev Reg.ASH_REQ (n : Nat) : Nat := 0xF09200 + n
/-- Bits 23:0: response words (13). -/
abbrev Reg.ASH_RSP (n : Nat) : Nat := 0xF09400 + n
/-- Control (15). -/
abbrev Reg.TW_CTL : Nat := 0xF0A000
/-- Link and role state (15). -/
abbrev Reg.TW_STAT : Nat := 0xF0A001
/-- Position, heartbeat window, misses (15). -/
abbrev Reg.TW_CFG : Nat := 0xF0A002
/-- Bits 23:0: role epoch (R377) (15). -/
abbrev Reg.TW_EPOCH : Nat := 0xF0A003
/-- Bits 11:0: one-way link latency in ticks (15). -/
abbrev Reg.TW_LAT : Nat := 0xF0A004
/-- Bits 23:0: DATA block source address (15). -/
abbrev Reg.TW_TXADR : Nat := 0xF0A008
/-- Send a DATA block (R374) (15). -/
abbrev Reg.TW_TXCMD : Nat := 0xF0A009
/-- Bits 7:0: DATA block status (15). -/
abbrev Reg.TW_TXSTAT : Nat := 0xF0A00A
/-- Bits 23:2: ring base (15). -/
abbrev Reg.TW_RXBASE : Nat := 0xF0A00C
/-- Bits 2:0: next entry firmware reads (15). -/
abbrev Reg.TW_RXRD : Nat := 0xF0A00D
/-- Bits 2:0: next entry the engine fills (15). -/
abbrev Reg.TW_RXWR : Nat := 0xF0A00E
/-- Bits 23:0: snapshots not completed, saturating (15). -/
abbrev Reg.TW_CNTLAG : Nat := 0xF0A010
/-- Bits 23:0: air evidence frames, saturating (15). -/
abbrev Reg.TW_CNTAIR : Nat := 0xF0A011
/-- Bits 23:0: block re-sends, saturating (15). -/
abbrev Reg.TW_CNTRS : Nat := 0xF0A012
/-- Bits 23:6: region n base (15). -/
abbrev Reg.TW_MRB (n : Nat) : Nat := 0xF0A020 + 2 * n
/-- Region n size (15). -/
abbrev Reg.TW_MRS (n : Nat) : Nat := 0xF0A021 + 2 * n
/-- Domain and calendar status (16). -/
abbrev Reg.RTC_STAT : Nat := 0xF03000
/-- Bits 23:0: switch-overs to VBK, saturating (R400) (16). -/
abbrev Reg.RTC_SWCNT : Nat := 0xF03001
/-- First switch-over, stamp word 0 (R392) (16). -/
abbrev Reg.RTC_SWTS0 : Nat := 0xF03002
/-- First switch-over, stamp word 1 (16). -/
abbrev Reg.RTC_SWTS1 : Nat := 0xF03003
/-- Bits 15:0: signed trim t (R403) (16). -/
abbrev Reg.RTC_TRIM : Nat := 0xF03004
/-- Bits 14:0: subsecond (16). -/
abbrev Reg.RTC_SUBSEC : Nat := 0xF03008
/-- Bits 5:0: second (16). -/
abbrev Reg.RTC_SEC : Nat := 0xF03009
/-- Bits 5:0: minute (16). -/
abbrev Reg.RTC_MIN : Nat := 0xF0300A
/-- Bits 4:0: hour (16). -/
abbrev Reg.RTC_HOUR : Nat := 0xF0300B
/-- Day and weekday (16). -/
abbrev Reg.RTC_DAY : Nat := 0xF0300C
/-- Bits 3:0: month (16). -/
abbrev Reg.RTC_MON : Nat := 0xF0300D
/-- Bits 11:0: year (16). -/
abbrev Reg.RTC_YEAR : Nat := 0xF0300E
/-- Time to set, stamp word 0 (R394) (16). -/
abbrev Reg.RTC_SETT0 : Nat := 0xF03010
/-- Time to set, stamp word 1 (16). -/
abbrev Reg.RTC_SETT1 : Nat := 0xF03011
/-- Apply a set (16). -/
abbrev Reg.RTC_SETCTL : Nat := 0xF03012
/-- Alarm fired and skip flags (16). -/
abbrev Reg.RTC_ALSTAT : Nat := 0xF03018
/-- Alarm n control, n = 0–3 (16). -/
abbrev Reg.RTC_ALCTL (n : Nat) : Nat := 0xF03020 + 8 * n
/-- Alarm time, stamp word 0 (R395) (16). -/
abbrev Reg.RTC_ALT0 (n : Nat) : Nat := 0xF03021 + 8 * n
/-- Alarm time, stamp word 1 (16). -/
abbrev Reg.RTC_ALT1 (n : Nat) : Nat := 0xF03022 + 8 * n
/-- Bits 23:0: period in seconds (16). -/
abbrev Reg.RTC_ALP (n : Nat) : Nat := 0xF03023 + 8 * n
/-- Next occurrence, stamp word 0 (16). -/
abbrev Reg.RTC_ALN0 (n : Nat) : Nat := 0xF03024 + 8 * n
/-- Next occurrence, stamp word 1 (16). -/
abbrev Reg.RTC_ALN1 (n : Nat) : Nat := 0xF03025 + 8 * n
/-- Bit 23 en (17). -/
abbrev Reg.DALI_CTL : Nat := 0xF0B000
/-- Bits 1:0: retry (R410) (17). -/
abbrev Reg.DALI_CFG : Nat := 0xF0B001
/-- Bus state and flags (17). -/
abbrev Reg.DALI_STAT : Nat := 0xF0B002
/-- Bits 23:0: frame (17). -/
abbrev Reg.DALI_TXD : Nat := 0xF0B004
/-- Start or abort (R411) (17). -/
abbrev Reg.DALI_TXCTL : Nat := 0xF0B005
/-- Outcome (17). -/
abbrev Reg.DALI_TXSTAT : Nat := 0xF0B006
/-- Oldest FIFO entry (17). -/
abbrev Reg.DALI_RXSTAT : Nat := 0xF0B008
/-- Bits 23:0: oldest entry's data, right-aligned (17). -/
abbrev Reg.DALI_RXD : Nat := 0xF0B009
/-- Control (17). -/
abbrev Reg.ADC_CTL : Nat := 0xF10000
/-- Bits 15:8 smp (2–255 (17). -/
abbrev Reg.ADC_CFG : Nat := 0xF10001
/-- Bit 23 busy (RO) (17). -/
abbrev Reg.ADC_STAT : Nat := 0xF10002
/-- Channel list (R418) (17). -/
abbrev Reg.ADC_SEQ (n : Nat) : Nat := 0xF10004 + n
/-- Bits 23:12 gain (0x800 = 1.0) (17). -/
abbrev Reg.ADC_CAL : Nat := 0xF10008
/-- Bits 23:20 idx (17). -/
abbrev Reg.ADC_THR : Nat := 0xF10009
/-- Bits 11:0: corrected result (17). -/
abbrev Reg.ADC_RES (n : Nat) : Nat := 0xF10010 + n
/-- Bit 23 en (17). -/
abbrev Reg.HL_CTL : Nat := 0xF0C000
/-- Bits 15:4 ibrd (1–4,095) (17). -/
abbrev Reg.HL_BAUD : Nat := 0xF0C001
/-- Bits 15:8 gap (octet times) (17). -/
abbrev Reg.HL_CFG : Nat := 0xF0C002
/-- Bit 1 disc: a frame was discarded (R422) (17). -/
abbrev Reg.HL_STAT : Nat := 0xF0C003
/-- Bits 23:0: frame source address (17). -/
abbrev Reg.HL_TXADR : Nat := 0xF0C008
/-- Bit 23 go (17). -/
abbrev Reg.HL_TXCMD : Nat := 0xF0C009
/-- Bit 23 busy (17). -/
abbrev Reg.HL_TXSTAT : Nat := 0xF0C00A
/-- Bits 23:2: ring base (17). -/
abbrev Reg.HL_RXBASE : Nat := 0xF0C00C
/-- Bits 2:0: next entry firmware reads (17). -/
abbrev Reg.HL_RXRD : Nat := 0xF0C00D
/-- Bits 2:0: next entry filled (17). -/
abbrev Reg.HL_RXWR : Nat := 0xF0C00E
/-- Bits 23:0: re-sends, saturating (17). -/
abbrev Reg.HL_CNTRS : Nat := 0xF0C010
/-- Bit 23 en (17). -/
abbrev Reg.SPIM_CTL : Nat := 0xF0D000
/-- Bit 23 go (17). -/
abbrev Reg.SPIM_CMD : Nat := 0xF0D001
/-- Bit 23 busy (17). -/
abbrev Reg.SPIM_STAT : Nat := 0xF0D002
/-- Bits 23:0: transfer octets (17). -/
abbrev Reg.SPIM_BUF (n : Nat) : Nat := 0xF0D040 + n
/-- Bits 23:16 lo (17). -/
abbrev Reg.I2C_CFG : Nat := 0xF0E000
/-- Bit 23 go (17). -/
abbrev Reg.I2C_CMD : Nat := 0xF0E001
/-- Bit 23 busy (17). -/
abbrev Reg.I2C_STAT : Nat := 0xF0E002
/-- Bits 23:0: 32 octets by R2 (17). -/
abbrev Reg.I2C_BUF (n : Nat) : Nat := 0xF0E010 + n
/-- Bits 23:0: 1 output (17). -/
abbrev Reg.GPIO_DIR : Nat := 0xF0F000
/-- Bits 23:0: output levels (17). -/
abbrev Reg.GPIO_OUT : Nat := 0xF0F001
/-- Bits 23:0: 1 sets GPIO_OUT (17). -/
abbrev Reg.GPIO_SET : Nat := 0xF0F002
/-- Bits 23:0: 1 clears GPIO_OUT (17). -/
abbrev Reg.GPIO_CLR : Nat := 0xF0F003
/-- Bits 23:0: pad levels (17). -/
abbrev Reg.GPIO_IN : Nat := 0xF0F004
/-- Bits 23:0: edge seen (R430) (17). -/
abbrev Reg.GPIO_EVT : Nat := 0xF0F005
/-- Pad configuration (17). -/
abbrev Reg.GPIO_CFG (n : Nat) : Nat := 0xF0F020 + n
/-- PWM n control, n = 0–1 (17). -/
abbrev Reg.GPIO_PWMCTL (n : Nat) : Nat := 0xF0F040 + 4 * n
/-- Bits 15:0: per (17). -/
abbrev Reg.GPIO_PWMPER (n : Nat) : Nat := 0xF0F041 + 4 * n
/-- Bits 15:0: duty (17). -/
abbrev Reg.GPIO_PWMDUTY (n : Nat) : Nat := 0xF0F042 + 4 * n
/-- Bits 23:8 hardware type 0x9740 (17). -/
abbrev Reg.DBG_ID : Nat := 0xF13000
/-- Halt, run, step, reset, detach (17). -/
abbrev Reg.DBG_CTL : Nat := 0xF13001
/-- Port and core state (17). -/
abbrev Reg.DBG_STAT : Nat := 0xF13002
/-- Bits 23:0: bus address (R435) (17). -/
abbrev Reg.DBG_ADDR : Nat := 0xF13004
/-- Bits 23:0: bus data (R435) (17). -/
abbrev Reg.DBG_DATA : Nat := 0xF13005
/-- Bits 13:8: register index (17). -/
abbrev Reg.DBG_CSEL : Nat := 0xF13008
/-- Bits 23:0: selected core register (17). -/
abbrev Reg.DBG_CREG : Nat := 0xF13009
/-- Writer state (18). -/
abbrev Reg.CS_STAT : Nat := 0xF12000
/-- Chain of the newest entry, bits 23:0 (18). -/
abbrev Reg.CS_HEAD0 : Nat := 0xF12001
/-- Chain bits 47:24, from the shadow (18). -/
abbrev Reg.CS_HEAD1 : Nat := 0xF12002
/-- Newest entry, from the shadow (18). -/
abbrev Reg.CS_HIDX : Nat := 0xF12003
/-- Bits 23:0: dropped hardware requests, saturating (18). -/
abbrev Reg.CS_LOST : Nat := 0xF12004
/-- Bits 23:0: d1 for this master (18). -/
abbrev Reg.CS_FWD0 : Nat := 0xF12008
/-- Bits 23:0: d2 for this master (18). -/
abbrev Reg.CS_FWD1 : Nat := 0xF12009
/-- Queue a firmware entry (R445) (18). -/
abbrev Reg.CS_FWCMD : Nat := 0xF1200A
/-- Bits 7:0: this master's last status (18). -/
abbrev Reg.CS_FWSTAT : Nat := 0xF1200B

/-- One row of a register list: `cnt` registers `stride` apart, the bits stored by a write (RW, LK), those that a 1
clears (W1C), those that a 1 sets (W1S), whether the row is locked by the boot ROM (LK), and the reset value. -/
structure RegRow where
  off    : Nat
  cnt    : Nat
  stride : Nat
  rw     : Nat
  w1c    : Nat
  w1s    : Nat
  lk     : Bool
  reset  : Nat
  deriving DecidableEq, Repr

/-- The register list of SYS. -/
def RegRow.ofSYS : List RegRow :=
  [ ⟨0x000, 1, 1, 0x000000, 0x000000, 0x000000, false, 0x009740⟩,
    ⟨0x001, 1, 1, 0x000000, 0x000000, 0x000000, false, 0x000000⟩,
    ⟨0x010, 1, 1, 0x000000, 0x0001FF, 0x000000, false, 0x000001⟩,
    ⟨0x011, 1, 1, 0x000000, 0x000000, 0x000000, false, 0x000000⟩,
    ⟨0x012, 1, 1, 0x400FFF, 0x000000, 0x800000, false, 0x000000⟩,
    ⟨0x013, 1, 1, 0x000000, 0x000000, 0x000000, false, 0x000000⟩,
    ⟨0x020, 16, 1, 0x000003, 0x000000, 0x000000, false, 0x000000⟩,
    ⟨0x040, 1, 1, 0xFFC000, 0x000000, 0x000000, false, 0x000000⟩,
    ⟨0x041, 1, 1, 0x000000, 0x00001F, 0x000000, false, 0x010000⟩,
    ⟨0x042, 1, 1, 0x000000, 0x000000, 0x000000, false, 0x000000⟩,
    ⟨0x043, 1, 1, 0xFFFFFF, 0x000000, 0x000000, true, 0x000000⟩,
    ⟨0x044, 1, 1, 0xFFFFFF, 0x000000, 0x000000, true, 0x000000⟩,
    ⟨0x048, 1, 1, 0x001FFF, 0x000000, 0x000000, false, 0x001FFF⟩,
    ⟨0x049, 1, 1, 0x001FFF, 0x000000, 0x000000, false, 0x001FFF⟩,
    ⟨0x04A, 1, 1, 0x001FFF, 0x000000, 0x000000, false, 0x000000⟩,
    ⟨0x050, 1, 1, 0x000001, 0x000000, 0x000000, false, 0x000000⟩,
    ⟨0x051, 1, 1, 0x000000, 0x000006, 0x000000, false, 0x000000⟩,
    ⟨0x052, 1, 1, 0x0000FE, 0x000000, 0x000000, false, 0x0000FF⟩,
    ⟨0x053, 1, 1, 0x000000, 0x000001, 0x000000, false, 0x000000⟩,
    ⟨0x054, 1, 1, 0x00030F, 0x000000, 0x000000, false, 0x000202⟩,
    ⟨0x055, 1, 1, 0x000000, 0x000001, 0x000000, false, 0x000000⟩,
    ⟨0x060, 1, 1, 0xFFFE00, 0x000000, 0x000000, true, 0x000000⟩,
    ⟨0x061, 1, 1, 0x000000, 0x000000, 0x000003, false, 0x000000⟩,
    ⟨0x062, 1, 1, 0x003FFF, 0x000000, 0x000000, true, 0x000000⟩ ] ++
  [ ⟨0x063, 1, 1, 0x000000, 0x000000, 0x000000, false, 0x000000⟩,
    ⟨0x064, 1, 1, 0xFFFFFF, 0x000000, 0x000000, true, 0x000000⟩,
    ⟨0x065, 1, 1, 0xFFFFFF, 0x000000, 0x000000, true, 0x000000⟩ ]

/-- The register list of INT. -/
def RegRow.ofINT : List RegRow :=
  [ ⟨0x000, 1, 1, 0x000000, 0x000000, 0x000000, false, 0x000000⟩,
    ⟨0x001, 1, 1, 0x000000, 0x000001, 0x000000, false, 0x000000⟩,
    ⟨0x002, 1, 1, 0x0001FF, 0x000000, 0x000000, false, 0x000000⟩,
    ⟨0x004, 1, 1, 0x000000, 0x000000, 0x000000, false, 0x000000⟩,
    ⟨0x005, 1, 1, 0x000000, 0x000000, 0x000000, false, 0x000000⟩,
    ⟨0x006, 1, 1, 0x000000, 0x000000, 0x000000, false, 0x000000⟩,
    ⟨0x008, 3, 1, 0x000000, 0x000000, 0x000000, false, 0x002000⟩,
    ⟨0x010, 5, 1, 0x000000, 0xFFFFFF, 0x000000, false, 0x000000⟩,
    ⟨0x015, 1, 1, 0x000000, 0x0000FF, 0x000000, false, 0x000000⟩,
    ⟨0x018, 6, 1, 0x000000, 0x000000, 0x000000, false, 0x000000⟩,
    ⟨0x020, 1, 1, 0x000000, 0x000000, 0x000000, false, 0x000000⟩,
    ⟨0x040, 16, 2, 0xE000FF, 0x000000, 0x000000, false, 0x000001⟩,
    ⟨0x041, 16, 2, 0xFFFFFF, 0x000000, 0x000000, false, 0x0103E8⟩,
    ⟨0x060, 16, 1, 0x000000, 0x000000, 0x000000, false, 0x000000⟩,
    ⟨0x100, 70, 1, 0xFFF800, 0x000000, 0x000000, false, 0x000000⟩,
    ⟨0x146, 1, 1, 0xFFF800, 0x000000, 0x000000, false, 0x000400⟩,
    ⟨0x147, 4, 1, 0xFFF800, 0x000000, 0x000000, false, 0x000000⟩,
    ⟨0x14B, 1, 1, 0xFFF800, 0x000000, 0x000000, false, 0x000400⟩,
    ⟨0x14C, 48, 1, 0xFFF800, 0x000000, 0x000000, false, 0x000000⟩,
    ⟨0x17C, 4, 1, 0x000000, 0x000000, 0x000000, false, 0x000000⟩ ]

/-- The register list of TB. -/
def RegRow.ofTB : List RegRow :=
  [ ⟨0x000, 1, 1, 0x000000, 0x000000, 0x000000, false, 0x000000⟩,
    ⟨0x001, 1, 1, 0x000000, 0x000000, 0x000000, false, 0x000000⟩,
    ⟨0x002, 1, 1, 0x000000, 0x000000, 0x000000, false, 0x000000⟩,
    ⟨0x004, 1, 1, 0x000000, 0x000000, 0x000000, false, 0x000000⟩,
    ⟨0x005, 1, 1, 0xFFFFFF, 0x000000, 0x000000, false, 0x0F4240⟩,
    ⟨0x006, 1, 1, 0x01FFFF, 0x000000, 0x000000, false, 0x000000⟩,
    ⟨0x008, 1, 1, 0x00000F, 0x000000, 0x000000, false, 0x000003⟩,
    ⟨0x009, 1, 1, 0x000000, 0x00000F, 0x000000, false, 0x000000⟩,
    ⟨0x00C, 1, 1, 0xFFFFFF, 0x000000, 0x000000, false, 0x000000⟩,
    ⟨0x010, 1, 1, 0xFFFFFF, 0x000000, 0x000000, false, 0x000000⟩,
    ⟨0x011, 1, 1, 0x1FFFFF, 0x000000, 0x000000, false, 0x17D784⟩,
    ⟨0x012, 1, 1, 0xFFFFFF, 0x000000, 0x000000, false, 0x030D40⟩,
    ⟨0x014, 1, 1, 0x00000F, 0x400000, 0x800000, false, 0x00000F⟩,
    ⟨0x015, 1, 1, 0x000000, 0x000000, 0x000000, false, 0x000000⟩,
    ⟨0x016, 1, 1, 0x000000, 0x000000, 0x000000, false, 0x000000⟩,
    ⟨0x018, 1, 1, 0x000000, 0x000000, 0x000000, false, 0x000000⟩,
    ⟨0x019, 1, 1, 0x000000, 0x000000, 0x000000, false, 0x000000⟩,
    ⟨0x01A, 1, 1, 0x000000, 0x000000, 0x000000, false, 0x000000⟩,
    ⟨0x01B, 1, 1, 0x000000, 0x000000, 0x000000, false, 0x000000⟩,
    ⟨0x01C, 1, 1, 0x000000, 0x000000, 0x000000, false, 0x000000⟩,
    ⟨0x01D, 1, 1, 0x000000, 0x000000, 0x000000, false, 0x000000⟩,
    ⟨0x100, 32, 1, 0xFFFFFF, 0x000000, 0x000000, false, 0x000000⟩,
    ⟨0x120, 32, 1, 0x000000, 0x000000, 0x000000, false, 0x000000⟩,
    ⟨0x140, 32, 1, 0x00003F, 0x000000, 0x000000, false, 0x000000⟩ ] ++
  [ ⟨0x160, 8, 1, 0x00007F, 0x000000, 0x000000, false, 0x000000⟩,
    ⟨0x180, 40, 1, 0x000000, 0x000007, 0x000000, false, 0x000000⟩,
    ⟨0x200, 8, 4, 0xFFFFFF, 0x000000, 0x000000, false, 0x000000⟩,
    ⟨0x201, 8, 4, 0xFFFFFF, 0x000000, 0x000000, false, 0x000000⟩,
    ⟨0x202, 8, 4, 0xFFFFFF, 0x000000, 0x000000, false, 0x000000⟩,
    ⟨0x300, 8, 8, 0x000000, 0x000000, 0x000000, false, 0x000000⟩,
    ⟨0x301, 8, 8, 0x000000, 0x000000, 0x000000, false, 0x000000⟩,
    ⟨0x302, 8, 8, 0x000000, 0x000000, 0x000000, false, 0x000000⟩,
    ⟨0x304, 8, 8, 0xFFFFC0, 0x000000, 0x000000, false, 0x000000⟩,
    ⟨0x305, 8, 8, 0x0000FF, 0x000000, 0x000000, false, 0x000000⟩,
    ⟨0x306, 8, 8, 0x000000, 0x000001, 0x000000, false, 0x000000⟩ ]

/-- The register list of RTC. -/
def RegRow.ofRTC : List RegRow :=
  [ ⟨0x000, 1, 1, 0x200000, 0xDC0000, 0x000000, false, 0xC00000⟩,
    ⟨0x001, 1, 1, 0x000000, 0x000000, 0x000000, false, 0x000000⟩,
    ⟨0x002, 1, 1, 0x000000, 0x000000, 0x000000, false, 0x000000⟩,
    ⟨0x003, 1, 1, 0x000000, 0x800000, 0x000000, false, 0x000000⟩,
    ⟨0x004, 1, 1, 0x00FFFF, 0x000000, 0x000000, false, 0x000000⟩,
    ⟨0x008, 1, 1, 0x000000, 0x000000, 0x000000, false, 0x000000⟩,
    ⟨0x009, 1, 1, 0x000000, 0x000000, 0x000000, false, 0x000000⟩,
    ⟨0x00A, 1, 1, 0x000000, 0x000000, 0x000000, false, 0x000000⟩,
    ⟨0x00B, 1, 1, 0x000000, 0x000000, 0x000000, false, 0x000000⟩,
    ⟨0x00C, 1, 1, 0x000000, 0x000000, 0x000000, false, 0x000501⟩,
    ⟨0x00D, 1, 1, 0x000000, 0x000000, 0x000000, false, 0x000001⟩,
    ⟨0x00E, 1, 1, 0x000000, 0x000000, 0x000000, false, 0x0007D0⟩,
    ⟨0x010, 1, 1, 0xFFFFFF, 0x000000, 0x000000, false, 0x000000⟩,
    ⟨0x011, 1, 1, 0x7FFFFF, 0x000000, 0x000000, false, 0x000000⟩,
    ⟨0x012, 1, 1, 0x007FFF, 0x000000, 0x800000, false, 0x000000⟩,
    ⟨0x018, 1, 1, 0x000000, 0x0000FF, 0x000000, false, 0x000000⟩,
    ⟨0x020, 4, 8, 0xE00000, 0x000000, 0x000000, false, 0x000000⟩,
    ⟨0x021, 4, 8, 0xFFFFFF, 0x000000, 0x000000, false, 0x000000⟩,
    ⟨0x022, 4, 8, 0x7FFFFF, 0x000000, 0x000000, false, 0x000000⟩,
    ⟨0x023, 4, 8, 0xFFFFFF, 0x000000, 0x000000, false, 0x000000⟩,
    ⟨0x024, 4, 8, 0x000000, 0x000000, 0x000000, false, 0x000000⟩,
    ⟨0x025, 4, 8, 0x000000, 0x000000, 0x000000, false, 0x000000⟩ ]

/-- The register list of NVM. -/
def RegRow.ofNVM : List RegRow :=
  [ ⟨0x000, 1, 1, 0x000000, 0x000000, 0x000000, false, 0x000000⟩,
    ⟨0x001, 1, 1, 0x1FFFFF, 0x000000, 0x000000, false, 0x000000⟩,
    ⟨0x002, 1, 1, 0x008000, 0x070000, 0x000000, true, 0x000000⟩,
    ⟨0x003, 1, 1, 0x000000, 0x000000, 0x000000, false, 0x000000⟩,
    ⟨0x004, 1, 1, 0x000000, 0x000000, 0x000000, false, 0x000000⟩,
    ⟨0x005, 1, 1, 0x000000, 0x000000, 0x000000, false, 0x000000⟩,
    ⟨0x006, 1, 1, 0xFFFFFF, 0x000000, 0x000000, false, 0x000000⟩,
    ⟨0x008, 1, 1, 0x000000, 0x000000, 0x000000, false, 0x000000⟩,
    ⟨0x009, 1, 1, 0x000000, 0x000000, 0x000000, false, 0x000000⟩,
    ⟨0x010, 8, 1, 0xFFFFFF, 0x000000, 0x000000, true, 0x000000⟩,
    ⟨0x040, 64, 1, 0xFFFFFF, 0x000000, 0x000000, false, 0x000000⟩,
    ⟨0x080, 16, 1, 0xFFFFFF, 0x000000, 0x000000, false, 0x000000⟩ ]

/-- The register list of RFE. -/
def RegRow.ofRFE : List RegRow :=
  [ ⟨0x000, 1, 1, 0x000003, 0x000000, 0x000000, false, 0x000000⟩,
    ⟨0x001, 1, 1, 0x000000, 0x00000E, 0x000000, false, 0x000000⟩,
    ⟨0x002, 1, 1, 0x00000F, 0x000000, 0x000000, false, 0x000000⟩,
    ⟨0x004, 1, 1, 0x000000, 0x000000, 0x000000, false, 0x000000⟩,
    ⟨0x005, 1, 1, 0x000000, 0x000000, 0x000000, false, 0x000000⟩,
    ⟨0x006, 1, 1, 0x000000, 0x000000, 0x000000, false, 0x000000⟩,
    ⟨0x007, 1, 1, 0x000000, 0x000000, 0x000000, false, 0x000000⟩,
    ⟨0x008, 1, 1, 0x000000, 0x000000, 0x000000, false, 0x000000⟩,
    ⟨0x00C, 1, 1, 0x000000, 0x000000, 0x000000, false, 0x000000⟩,
    ⟨0x00D, 1, 1, 0x00001F, 0x000000, 0x000000, false, 0x000008⟩,
    ⟨0x010, 1, 1, 0x0FFFFF, 0x000000, 0x000000, false, 0x0E6B96⟩,
    ⟨0x011, 1, 1, 0x000000, 0x000000, 0x000000, false, 0x000000⟩,
    ⟨0x014, 1, 1, 0xFF0003, 0x000000, 0x000000, false, 0x070000⟩,
    ⟨0x018, 1, 1, 0x00003F, 0x000000, 0x000000, false, 0x000014⟩,
    ⟨0x019, 1, 1, 0x000000, 0x000000, 0x000000, false, 0x000000⟩,
    ⟨0x020, 1, 1, 0xFFC0FF, 0x000000, 0x000000, false, 0x000000⟩,
    ⟨0x021, 1, 1, 0xFFFFFF, 0x000000, 0x000000, false, 0x000000⟩,
    ⟨0x022, 1, 1, 0xFFFFFF, 0x000000, 0x000000, false, 0x000000⟩,
    ⟨0x023, 1, 1, 0x000000, 0x000000, 0x000000, false, 0x000000⟩,
    ⟨0x024, 1, 1, 0x000000, 0x000000, 0x000000, false, 0x000000⟩,
    ⟨0x025, 1, 1, 0x000000, 0x000000, 0x000000, false, 0x000000⟩,
    ⟨0x028, 1, 1, 0x000000, 0x000000, 0x000000, false, 0x000000⟩,
    ⟨0x030, 1, 1, 0x000000, 0x000000, 0x000000, false, 0x000000⟩,
    ⟨0x031, 1, 1, 0xFFFFFF, 0x000000, 0x000000, false, 0x000000⟩ ] ++
  [ ⟨0x032, 1, 1, 0x000000, 0x000000, 0x000000, false, 0x000000⟩,
    ⟨0x100, 30, 1, 0x000000, 0x000000, 0x000000, false, 0x000000⟩,
    ⟨0x200, 41, 1, 0x00FFFF, 0x000000, 0x000000, false, 0x000000⟩,
    ⟨0x240, 41, 1, 0x00FFFF, 0x000000, 0x000000, false, 0x000000⟩ ]

/-- The register list of PHY. -/
def RegRow.ofPHY : List RegRow :=
  [ ⟨0x000, 1, 1, 0x00001F, 0x000000, 0x000000, false, 0x000010⟩,
    ⟨0x004, 1, 1, 0xFFFFFF, 0x000000, 0x000000, true, 0x3A0F27⟩,
    ⟨0x005, 1, 1, 0x073FFF, 0x000000, 0x000000, true, 0x02205D⟩,
    ⟨0x008, 1, 1, 0xFFFF07, 0x000000, 0x000000, false, 0x020800⟩,
    ⟨0x009, 1, 1, 0x000037, 0x000000, 0x000000, false, 0x000000⟩,
    ⟨0x00A, 1, 1, 0x000FFF, 0x000000, 0x000000, false, 0x000000⟩,
    ⟨0x00C, 1, 1, 0xFFFFC0, 0x000000, 0x000000, true, 0x000000⟩,
    ⟨0x00D, 1, 1, 0x000003, 0x000000, 0x800000, false, 0x000000⟩,
    ⟨0x010, 1, 1, 0xFFFFFF, 0x000000, 0x000000, false, 0x041028⟩,
    ⟨0x011, 1, 1, 0xFFFFFF, 0x000000, 0x000000, false, 0x405810⟩,
    ⟨0x012, 1, 1, 0xFFFFFF, 0x000000, 0x000000, false, 0x1C344C⟩,
    ⟨0x013, 1, 1, 0xFFFFFF, 0x000000, 0x000000, false, 0x660C18⟩,
    ⟨0x014, 5, 1, 0xFFFFFF, 0x000000, 0x000000, false, 0x000000⟩,
    ⟨0x019, 1, 1, 0xFF0000, 0x000000, 0x000000, false, 0x000000⟩,
    ⟨0x01C, 1, 1, 0x000000, 0x000000, 0x000000, false, 0x000000⟩,
    ⟨0x01D, 1, 1, 0x000000, 0x000000, 0x000000, false, 0x000000⟩,
    ⟨0x020, 3, 1, 0xFFFFFF, 0x000000, 0x000000, false, 0x000000⟩,
    ⟨0x030, 1, 1, 0xFFFFFF, 0x000000, 0x000000, false, 0x000000⟩,
    ⟨0x031, 1, 1, 0xFFFFFF, 0x000000, 0x000000, false, 0x000000⟩,
    ⟨0x032, 1, 1, 0xFFFFFF, 0x000000, 0x000000, false, 0x000000⟩,
    ⟨0x033, 1, 1, 0xFFFFFF, 0x000000, 0x000000, false, 0x000000⟩,
    ⟨0x034, 1, 1, 0xFFFFFF, 0x000000, 0x000000, false, 0x000000⟩,
    ⟨0x040, 16, 1, 0x000000, 0x000000, 0x000000, false, 0x000000⟩,
    ⟨0x050, 16, 1, 0x000000, 0x000000, 0x000000, false, 0x000000⟩ ] ++
  [ ⟨0x060, 3, 1, 0x000000, 0x000000, 0x000000, false, 0x000000⟩,
    ⟨0x063, 1, 1, 0x000000, 0x000000, 0x000000, false, 0x000000⟩ ]

/-- The register list of SLOT. -/
def RegRow.ofSLOT : List RegRow :=
  [ ⟨0x000, 1, 1, 0xEFC000, 0x000000, 0x000000, false, 0x200000⟩,
    ⟨0x001, 1, 1, 0x000000, 0x0000FF, 0x000000, false, 0x000000⟩,
    ⟨0x002, 1, 1, 0xFFFFFF, 0x000000, 0x000000, false, 0x848898⟩,
    ⟨0x003, 1, 1, 0xFFFFFF, 0x000000, 0x000000, false, 0x3E8190⟩,
    ⟨0x004, 1, 1, 0x000000, 0x000000, 0x000000, false, 0x000000⟩,
    ⟨0x005, 1, 1, 0x000000, 0x000000, 0x000000, false, 0x000000⟩,
    ⟨0x006, 1, 1, 0xFFFFFF, 0x000000, 0x000000, false, 0x000000⟩,
    ⟨0x007, 1, 1, 0x00FFFF, 0x000000, 0x800000, false, 0x000000⟩,
    ⟨0x008, 1, 1, 0xFFFFFF, 0x000000, 0x000000, false, 0x009C40⟩,
    ⟨0x009, 1, 1, 0xFFFFFF, 0x000000, 0x000000, false, 0x000000⟩,
    ⟨0x00A, 1, 1, 0xFFFFFF, 0x000000, 0x000000, false, 0x000000⟩,
    ⟨0x00B, 1, 1, 0xFFFFFF, 0x000000, 0x000000, false, 0x708080⟩,
    ⟨0x00C, 1, 1, 0x000000, 0x000000, 0x000000, false, 0x000000⟩,
    ⟨0x00D, 1, 1, 0x000000, 0x000000, 0x000000, false, 0x000000⟩,
    ⟨0x00E, 1, 1, 0x000000, 0x000000, 0x000000, false, 0x000000⟩,
    ⟨0x00F, 1, 1, 0x000000, 0x000000, 0x000000, false, 0x000000⟩,
    ⟨0x010, 1, 1, 0xFFFFFF, 0x000000, 0x000000, false, 0x000000⟩,
    ⟨0x011, 1, 1, 0xFFFFFF, 0x000000, 0x000000, false, 0x000000⟩,
    ⟨0x012, 1, 1, 0x000000, 0x000000, 0x000000, false, 0x000000⟩,
    ⟨0x013, 1, 1, 0x000000, 0x000000, 0x000000, false, 0x000000⟩,
    ⟨0x014, 1, 1, 0x000000, 0x000000, 0x000000, false, 0x000000⟩,
    ⟨0x015, 1, 1, 0xFFFFFF, 0x000000, 0x000000, false, 0x000000⟩,
    ⟨0x018, 1, 1, 0x00003F, 0x000000, 0x800000, false, 0x000000⟩,
    ⟨0x020, 21, 1, 0xFFFFFF, 0x000000, 0x000000, false, 0x000000⟩ ] ++
  [ ⟨0x035, 1, 1, 0xFF0000, 0x000000, 0x000000, false, 0x000000⟩,
    ⟨0x060, 8, 2, 0x80FFFF, 0x000000, 0x000000, false, 0x000000⟩,
    ⟨0x061, 8, 2, 0xFFFFFF, 0x000000, 0x000000, false, 0x000000⟩,
    ⟨0x070, 1, 1, 0x00FFFF, 0x000000, 0x000000, false, 0x0007D0⟩,
    ⟨0x071, 1, 1, 0xFFFFFF, 0x000000, 0x000000, false, 0x11226E⟩,
    ⟨0x074, 2, 4, 0x8000FF, 0x000000, 0x000000, false, 0x000000⟩,
    ⟨0x075, 2, 4, 0x000000, 0x000000, 0x000000, false, 0x000000⟩,
    ⟨0x076, 2, 4, 0x00FFFF, 0x000000, 0x000000, false, 0x000000⟩,
    ⟨0x077, 2, 4, 0x000000, 0x000000, 0x000000, false, 0xFFFFFF⟩,
    ⟨0x07C, 1, 1, 0x8000FF, 0x000000, 0x000000, false, 0x000071⟩,
    ⟨0x07D, 1, 1, 0x0007FF, 0x000000, 0x000000, false, 0x000028⟩,
    ⟨0x080, 1, 1, 0x000007, 0x000000, 0x200000, false, 0x000000⟩ ]

/-- The register list of HOP. -/
def RegRow.ofHOP : List RegRow :=
  [ ⟨0x000, 1, 1, 0xBC0000, 0x000000, 0x000000, false, 0x280000⟩,
    ⟨0x001, 1, 1, 0x000000, 0x00001F, 0x000000, false, 0x000000⟩,
    ⟨0x002, 1, 1, 0xFE07FF, 0x000000, 0x000000, false, 0x480080⟩,
    ⟨0x004, 1, 1, 0xFFFF80, 0x000000, 0x000000, true, 0x000000⟩,
    ⟨0x005, 1, 1, 0x000FFF, 0x000000, 0x000000, true, 0x000400⟩,
    ⟨0x006, 1, 1, 0xFFFFFF, 0x000000, 0x000000, true, 0x000000⟩,
    ⟨0x007, 1, 1, 0xFFFFF0, 0x000000, 0x000000, true, 0x000000⟩,
    ⟨0x008, 1, 1, 0xFFFFFC, 0x000000, 0x000000, true, 0x000000⟩,
    ⟨0x009, 1, 1, 0x00000F, 0x000000, 0x000000, false, 0x000007⟩,
    ⟨0x00A, 1, 1, 0x000000, 0x000000, 0x000000, false, 0x000000⟩,
    ⟨0x00C, 1, 1, 0x00FFFF, 0x000000, 0x000000, false, 0x00FFFF⟩,
    ⟨0x00D, 1, 1, 0x00FFFF, 0x000000, 0x000000, false, 0x00FFFE⟩,
    ⟨0x00E, 2, 1, 0xFFFFFF, 0x000000, 0x000000, false, 0x000000⟩,
    ⟨0x010, 1, 1, 0xFFFF00, 0x000000, 0x000000, false, 0x000000⟩,
    ⟨0x011, 1, 1, 0x0000FF, 0x000000, 0x000000, false, 0x000000⟩,
    ⟨0x012, 1, 1, 0xFFFFFF, 0x000000, 0x000000, false, 0x000000⟩,
    ⟨0x013, 1, 1, 0x0000FF, 0x000000, 0x000000, false, 0x000000⟩,
    ⟨0x014, 3, 1, 0xFFFFFF, 0x000000, 0x000000, false, 0x000000⟩,
    ⟨0x017, 1, 1, 0x000000, 0x000000, 0x000000, false, 0x000000⟩,
    ⟨0x018, 1, 1, 0x000000, 0x000000, 0x000000, false, 0x000000⟩,
    ⟨0x019, 1, 1, 0x000000, 0x000000, 0x000000, false, 0x000000⟩,
    ⟨0x01A, 1, 1, 0x000000, 0x000000, 0x000000, false, 0x000000⟩,
    ⟨0x01B, 1, 1, 0x000000, 0x000000, 0x000000, false, 0x000000⟩,
    ⟨0x01C, 1, 1, 0x000000, 0x000000, 0x000000, false, 0x000000⟩ ] ++
  [ ⟨0x01D, 1, 1, 0x000000, 0x000000, 0x000000, false, 0x000000⟩,
    ⟨0x01E, 1, 1, 0x80003F, 0x000000, 0x000000, false, 0x000000⟩,
    ⟨0x020, 4, 1, 0x000000, 0x000000, 0x000000, false, 0x000000⟩,
    ⟨0x030, 1, 1, 0xFFFFFF, 0x000000, 0x000000, false, 0x000000⟩,
    ⟨0x031, 1, 1, 0xFFFFFF, 0x000000, 0x000000, false, 0x000000⟩,
    ⟨0x032, 1, 1, 0xFFFFFF, 0x000000, 0x000000, false, 0x000000⟩,
    ⟨0x033, 1, 1, 0xFFFFFF, 0x000000, 0x000000, false, 0x000000⟩,
    ⟨0x034, 1, 1, 0xFFFFFF, 0x000000, 0x000000, false, 0x000000⟩,
    ⟨0x035, 1, 1, 0xFFFFFF, 0x000000, 0x000000, false, 0x000000⟩,
    ⟨0x036, 1, 1, 0xFFFFFF, 0x000000, 0x000000, false, 0x000000⟩,
    ⟨0x037, 1, 1, 0xFFFFFF, 0x000000, 0x000000, false, 0x000000⟩,
    ⟨0x038, 1, 1, 0xFFFFFF, 0x000000, 0x000000, false, 0x000000⟩,
    ⟨0x039, 1, 1, 0xFFFFFF, 0x000000, 0x000000, false, 0x000000⟩,
    ⟨0x100, 4, 4, 0x2007FF, 0x000000, 0x000000, false, 0x000040⟩,
    ⟨0x110, 12, 4, 0xE007FF, 0x000000, 0x000000, false, 0x400040⟩,
    ⟨0x140, 12, 4, 0xE007FF, 0x000000, 0x000000, false, 0x800040⟩,
    ⟨0x170, 1, 4, 0x2007FF, 0x000000, 0x000000, false, 0x000040⟩,
    ⟨0x174, 1, 4, 0x2007FF, 0x000000, 0x000000, false, 0x400040⟩,
    ⟨0x178, 2, 4, 0x2007FF, 0x000000, 0x000000, false, 0x800040⟩,
    ⟨0x101, 32, 4, 0x0007FF, 0x000000, 0x000000, false, 0x000030⟩,
    ⟨0x102, 32, 4, 0x000000, 0x000000, 0x000000, false, 0x000000⟩,
    ⟨0x103, 32, 4, 0xFFFFFF, 0x000000, 0x000000, false, 0x000000⟩ ]

/-- The register list of ASH. -/
def RegRow.ofASH : List RegRow :=
  [ ⟨0x000, 1, 1, 0x000000, 0x000000, 0x000000, false, 0x000000⟩,
    ⟨0x001, 1, 1, 0x000000, 0x000000, 0x000000, false, 0x000000⟩,
    ⟨0x002, 1, 1, 0x000000, 0x000000, 0x000000, false, 0x000000⟩,
    ⟨0x003, 1, 1, 0x000000, 0x000000, 0x000000, false, 0x000000⟩,
    ⟨0x004, 1, 1, 0x000000, 0x0E0000, 0x000000, false, 0x000000⟩,
    ⟨0x200, 512, 1, 0xFFFFFF, 0x000000, 0x000000, false, 0x000000⟩,
    ⟨0x400, 512, 1, 0x000000, 0x000000, 0x000000, false, 0x000000⟩ ]

/-- The register list of TW. -/
def RegRow.ofTW : List RegRow :=
  [ ⟨0x000, 1, 1, 0xF40000, 0x000000, 0x080000, false, 0x000000⟩,
    ⟨0x001, 1, 1, 0x000000, 0x3FE000, 0x000000, false, 0x000000⟩,
    ⟨0x002, 1, 1, 0xFFF000, 0x000000, 0x000000, false, 0x0A3000⟩,
    ⟨0x003, 1, 1, 0xFFFFFF, 0x000000, 0x000000, false, 0x000000⟩,
    ⟨0x004, 1, 1, 0x000000, 0x000000, 0x000000, false, 0x000000⟩,
    ⟨0x008, 1, 1, 0xFFFFFF, 0x000000, 0x000000, false, 0x000000⟩,
    ⟨0x009, 1, 1, 0x000000, 0x000000, 0x000000, false, 0x000000⟩,
    ⟨0x00A, 1, 1, 0x000000, 0x000000, 0x000000, false, 0x000000⟩,
    ⟨0x00C, 1, 1, 0xFFFFFC, 0x000000, 0x000000, false, 0x000000⟩,
    ⟨0x00D, 1, 1, 0x000007, 0x000000, 0x000000, false, 0x000000⟩,
    ⟨0x00E, 1, 1, 0x000000, 0x000000, 0x000000, false, 0x000000⟩,
    ⟨0x010, 1, 1, 0xFFFFFF, 0x000000, 0x000000, false, 0x000000⟩,
    ⟨0x011, 1, 1, 0xFFFFFF, 0x000000, 0x000000, false, 0x000000⟩,
    ⟨0x012, 1, 1, 0xFFFFFF, 0x000000, 0x000000, false, 0x000000⟩,
    ⟨0x020, 16, 2, 0xFFFFC0, 0x000000, 0x000000, false, 0x000000⟩,
    ⟨0x021, 16, 2, 0x800FFF, 0x000000, 0x000000, false, 0x000000⟩ ]

/-- The register list of DALI. -/
def RegRow.ofDALI : List RegRow :=
  [ ⟨0x000, 1, 1, 0xF00000, 0x000000, 0x000000, false, 0x000000⟩,
    ⟨0x001, 1, 1, 0x000003, 0x000000, 0x000000, false, 0x000003⟩,
    ⟨0x002, 1, 1, 0x000000, 0x600000, 0x000000, false, 0x800000⟩,
    ⟨0x004, 1, 1, 0xFFFFFF, 0x000000, 0x000000, false, 0x000000⟩,
    ⟨0x005, 1, 1, 0x000000, 0x000000, 0x000000, false, 0x000000⟩,
    ⟨0x006, 1, 1, 0x000000, 0x000000, 0x000000, false, 0x000000⟩,
    ⟨0x008, 1, 1, 0x000000, 0x000000, 0x000000, false, 0x000000⟩,
    ⟨0x009, 1, 1, 0x000000, 0x000000, 0x000000, false, 0x000000⟩ ]

/-- The register list of HL. -/
def RegRow.ofHL : List RegRow :=
  [ ⟨0x000, 1, 1, 0xC00000, 0x000000, 0x000000, false, 0x000000⟩,
    ⟨0x001, 1, 1, 0x00FFFF, 0x000000, 0x000000, false, 0x00008B⟩,
    ⟨0x002, 1, 1, 0x00FFFF, 0x000000, 0x000000, false, 0x00200A⟩,
    ⟨0x003, 1, 1, 0x000000, 0x000003, 0x000000, false, 0x000000⟩,
    ⟨0x008, 1, 1, 0xFFFFFF, 0x000000, 0x000000, false, 0x000000⟩,
    ⟨0x009, 1, 1, 0x000000, 0x000000, 0x000000, false, 0x000000⟩,
    ⟨0x00A, 1, 1, 0x000000, 0x000000, 0x000000, false, 0x000000⟩,
    ⟨0x00C, 1, 1, 0xFFFFFC, 0x000000, 0x000000, false, 0x000000⟩,
    ⟨0x00D, 1, 1, 0x000007, 0x000000, 0x000000, false, 0x000000⟩,
    ⟨0x00E, 1, 1, 0x000000, 0x000000, 0x000000, false, 0x000000⟩,
    ⟨0x010, 1, 1, 0xFFFFFF, 0x000000, 0x000000, false, 0x000000⟩ ]

/-- The register list of SPIM. -/
def RegRow.ofSPIM : List RegRow :=
  [ ⟨0x000, 1, 1, 0xE000FF, 0x000000, 0x000000, false, 0x000002⟩,
    ⟨0x001, 1, 1, 0x000000, 0x000000, 0x000000, false, 0x000000⟩,
    ⟨0x002, 1, 1, 0x000000, 0x000000, 0x000000, false, 0x000000⟩,
    ⟨0x040, 64, 1, 0xFFFFFF, 0x000000, 0x000000, false, 0x000000⟩ ]

/-- The register list of I2C. -/
def RegRow.ofI2C : List RegRow :=
  [ ⟨0x000, 1, 1, 0xFFFFFF, 0x000000, 0x000000, false, 0x877319⟩,
    ⟨0x001, 1, 1, 0x000000, 0x000000, 0x000000, false, 0x000000⟩,
    ⟨0x002, 1, 1, 0x000000, 0x000000, 0x000000, false, 0x000000⟩,
    ⟨0x010, 10, 1, 0xFFFFFF, 0x000000, 0x000000, false, 0x000000⟩,
    ⟨0x01A, 1, 1, 0xFFFF00, 0x000000, 0x000000, false, 0x000000⟩ ]

/-- The register list of GPIO. -/
def RegRow.ofGPIO : List RegRow :=
  [ ⟨0x000, 1, 1, 0xFFFFFF, 0x000000, 0x000000, false, 0x000000⟩,
    ⟨0x001, 1, 1, 0xFFFFFF, 0x000000, 0x000000, false, 0x000000⟩,
    ⟨0x002, 1, 1, 0x000000, 0x000000, 0x000000, false, 0x000000⟩,
    ⟨0x003, 1, 1, 0x000000, 0x000000, 0x000000, false, 0x000000⟩,
    ⟨0x004, 1, 1, 0x000000, 0x000000, 0x000000, false, 0x000000⟩,
    ⟨0x005, 1, 1, 0x000000, 0xFFFFFF, 0x000000, false, 0x000000⟩,
    ⟨0x020, 24, 1, 0xFBFC00, 0x000000, 0x000000, false, 0x000000⟩,
    ⟨0x040, 2, 4, 0xFFFF07, 0x000000, 0x000000, false, 0x000000⟩,
    ⟨0x041, 2, 4, 0x00FFFF, 0x000000, 0x000000, false, 0x00FFFF⟩,
    ⟨0x042, 2, 4, 0x00FFFF, 0x000000, 0x000000, false, 0x000000⟩ ]

/-- The register list of ADC. -/
def RegRow.ofADC : List RegRow :=
  [ ⟨0x000, 1, 1, 0x9FCF00, 0x000000, 0x600000, false, 0x000000⟩,
    ⟨0x001, 1, 1, 0x00FF0F, 0x000000, 0x000000, false, 0x000403⟩,
    ⟨0x002, 1, 1, 0x000000, 0x000007, 0x000000, false, 0x000000⟩,
    ⟨0x004, 2, 1, 0xFFFFFF, 0x000000, 0x000000, false, 0x000000⟩,
    ⟨0x006, 1, 1, 0xFFFF00, 0x000000, 0x000000, false, 0x000000⟩,
    ⟨0x008, 1, 1, 0xFFFFFF, 0x000000, 0x000000, false, 0x800000⟩,
    ⟨0x009, 1, 1, 0xFFFFFF, 0x000000, 0x000000, false, 0x000FFF⟩,
    ⟨0x010, 16, 1, 0x000000, 0x000000, 0x000000, false, 0x000000⟩ ]

/-- The register list of ADIT. -/
def RegRow.ofADIT : List RegRow :=
  [ ⟨0x000, 1, 1, 0x8F0FFF, 0x000000, 0x000000, false, 0x000040⟩,
    ⟨0x001, 1, 1, 0x000000, 0x000001, 0x000000, false, 0x000000⟩,
    ⟨0x004, 1, 1, 0x000000, 0x000000, 0x000000, false, 0x000000⟩,
    ⟨0x005, 1, 1, 0x000000, 0x000000, 0x000000, false, 0x000000⟩,
    ⟨0x006, 1, 1, 0x000000, 0x000000, 0x000000, false, 0x000000⟩ ]

/-- The register list of CS. -/
def RegRow.ofCS : List RegRow :=
  [ ⟨0x000, 1, 1, 0x000000, 0x000003, 0x000000, false, 0x400000⟩,
    ⟨0x001, 1, 1, 0x000000, 0x000000, 0x000000, false, 0x000000⟩,
    ⟨0x002, 1, 1, 0x000000, 0x000000, 0x000000, false, 0x000000⟩,
    ⟨0x003, 1, 1, 0x000000, 0x000000, 0x000000, false, 0x000000⟩,
    ⟨0x004, 1, 1, 0xFFFFFF, 0x000000, 0x000000, false, 0x000000⟩,
    ⟨0x008, 1, 1, 0xFFFFFF, 0x000000, 0x000000, false, 0x000000⟩,
    ⟨0x009, 1, 1, 0xFFFFFF, 0x000000, 0x000000, false, 0x000000⟩,
    ⟨0x00A, 1, 1, 0x000000, 0x000000, 0x000000, false, 0x000000⟩,
    ⟨0x00B, 1, 1, 0x000000, 0x000000, 0x000000, false, 0x000000⟩ ]

/-- The register list of DBG. -/
def RegRow.ofDBG : List RegRow :=
  [ ⟨0x000, 1, 1, 0x000000, 0x000000, 0x000000, false, 0x974001⟩,
    ⟨0x001, 1, 1, 0x300000, 0x000000, 0x8001FF, false, 0x000000⟩,
    ⟨0x002, 1, 1, 0x000000, 0x180000, 0x000000, false, 0x000000⟩,
    ⟨0x004, 1, 1, 0xFFFFFF, 0x000000, 0x000000, false, 0x000000⟩,
    ⟨0x005, 1, 1, 0xFFFFFF, 0x000000, 0x000000, false, 0x000000⟩,
    ⟨0x008, 1, 1, 0x003F03, 0x000000, 0x000000, false, 0x000000⟩,
    ⟨0x009, 1, 1, 0xFFFFFF, 0x000000, 0x000000, false, 0x000000⟩ ]

/-- The row of a list that holds an offset, if any does. -/
def RegRow.find (off : Nat) : List RegRow → Option RegRow
  | [] => none
  | r :: rs =>
    if r.off ≤ off ∧ off < r.off + r.cnt * r.stride ∧ (off - r.off) % r.stride = 0 then some r
    else RegRow.find off rs

/-- The list of the block whose base is 0xF00000 + 0x1000 × k (R19). -/
def RegRow.block : Nat → List RegRow
  | 0 => RegRow.ofSYS
  | 1 => RegRow.ofINT
  | 2 => RegRow.ofTB
  | 3 => RegRow.ofRTC
  | 4 => RegRow.ofNVM
  | 5 => RegRow.ofRFE
  | 6 => RegRow.ofPHY
  | 7 => RegRow.ofSLOT
  | 8 => RegRow.ofHOP
  | 9 => RegRow.ofASH
  | 10 => RegRow.ofTW
  | 11 => RegRow.ofDALI
  | 12 => RegRow.ofHL
  | 13 => RegRow.ofSPIM
  | 14 => RegRow.ofI2C
  | 15 => RegRow.ofGPIO
  | 16 => RegRow.ofADC
  | 17 => RegRow.ofADIT
  | 18 => RegRow.ofCS
  | 19 => RegRow.ofDBG
  | _ => []

/-- The row of the register at a bus address; none at an unassigned offset (R5) or outside peripheral space. -/
def regRow (a : Nat) : Option RegRow :=
  if a < 0xF00000 then none else RegRow.find (a % 0x1000) (RegRow.block ((a - 0xF00000) / 0x1000))

/-- What a register that nothing has changed since reset holds (the Reset column of its list). -/
def resetWord (a : Nat) : Word :=
  match regRow a with
  | some r => BitVec.ofNat 24 r.reset
  | none => 0#24

end Sys2Proof.Machine
end

