-- ==== Sys2Proof/Machine/State.lean ====
section
/-! DEFINITION. The state of the part. The memory-mapped registers are one sparse map by bus address (`State.regs`,
unlisted registers hold their reset value); memory is another; every block adds a record of what it holds that no
register shows. All of it is plain data, and the default of each field is its value after reset. -/
namespace Sys2Proof.Machine

/-- Why the machine stops with a fault. No command of this block does: a bus error, an exception or an error flag is
an effect on the state. The one reason stands for a machine check that no meaning raises (safe). -/
inductive Fault where
  /-- Raised by no meaning (safe). -/
  | none
  deriving DecidableEq, Repr

/-- Why a command is refused. -/
inductive Refusal where
  /-- The command has no meaning yet; raised only by `exec` (safe). -/
  | notModelled (mnemonic : String)
  deriving DecidableEq, Repr

/-! ## The cores (chapters 07 and 08) -/

/-- A write that an instruction has issued (R183). -/
inductive Write where
  /-- A general register. -/
  | g (r : Nat) (v : Word)
  /-- An accumulator. -/
  | acc (r : Nat) (v : Acc)
  /-- The bits of sr under a mask. -/
  | flags (mask v : Word)
  /-- A special register, by number (R177). -/
  | special (n : Nat) (v : Word)
  /-- The bits of a CP0 register under a mask (R227). -/
  | cp0 (r : Nat) (mask v : Word)
  deriving DecidableEq, Repr

/-- A write in flight: `left` issue cycles until it is visible (R182). -/
structure InFlight where
  /-- Issue cycles left. -/
  left : Nat
  /-- The write. -/
  w : Write
  deriving DecidableEq, Repr

/-- What `reti` restores after its second slot (R196). -/
structure RetiRestore where
  /-- epc as visible when the reti issued. -/
  epc : Word
  /-- esr. -/
  esr : Word
  /-- elc. -/
  elc : Word
  /-- ebt. -/
  ebt : Word
  deriving DecidableEq, Repr

/-- A branch whose delay slots are still to issue (R186). -/
structure BranchState where
  /-- Where the core goes after the second slot: the target, or the address after the slots of a branch not taken. -/
  target : Word
  /-- Delay slots left to issue, 2 or 1. -/
  left : Nat
  /-- The address of the branch, where ILLEGAL_PAIR reports (R186). -/
  src : Word
  /-- For a reti, what it restores. -/
  reti : Option RetiRestore
  deriving DecidableEq, Repr

/-- How a core stands. -/
inductive RunState where
  /-- Not released after a reset (R205, R469). -/
  | held
  /-- Issuing. -/
  | run
  /-- In `wfi` (R202). -/
  | wfi
  /-- In `wst` (R203). -/
  | wst
  /-- In `cpwait` (R204). -/
  | cpwait
  /-- Halted by a double fault (R201). -/
  | halted
  deriving DecidableEq, Repr

/-- A failed data access that has completed and not yet been taken (R199). -/
structure MemFault where
  /-- Exception code, 5, 6 or 10 (R197). -/
  code : Nat
  /-- The data address. -/
  efa : Word
  /-- The address of the access instruction. -/
  eia : Word
  deriving DecidableEq, Repr

/-- How far a CP3 operation has come (R231 to R237). -/
inductive Cp3State where
  /-- Its command waits to be sent. -/
  | waiting
  /-- Its command has been sent. -/
  | sent
  /-- Its result has been received. -/
  | result (w : Word)
  /-- It ended with a cause (1 ERR, 2 TMO, 3 OFF). -/
  | failed (cause : Nat)
  deriving DecidableEq, Repr

/-- One uncollected CP3 operation of a core (R231). -/
structure Cp3Op where
  /-- Destination register. -/
  rd : Nat
  /-- Tag 0–3; 4 while no tag is free for it. -/
  tag : Nat
  /-- Operation code. -/
  op : Nat
  /-- First operand. -/
  ga : Word
  /-- Second operand. -/
  gb : Word
  /-- How far it has come. -/
  st : Cp3State
  /-- The place of its issue among the operations of all cores (R236). -/
  ord : Nat
  deriving DecidableEq, Repr

/-- A `c0code` that is running (R225): issue cycles left and the results it will write. -/
structure C0Run where
  /-- Issue cycles left until its results are written. -/
  left : Nat
  /-- tab0–tab2. -/
  tabs : List Word
  /-- Bits 22:11 of res. -/
  res : Word
  deriving DecidableEq, Repr

/-- A `wst` whose wait has not ended (R203). -/
structure TickWait where
  /-- Its address. -/
  addr : Word
  /-- A slot tick has reached the core since it first issued. -/
  seen : Bool := false
  /-- The handlers entered since it was interrupted and not yet returned from. -/
  depth : Nat := 0
  deriving DecidableEq, Repr

/-- One Ixxia-24 core. -/
structure CoreState where
  /-- g0–g15 (R176); undefined after reset: 0 at State.reset by assumption 2. -/
  g : List Word := List.replicate 16 0#24
  /-- a0–a3 (R176); undefined after reset: 0 at State.reset by assumption 2. -/
  acc : List Acc := List.replicate 4 0#56
  /-- pc, the address of the next instruction to issue (R177, R205). -/
  pc : Word := 0#24
  /-- sr (R177). -/
  sr : Word := 0#24
  /-- lc (R177). -/
  lc : Word := 0#24
  /-- ie (R177). -/
  ie : Word := 0#24
  /-- ivb (R177, R205). -/
  ivb : Word := 0#24
  /-- epc (R177). -/
  epc : Word := 0#24
  /-- esr (R177). -/
  esr : Word := 0#24
  /-- elc (R177). -/
  elc : Word := 0#24
  /-- ebt (R177). -/
  ebt : Word := 0#24
  /-- ecause (R177). -/
  ecause : Word := 0#24
  /-- efa (R177). -/
  efa : Word := 0#24
  /-- eia (R177). -/
  eia : Word := 0#24
  /-- cyc (R177): the cycles that the model passes (assumption 8). -/
  cyc : Word := 0#24
  /-- The value of cyc at Bedrock's present tick, as far as ticks have passed: a cycle of LK is a tick, and what LK has issued beyond it
  lies within the ticks to come (R177; the model's own field). -/
  tickCyc : Word := 0#24
  /-- Writes in flight, in order of issue (R182). -/
  inflight : List InFlight := []
  /-- The branch whose delay slots are to issue (R186). -/
  branch : Option BranchState := none
  /-- The address of the `rpt` prefix while a repetition is in progress (R189). -/
  rptPc : Option Word := none
  /-- The iterations still to issue by the latched count (R187); lc shows it, and a write of lc does not change it. -/
  rptLeft : Nat := 0
  /-- A prefix has issued and its first iteration has not (R189). -/
  rptFresh : Bool := false
  /-- How the core stands (R202 to R205). -/
  run : RunState := .held
  /-- The core's clock has stopped because a clock failed or the part sleeps deeply (R268, R273). -/
  noClock : Bool := false
  /-- Halted through the debug port (R436). -/
  dbgHalt : Bool := false
  /-- An imprecise fault to be taken at the boundary (R199). -/
  fault : Option MemFault := none
  /-- The source number accepted and not yet entered (R194). -/
  accepted : Option Nat := none
  /-- The `wst` instructions that have issued and whose waits have not ended, the newest first (R203). -/
  waits : List TickWait := []
  /-- The core has issued since the last deep-sleep exit (R272). -/
  issued : Bool := false
  /-- CP0 registers 0–15 (R227); 0 by assumption 2. -/
  cp0 : List Word := List.replicate 16 0#24
  /-- The `c0code` in progress (R225). -/
  c0run : Option C0Run := none
  /-- CP1 crc (R229); 0 by assumption 2. -/
  crc : Word := 0#24
  /-- CP1 pn9 (R229); 0 by assumption 2. -/
  pn9 : BitVec 9 := 0#9
  /-- CP1 scr (R229); 0 by assumption 2. -/
  scr : BitVec 7 := 0#7
  /-- CP2 accumulator re (R230); 0 by assumption 2. -/
  cre : BitVec 32 := 0#32
  /-- CP2 accumulator im (R230); 0 by assumption 2. -/
  cim : BitVec 32 := 0#32
  /-- Uncollected CP3 operations, oldest first (R231). -/
  cp3 : List Cp3Op := []
  /-- CP3 operations discarded and not yet faulted (R232). -/
  disc : Nat := 0
  /-- Cause of the last CPFAULT (R233). -/
  cp3cause : Nat := 0
  /-- Tags retired by a timeout (R237). -/
  retired : List Nat := []
  deriving DecidableEq, Repr

/-! ## System control, clocks and supplies (chapters 01, 10, 11, 19) -/

/-- The reset classes, narrowest first (chapter 01). -/
inductive ResetClass where
  | link | application | system | power
  deriving DecidableEq, Repr

/-- The power modes (R271): run and sleep are told apart by whether a core waits. -/
inductive PowerMode where
  /-- Run or sleep. -/
  | on
  /-- Deep sleep entered at an RTC edge, Bedrock extrapolating (R273). -/
  | deepSleep
  /-- The exit from deep sleep is running (R274). -/
  | exiting
  /-- Off with RTC (R276). -/
  | off
  deriving DecidableEq, Repr

/-- System control, reset controller, clocks and supplies. -/
structure SysState where
  /-- The reset in progress (R27). -/
  inReset : Option ResetClass := none
  /-- RESET_N is held low (R27). -/
  pinLow : Bool := false
  /-- VDD is below the brown-out release level (R278). -/
  vddLow : Bool := false
  /-- Masters raised to priority 1½ for their next transfer (R12). -/
  raised : List Master := []
  /-- Watchdog counts since the last restart (R29). -/
  wdCount : Nat := 0
  /-- RTC cycles of the watchdog's 512-cycle divider (R29). -/
  wdDiv : Nat := 0
  /-- The reference is failed now (R266). -/
  refFail : Bool := false
  /-- The system PLL is failed now (R266). -/
  splFail : Bool := false
  /-- The time-base PLL is failed now (R266). -/
  tplFail : Bool := false
  /-- The 32 kHz clock is failed now (R266). -/
  x32Fail : Bool := false
  /-- The source that a waiting CCLK switch goes to, coded as csrc (R260). -/
  swTo : Option Nat := none
  /-- A switch away from a stopped clock is running (R261). -/
  swForced : Bool := false
  /-- The source written to csrc while that switch runs, to which CCLK goes next (R260). -/
  swNext : Option Nat := none
  /-- The failed source that CCLK has left, 1 or 2: A0 and A1 wait for it, and CCLK goes back to it (R268, R269). -/
  away : Option Nat := none
  /-- cdiv, hdiv and pdiv in effect, as bits 17:14 of SYS_CLKCTL hold them (R262). -/
  divs : Nat := 0
  /-- The power mode (R271). -/
  power : PowerMode := .on
  /-- An off-with-RTC request waits (R276). -/
  offReq : Bool := false
  /-- A write or read of a register, and memory words, answer here to the master that asked: the data of the last
  bus read (the model's own field). -/
  rdata : Word := 0#24
  /-- The last bus transfer of a command ended with a bus error (R15; the model's own field). -/
  busErr : Bool := false
  deriving DecidableEq, Repr

/-! ## Bedrock (chapter 02) -/

/-- An event on the event fabric (R44, R45). -/
inductive FabricEvent where
  /-- A compare channel, 0–39. -/
  | channel (n : Nat)
  /-- A capture input, 0–7. -/
  | capture (n : Nat)
  /-- The slot tick (R33). -/
  | slotTick
  deriving DecidableEq, Repr

/-- An event that travels on the fabric: raised in the tick T in which the count was `raised`, acted on in T + 8 (R44). -/
structure FabricEntry where
  /-- The count in the tick in which the event was raised. -/
  raised : Nat
  /-- The event. -/
  ev : FabricEvent
  deriving DecidableEq, Repr

/-- A channel that a wrap-tick arm has armed in the present tick, and what a disarm that lands in this tick puts back (R41). -/
structure WrapArmed where
  /-- The channel, 0–39. -/
  ch : Nat
  /-- TB_CHSTATn before the arm. -/
  was : Word
  deriving DecidableEq, Repr

/-- One capture input beyond its registers (R46 to R48). -/
structure CaptureState where
  /-- The visible register; none when empty. -/
  visible : Option (BitVec 72) := none
  /-- A capture has been placed since reset: reading the empty register then gives a free value (assumption 20). -/
  used : Bool := false
  /-- The hold register. -/
  hold : Option (BitVec 72) := none
  /-- The level of the filter's reference, or of the last accepted edge (R47); 0 by assumption 2. -/
  level : Bool := false
  deriving DecidableEq, Repr

/-- Bedrock. -/
structure TbState where
  /-- The 72-bit count (R31). -/
  count : BitVec 72 := 0#72
  /-- The slot phase (R33). -/
  phase : Nat := 0
  /-- The length of the slot in progress (R34). -/
  len : Nat := 1000000
  /-- Channels that a committed wrap-tick arm waits for (R40), bit n for channel n. -/
  wrapArm : BitVec 40 := 0#40
  /-- Channels armed in the present tick, which match from the next one (R37). -/
  armedNow : BitVec 40 := 0#40
  /-- For each absolute channel whose value lay at or below the count c when it was loaded or armed, the count c + 1 at which it
  fires late (R42). -/
  lateAt : List (Option Nat) := List.replicate 8 none
  /-- Channels that the wrap tick in progress has armed, which a disarm in the same tick still cancels (R41). -/
  wrapped : List WrapArmed := []
  /-- The rate-trim accumulator (R43); while extrapolating, the fraction of the count (R49). -/
  acc : BitVec 32 := 0#32
  /-- Bedrock extrapolates (R49). -/
  extrap : Bool := false
  /-- The increment per RTC cycle in units of 2^-32 tick, set at entry (R49). -/
  inc : Nat := 0
  /-- Wraps since extrapolation began (R49). -/
  wraps : Nat := 0
  /-- Events raised and not yet acted on, slot ticks among them, oldest first (R44). -/
  fabric : List FabricEntry := []
  /-- The capture inputs. -/
  caps : List CaptureState := List.replicate 8 {}
  deriving DecidableEq, Repr

/-! ## The interrupt controller (chapter 09) -/

/-- A source that is active for a core (R244). -/
structure ActiveSrc where
  /-- Source number. -/
  src : Nat
  /-- 0 LK, 1 A0, 2 A1. -/
  core : Nat
  /-- Its group at acceptance (R246). -/
  group : Nat
  deriving DecidableEq, Repr

/-- The interrupt controller beyond its registers. -/
structure IntState where
  /-- Active sources. -/
  active : List ActiveSrc := []
  /-- Pending members of coalescing units that a delivery has released (R249). -/
  released : List Nat := []
  /-- Units whose time has passed in deep sleep: they are delivered at the re-alignment (R251). -/
  timeDue : List Nat := []
  /-- Pending sources of the Ashlar core (R254). -/
  ashPend : BitVec 16 := 0#16
  /-- Active sources of the Ashlar core. -/
  ashAct : BitVec 16 := 0#16
  deriving DecidableEq, Repr

/-! ## Flash and journal (chapter 12) -/

/-- A row program that is running (R306). -/
structure NvmProg where
  /-- The row address. -/
  addr : Nat
  /-- The 64 words. -/
  words : List Word
  /-- Issuer, coded as NVM_STAT.cid. -/
  cid : Nat
  deriving DecidableEq, Repr

/-- A sector erase that is running or suspended (R307, R310). -/
structure NvmErase where
  /-- The sector. -/
  sector : Nat
  /-- Issuer, coded as NVM_STAT.cid. -/
  cid : Nat
  /-- The ticket slot taken (R315). -/
  ticket : Nat
  /-- Erase pulses applied whole. -/
  pulses : Nat := 0
  /-- A blank verify runs, or runs next at a resume (R311). -/
  verify : Bool := false
  /-- A suspend by this issuer has landed and the pulse is stopping (R310). -/
  stopping : Option Nat := none
  /-- Suspended. -/
  susp : Bool := false
  deriving DecidableEq, Repr

/-- A journal operation that has not ended (R319). -/
structure JournalOp where
  /-- The master. -/
  master : Master
  /-- Operation: 1 write, 2 increment, 3 calibration write. -/
  op : Nat
  /-- First journal word. -/
  off : Nat
  /-- The words to write; none for an increment. -/
  words : List Word
  deriving DecidableEq, Repr

/-- The NVM controller beyond its registers. -/
structure NvmState where
  /-- A running program (R306). -/
  prog : Option NvmProg := none
  /-- A running or suspended erase (R307, R310). -/
  er : Option NvmErase := none
  /-- Journal operations in arrival order (R318, R319). -/
  jops : List JournalOp := []
  /-- Spare words of the flash rows by row address, less those erased (R301). -/
  spare : WordMap := []
  /-- The rows in the read buffers, the most recently checked first, at most two of a bank (R303). -/
  buf : List Nat := []
  deriving DecidableEq, Repr

/-! ## Core Sample (chapter 18) -/

/-- A request in the queue of the log (R444): its event, the time it was accepted at (R440), and the CONT entries that
belong to it (R443). -/
structure LogRequest where
  /-- Event code. -/
  code : Nat
  /-- Origin (R439). -/
  origin : Nat
  /-- d1. -/
  d1 : Word
  /-- d2. -/
  d2 : Word
  /-- d1 and d2 of the CONT entries that follow. -/
  cont : List (Word × Word)
  /-- The ASN at acceptance. -/
  asn : Nat
  /-- Calendar seconds at acceptance. -/
  time : Nat
  /-- tq at acceptance. -/
  tq : Bool
  deriving DecidableEq, Repr

/-- The Core Sample block beyond its registers. -/
structure CsState where
  /-- Queued requests, oldest first (R444). -/
  queue : List LogRequest := []
  /-- Index of the newest entry (R442). -/
  index : Nat := 0
  /-- lap of the newest entry. -/
  lap : Nat := 0
  /-- Dropped hardware requests since the last LOST entry (R444). -/
  lostSince : Nat := 0
  /-- SLOT_CTL.en has been set since the last power or system reset (R440). -/
  asnValid : Bool := false
  deriving DecidableEq, Repr

/-! ## Real-time clock (chapter 16) -/

/-- A calendar time (R391). -/
structure Calendar where
  /-- Subsecond, 0–32,767. -/
  sub : Nat := 0
  /-- Second. -/
  sec : Nat := 0
  /-- Minute. -/
  min : Nat := 0
  /-- Hour. -/
  hour : Nat := 0
  /-- Day of month. -/
  day : Nat := 1
  /-- Month. -/
  mon : Nat := 1
  /-- Year. -/
  year : Nat := 2000
  deriving DecidableEq, Repr

/-- The RTC domain beyond its registers. -/
structure RtcState where
  /-- The calendar (R391). -/
  cal : Calendar := {}
  /-- The trim accumulator (R403). -/
  acc : BitVec 24 := 0#24
  /-- Masters whose shadow is frozen, by number (R393). -/
  frozen : List Nat := []
  /-- A set that waits for the next RTC edge (R394). -/
  set : Option Calendar := none
  /-- The domain runs on VBK (R400). -/
  onVbk : Bool := false
  deriving DecidableEq, Repr

/-! ## Radio front end (chapter 03) -/

/-- The open direct command (R64). -/
structure DirectCmd where
  /-- Operation, 1 tune, 2 receive, 3 transmit, 4 cw, 5 calibrate. -/
  op : Nat
  /-- On SY1 and path 1. -/
  sy1 : Bool
  /-- Requested power in dBm. -/
  pwr : Int
  /-- Global channel. -/
  chan : Nat
  /-- Frame length in octets, for a transmit. -/
  flen : Nat
  /-- Held for lock or for DWS (R65). -/
  held : Bool
  /-- The PA ramp has begun, or the receive or cw runs. -/
  started : Bool
  deriving DecidableEq, Repr

/-- The frame that a transmission sends (R82 to R87, R92). -/
structure AirFrame where
  /-- 0 MR-FSK, 1 MR-OFDM, 2 Seam. -/
  mode : Nat
  /-- In short form. -/
  short : Bool
  /-- The bits of its Seam header (R85, R92); 0 in the other modes. -/
  hdr : Nat
  /-- The octets of its PSDU, FCS last. -/
  psdu : List Nat
  /-- The words of its loading table; none under the bare table. -/
  tab : List Word
  /-- Rate 3/4. -/
  rate : Bool
  /-- The scrambler seed. -/
  seed : Nat
  deriving DecidableEq, Repr

/-- A transmission on the air (R58). -/
structure AirTx where
  /-- By direct command. -/
  direct : Bool
  /-- An acknowledgement. -/
  ack : Bool
  /-- The PA ramp has ended and symbols are sent. -/
  sending : Bool
  /-- Air time from ramp-up to ramp-down, in ticks (R72). -/
  air : Nat
  /-- A receive is pending at the end of the frame (R58). -/
  thenRx : Bool
  /-- The count at the start of the ramp. -/
  start : Nat
  /-- The transmit sync point in eighths of a tick, at the antenna (R107, R122, R124). -/
  sync : Nat := 0
  /-- Ticks of the transmission that earlier sub-windows have counted (R72). -/
  counted : Nat := 0
  /-- The frame; none for a direct command, whose frame the spec does not give. -/
  frame : Option AirFrame := none
  deriving DecidableEq, Repr

/-- The profile operation in progress (R70). -/
inductive ProfileOp where
  /-- Programming a word: index and data. -/
  | program (idx : Nat) (w : Word)
  /-- Locking. -/
  | lock
  deriving DecidableEq, Repr

/-- One background calibration beyond RFE_BGSTAT (R63). -/
structure BgCal where
  /-- Temperature of the last completion; none before the first. -/
  temp : Option Int := none
  /-- Slot ticks since the last completion. -/
  age : Nat := 0
  /-- Slot ticks since it became due. -/
  excess : Nat := 0
  deriving DecidableEq, Repr

/-- The radio front end beyond its registers. -/
structure RfeState where
  /-- The bias start of path 0 is running (R58). -/
  bias0 : Bool := false
  /-- The bias start of path 1 is running. -/
  bias1 : Bool := false
  /-- The channel a tune of SY0 waits for, and whether a direct command asked. -/
  tune0 : Option (Nat × Bool) := none
  /-- The same for SY1. -/
  tune1 : Option (Nat × Bool) := none
  /-- The count at which the settling or calibration that runs on path 0 began (R58). -/
  since0 : Nat := 0
  /-- The same for path 1. -/
  since1 : Nat := 0
  /-- The count at which SY0 last locked (R58, R73). -/
  settled : Nat := 0
  /-- The entry of the PA power table in use since the last ramp: gain and bias (R66). -/
  pa : Word := 0#24
  /-- The channel SY0 is set to. -/
  chan0 : Nat := 0
  /-- The channel SY1 is set to. -/
  chan1 : Nat := 0
  /-- RFE_CHAIN in force (R56). -/
  chain : Word := 0#24
  /-- The configuration of the slot in progress (R55). -/
  mode : Nat := 0
  /-- The open direct command. -/
  direct : Option DirectCmd := none
  /-- The transmission on the air. -/
  tx : Option AirTx := none
  /-- The grant planned for the slot: start and end (R129). -/
  grant : Option (Nat × Nat) := none
  /-- The calibration step running in a grant: 0 SY0, 1 SY1, 2 DC, 3 IQ, 4 filter, 5 PA detector (R63). -/
  step : Option Nat := none
  /-- Background calibrations DC, IQ, filter, PA detector. -/
  bg : List BgCal := List.replicate 4 {}
  /-- Air time in ticks of the current sub-window and the 15 before it (R72). -/
  duty : List Nat := List.replicate 16 0
  /-- The OTP words of the regulatory profile (R70). -/
  otp : List Word := List.replicate 30 0#24
  /-- The profile is locked. -/
  otpLocked : Bool := false
  /-- The profile operation in progress. -/
  prof : Option ProfileOp := none
  deriving DecidableEq, Repr

/-! ## Physical layer (chapter 04) -/

/-- The stage of a reception (R106, R108, R111). -/
inductive RxStage where
  | search | preamble | synced | header
  deriving DecidableEq, Repr

/-- A reception (R74). -/
structure PhyRx where
  /-- 0 MR-FSK, 1 MR-OFDM, 2 Seam. -/
  mode : Nat
  /-- By direct command. -/
  direct : Bool
  /-- On chain B. -/
  chB : Bool
  /-- An acknowledgement is expected (R124). -/
  forAck : Bool
  /-- Global channel. -/
  chan : Nat
  /-- Hopping-list entry, whose class the survey and the averages use (R93). -/
  hop : Nat
  /-- How far it has come. -/
  stage : RxStage := .search
  /-- In MR-FSK diversity, chain B had the higher RSSI at preamble qualification (R109). -/
  decB : Bool := false
  /-- The SFD of coded frames was found, or FEC is on under a programmable sync word (R77, R78). -/
  coded : Bool := false
  /-- RSSI of chain A at the sync point (R108). -/
  rssiA : Nat := 511
  /-- RSSI of chain B at the sync point. -/
  rssiB : Nat := 511
  /-- Carrier frequency offset in Hz. -/
  cfo : Int := 0
  /-- The SNR vector, where it is valid (R96). -/
  snr : Option (List Nat) := none
  /-- Sync point in eighths of a tick, EXTDLY applied (R107). -/
  sync : Nat := 0
  /-- The short form was found (R92). -/
  short : Bool := false
  /-- Header bits of a Seam frame (R85), or 0. -/
  raw : Nat := 0
  /-- PSDU length. -/
  len : Nat := 0
  /-- A 2-octet FCS (R111). -/
  fcs2 : Bool := false
  /-- The table chosen by R103: 0 bare, 1 in force, 2 proposal. -/
  table : Nat := 0
  /-- Every group of that table is at QPSK or above (R92). -/
  allQpsk : Bool := false
  /-- The frame's duration after its sync point, in ticks. -/
  tail : Nat := 0
  /-- Metadata words 0–15 (R109). -/
  md : List Word := []
  /-- The Hopper has accepted the frame and holds cells for it (R144, R145). -/
  cells : List Nat := []
  /-- The Hopper takes the frame. -/
  taken : Bool := false
  deriving DecidableEq, Repr

/-- A proposal being written (R100). -/
structure Proposal where
  /-- Neighbour. -/
  nbr : Nat
  /-- Class. -/
  cls : Nat
  /-- Rate 3/4. -/
  rate : Bool
  /-- Tag. -/
  tag : Nat
  /-- Table words. -/
  tab : List Word
  deriving DecidableEq, Repr

/-- The physical layer beyond its registers. -/
structure PhyState where
  /-- PHY_FSKCFG in force (R76). -/
  fsk : Word := 0x020800#24
  /-- PHY_OFDMCFG in force. -/
  ofdm : Word := 0#24
  /-- PHY_CLASSMAP0–5 in force (R93). -/
  classmap : List Word := List.replicate 6 0#24
  /-- Receptions running, at most one a chain. -/
  rx : List PhyRx := []
  /-- The last tag allocated, by 4 × neighbour + class (R100); 0 where none was. -/
  tags : List (Nat × Nat) := []
  /-- The proposal being written. -/
  prop : Option Proposal := none
  /-- The count at which the survey sample of chain A in progress can have begun at the earliest (R94). -/
  svyA : Nat := 0
  /-- The same for chain B. -/
  svyB : Nat := 0
  deriving DecidableEq, Repr

/-! ## Slot engine (chapter 05) -/

/-- A standing arm of the next slot (R126). -/
structure SlotArmed where
  /-- act. -/
  act : Nat
  /-- cell, for act 0b01. -/
  cell : Nat
  /-- grant. -/
  grant : Bool
  /-- The words of that cell, as the arm found them. -/
  words : Word × Word
  deriving DecidableEq, Repr

/-- The walker's choice for the next slot (R118, R119), with the words it read (R117). -/
structure NextCell where
  /-- Slotframe. -/
  sf : Nat
  /-- Cell index. -/
  cell : Nat
  /-- Word 0. -/
  w0 : Word
  /-- Word 1. -/
  w1 : Word
  /-- Chosen as a receive. -/
  rx : Bool
  deriving DecidableEq, Repr

/-- The stage of a slot operation. -/
inductive OpStage where
  /-- Decided at the edge, the retune step still to come. -/
  | planned
  /-- The synthesiser has been asked for the channel. -/
  | tuning
  /-- Transmitting. -/
  | sending
  /-- Waiting for the acknowledgement (R124). -/
  | ackWait
  /-- Receiving, the window open (R123). -/
  | receiving
  /-- A good frame has been received and its acknowledgement is due (R124). -/
  | ackDue
  /-- The acknowledgement is on the air. -/
  | ackSending
  deriving DecidableEq, Repr

/-- The operation of the slot in progress (R126, R130). -/
structure SlotOp where
  /-- Cell index. -/
  cell : Nat
  /-- Word 1 of the cell (R116). -/
  w1 : Word
  /-- Run as a transmission. -/
  tx : Bool
  /-- Hop index (R114). -/
  hop : Nat
  /-- Global channel of chain A. -/
  chan : Nat
  /-- Global channel of chain B in dual-channel. -/
  chanB : Nat
  /-- Stage. -/
  stage : OpStage := .planned
  /-- The frame handed over by the Hopper: its octets (R163). -/
  psdu : Option (List Nat) := none
  /-- The last symbol has left the DAC. -/
  sent : Bool := false
  /-- Duration of the frame in ticks. -/
  dur : Nat := 0
  /-- Class used by R102. -/
  cls : Nat := 0
  /-- Table tag sent. -/
  tag : Nat := 0
  /-- Transmit sync point in eighths of a tick. -/
  tsync : Nat := 0
  /-- The neighbour that the received frame came from (R135). -/
  src : Option Nat := none
  /-- The chain whose reception the operation is: B in the standby role (R383). -/
  chB : Bool := false
  /-- A header has failed in the window (R106). -/
  hdrFail : Bool := false
  /-- The sync deadline has passed (R123). -/
  late : Bool := false
  /-- Every group of the table of the frame is at QPSK or above (R92, R125). -/
  allQpsk : Bool := false
  /-- Congestion bit of the acknowledgement to send, once the decision has fixed it (R161). -/
  cong : Option Bool := none
  /-- The acknowledgement is sent in short form (R92). -/
  short : Bool := false
  /-- The count in eighths of a tick at the end of the received frame at the antenna (R124). -/
  rxEnd : Nat := 0
  /-- The widening h of the receive window, in ticks (R139). -/
  h : Nat := 0
  /-- The count at the end of the node's own frame (R124). -/
  txEnd : Nat := 0
  /-- The MAC header of the acknowledgement to send. -/
  mhr : List Nat := []
  /-- corr of the received frame in ns, before its clamp (R136). -/
  corr : Int := 0
  /-- The decision has not accepted the received frame (R132). -/
  nack : Bool := false
  /-- The scrambler seed of the received frame, with which a short acknowledgement is scrambled (R92). -/
  seed : Nat := 0
  deriving DecidableEq, Repr

/-- CSMA-CA backoff of one queue (R119). -/
structure Backoff where
  /-- Backoff exponent. -/
  be : Nat := 0
  /-- Shared cells still to be passed over. -/
  wait : Nat := 0
  deriving DecidableEq, Repr

/-- The slot engine beyond its registers. -/
structure SlotState where
  /-- The ASN (R112). -/
  asn : BitVec 40 := 0#40
  /-- The hopping list in use (R114). -/
  hopUse : List Word := List.replicate 22 0#24
  /-- Its length L_h. -/
  hopLen : Nat := 1
  /-- SLOT_SFn_LEN in force (R115). -/
  sfLen : List Word := List.replicate 8 0#24
  /-- SLOT_SFn_CELLS in force. -/
  sfCells : List Word := List.replicate 8 0#24
  /-- SLOT_EBTMPL in force (R134). -/
  ebtmpl : Word := 0#24
  /-- The standing arm of the next slot. -/
  armed : Option SlotArmed := none
  /-- The arm deadline of the next slot has passed (R127). -/
  closed : Bool := false
  /-- The next slot runs its default action (R128). -/
  dflt : Bool := false
  /-- An overrun has been logged since the last slot armed in time (R128). -/
  ovrRun : Bool := false
  /-- The walker's choice for the next slot; none for an idle slot. -/
  next : Option NextCell := none
  /-- A new ASN that waits for the next wrap tick (R113). -/
  asnReq : Option Nat := none
  /-- The operation of the slot in progress. -/
  op : Option SlotOp := none
  /-- Time source 1 is in use (R135). -/
  ts1 : Bool := false
  /-- The phase-correction accumulator in eighths of a ns (R138). -/
  phAcc : Int := 0
  /-- Ticks awake since the last measurement (R139). -/
  ea : Nat := 0
  /-- Ticks of extrapolation since the last measurement. -/
  es : Nat := 0
  /-- The node has slept since the measurement. -/
  slept : Bool := false
  /-- CSMA-CA backoff by queue. -/
  csma : List Backoff := List.replicate 32 {}
  /-- A standby unit has received a good frame addressed to the pair in the slot in progress, whose acknowledgement may follow (R383). -/
  heard : Bool := false
  deriving DecidableEq, Repr

/-! ## Hopper (chapter 06) -/

/-- One frame in a queue or in a decision (R149, R150). -/
structure HopFrame where
  /-- Its cells, first cell first. -/
  cells : List Nat
  /-- Stored octets. -/
  olen : Nat
  deriving DecidableEq, Repr

/-- One queue beyond its registers (R156 to R163). -/
structure HopQueue where
  /-- Its frames, the head first. -/
  frames : List HopFrame := []
  /-- The head frame is locked (R163). -/
  locked : Bool := false
  /-- The gate is open (R158). -/
  gate : Bool := false
  /-- A flush frees the locked head when its result arrives (R168). -/
  flush : Bool := false
  /-- Epoch of the last logged entry drop, plus 1; 0 for none (R165). -/
  logged : Nat := 0
  deriving DecidableEq, Repr

/-- A frame that waits for its forwarding decision (R159). -/
inductive HopJob where
  /-- Received: the frame, whether its FCS failed, whether it is secured and passed, the neighbour it came from, and
  whether the acknowledgement of the slot operation waits for the decision (R161). -/
  | rx (f : HopFrame) (bad secured secOk : Bool) (src : Option Nat) (reply : Bool)
  /-- Enqueued by a master with fwd = 1. -/
  | enq (m : Master) (f : HopFrame)
  deriving DecidableEq, Repr

/-- The Hopper beyond its registers. -/
structure HopState where
  /-- Free cells, in free-list order (R147). -/
  free : List Nat := []
  /-- The pool has been set up since the last power or system reset (R172). -/
  ready : Bool := false
  /-- Cells freed since the last snapshot of the twin engine, which join the free list at the next (R381). -/
  quar : List Nat := []
  /-- The queues. -/
  q : List HopQueue := List.replicate 32 {}
  /-- Frames waiting for a decision, oldest first. -/
  jobs : List HopJob := []
  deriving DecidableEq, Repr

/-! ## Ashlar (chapter 13) -/

/-- A link-key slot of the CCM* stage (R338, R339). -/
structure LinkKey where
  /-- The key, 16 or 32 octets. -/
  key : List Nat
  /-- Key index. -/
  idx : Nat
  /-- Minimum security level. -/
  level : Nat
  deriving DecidableEq, Repr

/-- A command that the Ashlar runs (R328, R329). -/
structure AshRun where
  /-- Command code. -/
  code : Nat
  /-- Request length in words. -/
  len : Nat
  /-- The issuer. -/
  master : Master
  /-- Issued by A0 executing in the boot ROM (R332). -/
  rom : Bool
  /-- The outcome, once it is fixed: the final status and the response. -/
  out : Option (Nat × List Word) := none
  deriving DecidableEq, Repr

/-- An operation of the RSA engine that is running (R351). -/
structure RsaRun where
  /-- The operation. -/
  op : Nat
  /-- Where r goes in Ashlar RAM. -/
  dest : Nat
  /-- The words of r; none for an operation that fails. -/
  res : Option (List Word)
  deriving DecidableEq, Repr

/-- The crypto engine (R349); its contents at reset are 0 by assumption 2. -/
structure CryptoEngine where
  /-- key. -/
  key : List Word := List.replicate 11 0#24
  /-- cfg.klen: AES-256. -/
  klen : Bool := false
  /-- blk. -/
  blk : List Word := List.replicate 6 0#24
  /-- hst. -/
  hst : List Word := List.replicate 22 0#24
  /-- hblk. -/
  hblk : List Word := List.replicate 43 0#24
  /-- An AES operation: issue cycles left and the block it will write. -/
  aes : Option (Nat × List Word) := none
  /-- A SHA-512 compression: issue cycles left and the state it will write. -/
  sha : Option (Nat × List Word) := none
  /-- The RSA engine's operation. -/
  rsa : Option RsaRun := none
  /-- rsae. -/
  rsae : Bool := false
  /-- The engine's private register holds the identity private key. -/
  priv : Bool := false
  /-- kek: key holds the KEK. -/
  kek : Bool := false
  /-- rnge. -/
  rnge : Bool := false
  /-- hf. -/
  hf : Bool := false
  /-- avail. -/
  avail : Nat := 0
  deriving DecidableEq, Repr

/-- The Ashlar. -/
structure AshState where
  /-- Link-key slots 0–31; none where empty. -/
  keys : List (Option LinkKey) := List.replicate 32 none
  /-- The key store's copies of persistent link keys, by slot (R324, R338). -/
  stored : List (Option LinkKey) := List.replicate 32 none
  /-- The owner key in the key store: modulus and exponent (R324, R341). -/
  owner : Option (Nat × Nat) := none
  /-- Debug is unlocked (R343). -/
  unlocked : Bool := false
  /-- The holder of the mailbox (R327). -/
  holder : Option Master := none
  /-- The command that runs. -/
  run : Option AshRun := none
  /-- The hash stream of the claim, in octets (R333). -/
  stream : Option (List Nat) := none
  /-- The debug challenge, in octets (R344). -/
  challenge : Option (List Nat) := none
  /-- The recorded configuration digest (R335). -/
  digCfg : Option (List Nat) := none
  /-- The recorded body digest of bank A. -/
  digA : Option (List Nat) := none
  /-- The recorded body digest of bank B. -/
  digB : Option (List Nat) := none
  /-- Policy vnd (R347). -/
  vnd : Bool := true
  /-- Policy bnd. -/
  bnd : Bool := false
  /-- Policy nodbg. -/
  nodbg : Bool := false
  /-- The sequence number of the image applied (R336). -/
  applied : Word := 0#24
  /-- The die temperature is out of range (R345). -/
  tempOut : Bool := false
  /-- Milliseconds between the last glitches, newest first (R346). -/
  gaps : List Nat := []
  /-- Ashlar RAM by word offset (R323); 0 at reset by assumption 2. -/
  ram : WordMap := []
  /-- The crypto engine. -/
  eng : CryptoEngine := {}
  deriving DecidableEq, Repr

/-! ## Twin (chapter 15) -/

/-- A block that has been sent and not been acknowledged (R371, R372). -/
structure TwBlock where
  /-- seq. -/
  seq : Nat
  /-- Type. -/
  typ : Nat
  /-- Payload. -/
  words : List Word
  /-- Re-sends so far. -/
  resends : Nat := 0
  deriving DecidableEq, Repr

/-- How far a planned handover has come on the unit that began it (R389). -/
inductive HandStage where
  | none
  /-- Requested; it begins at the next slot tick. -/
  | asked
  /-- Waiting for the STATE of the slot to commit. -/
  | state
  /-- The proposal is out. -/
  | proposed
  /-- Accepted; the confirmation is to be sent. -/
  | accepted
  /-- The confirmation has been sent. -/
  | confirmed
  deriving DecidableEq, Repr

/-- The twin engine beyond its registers. -/
structure TwinState where
  /-- Air evidence since the first counted miss (R385). -/
  air : Bool := false
  /-- Air evidence since the assertion of TW_FLT (R385). -/
  airFlt : Bool := false
  /-- paired of the partner, as its last heartbeat tells (R378). -/
  partner : Bool := false
  /-- A good active heartbeat has arrived in the slot in progress (R378). -/
  hbSeen : Bool := false
  /-- The heartbeat of the slot in progress has been sent (R378). -/
  hbSent : Bool := false
  /-- seq of the next block. -/
  txSeq : Nat := 0
  /-- The last blocks accepted, by seq, newest first (R371). -/
  taken : List Nat := []
  /-- Blocks sent and not acknowledged, oldest first (R372). -/
  sent : List TwBlock := []
  /-- The block, by seq, that waits 50 µs after a ring-full NAK (R372). -/
  ringWait : Option Nat := none
  /-- The last answer given to a block: its seq, and none for an ACK or the reason of a NAK (R371). -/
  reply : Option (Nat × Option Nat) := none
  /-- A HANDOVER block to send (R390). -/
  hand : Option (Word × Word) := none
  /-- Pages of the snapshot still to send, by word address / 64 (R381). -/
  pages : List Nat := []
  /-- The STATE payload of the snapshot, still to send (R382). -/
  state : Option (List Word) := none
  /-- The DATA block to send: address and length (R374). -/
  data : Option (Nat × Nat) := none
  /-- The last STATE has committed (R378). -/
  committed : Bool := false
  /-- At least one STATE has been committed to this standby unit (R385). -/
  everState : Bool := false
  /-- The last snapshot was not completed (R381, R386). -/
  lagLast : Bool := false
  /-- A snapshot is arriving: its pages or blocks have begun (R381). -/
  arriving : Bool := false
  /-- STATE blocks received of a snapshot: the next block number, its ASN bits 15:0, its items so far (R382). -/
  snap : Option (Nat × Nat × List Word) := none
  /-- The phase error captured at the last heartbeat (R379). -/
  err : Option Int := none
  /-- An assertion of TW_FLT counts for the next edge (R384). -/
  fltNext : Bool := false
  /-- An assertion of TW_FLT counts for the edge after the next (R384). -/
  fltAfter : Bool := false
  /-- The claim: a standby unit drives TW_FLT low from its decision to the edge (R384, R385). -/
  claim : Bool := false
  /-- The heartbeat case has decided for a takeover at the next edge (R385). -/
  decided : Bool := false
  /-- Both heartbeats show the active role: this unit steps down at the next edge (R388). -/
  clash : Bool := false
  /-- What takes effect 8 ticks after the edge: true a takeover, false a step-down (R386). -/
  change : Option Bool := none
  /-- The step-down that is due comes of R388. -/
  changeBoth : Bool := false
  /-- The planned handover of this unit. -/
  ho : HandStage := .none
  /-- The edge a handover names: ASN bits 23:0 of the slot that begins there (R390). -/
  hoEdge : Option Word := none
  /-- A standby unit has received the confirmation (R389). -/
  hoConf : Bool := false
  deriving DecidableEq, Repr

/-! ## Luminaire and host interfaces (chapter 17) -/

/-- One dimming PWM output (R414 to R416). -/
structure PwmState where
  /-- per in effect. -/
  per : Nat := 0xFFFF
  /-- duty in effect. -/
  duty : Nat := 0
  /-- The Bedrock count at which the period in progress began. -/
  start : Nat := 0
  /-- The level of mode 1. -/
  level : Bool := false
  deriving DecidableEq, Repr

/-- The GPIO block beyond its registers. -/
structure GpioState where
  /-- Levels that the board puts on the pads, pad n as bit n. -/
  ext : Word := 0#24
  /-- The pads' output enables and levels when a safe state was forced (R267): what a pad that keeps its state drives. -/
  kept : Word × Word := (0#24, 0#24)
  /-- PWM0 and PWM1. -/
  pwm : List PwmState := [{}, {}]
  deriving DecidableEq, Repr

/-- The ADC beyond its registers. -/
structure AdcState where
  /-- The entry of the sequence that is converted next; none where no sequence runs (R418). -/
  seq : Option Nat := none
  /-- Self-calibration runs (R419). -/
  cal : Bool := false
  deriving DecidableEq, Repr

/-- The stage of a DALI transmission (R408 to R410). -/
inductive DaliStage where
  /-- Waiting for its settling time. -/
  | settle
  /-- Sending. -/
  | sending
  /-- Driving the bus low after a collision. -/
  | collided
  /-- The answer window is open. -/
  | answer
  deriving DecidableEq, Repr

/-- The open DALI transmission (R411). -/
structure DaliTx where
  /-- The frame. -/
  frame : Word
  /-- 24 bits. -/
  len24 : Bool
  /-- Priority. -/
  pri : Nat
  /-- Sent twice. -/
  twice : Bool
  /-- An answer window follows. -/
  ans : Bool
  /-- The start bit of the first frame has been driven. -/
  started : Bool := false
  /-- The second of two frames. -/
  second : Bool := false
  /-- Collisions so far. -/
  colls : Nat := 0
  /-- The settling time drawn, in ticks. -/
  settle : Nat
  /-- The count at which the start bit of the frame on the bus began (R406). -/
  begun : Nat := 0
  /-- Stage. -/
  stage : DaliStage := .settle
  deriving DecidableEq, Repr

/-- A received DALI frame (R412). -/
structure DaliRx where
  /-- Bits decoded. -/
  len : Nat
  /-- Timing error, or a length other than 16 or 24. -/
  err : Bool
  /-- Data, right-aligned. -/
  data : Word
  deriving DecidableEq, Repr

/-- The DALI interface beyond its registers. -/
structure DaliState where
  /-- The open transmission. -/
  tx : Option DaliTx := none
  /-- The receive FIFO, oldest first. -/
  fifo : List DaliRx := []
  deriving DecidableEq, Repr

/-- The frame of the part that is open on the host link (R423, R424). -/
structure HlFrame where
  /-- Type. -/
  typ : Nat
  /-- seq. -/
  seq : Nat
  /-- Payload. -/
  words : List Word
  /-- Re-sends so far. -/
  resends : Nat := 0
  /-- The host's ring was full: the next time it is sent counts as no re-send (R423). -/
  full : Bool := false
  deriving DecidableEq, Repr

/-- The host link beyond its registers. -/
structure HlState where
  /-- seq of the part's next frame. -/
  seq : Nat := 0
  /-- The part's open frame. -/
  tx : Option HlFrame := none
  /-- A frame from the host has begun and not ended (R272). -/
  inFrame : Bool := false
  /-- seq of the last frame stored (R423). -/
  last : Option Nat := none
  /-- The last answer given to a frame: its seq, and none for an ACK or the payload word of a NAK (R423). -/
  reply : Option (Nat × Option Nat) := none
  /-- The payload of the last RSP frame handed to the host (R298, R424). -/
  rsp : List Word := []
  /-- The lamp schedule that the service of the host commands keeps; none where none has been set (R425 and the command set). -/
  sched : Option (List Word) := none
  /-- Replies of the service of the host commands that wait for the open frame to end. -/
  wait : List (List Word) := []
  /-- The tag of the DALI_FRAME command whose transmission has not ended. -/
  dali : Option Nat := none
  deriving DecidableEq, Repr

/-- The update service of the factory firmware beyond the copy journal (chapter 14). -/
structure UpdState where
  /-- Blocks staged of the open transfer, which the journal holds at multiples of 32 (R358, R359); none where the service has it from
  the journal. -/
  blocks : Option Nat := none
  /-- The last answer: the source, the status of R367 and the count of blocks. -/
  answer : Option (Nat × Nat × Nat) := none
  deriving DecidableEq, Repr

/-- The SPI master beyond its registers. -/
structure SpimState where
  /-- The open transfer: octets and hold (R427). -/
  open_ : Option (Nat × Bool) := none
  deriving DecidableEq, Repr

/-- The I2C master beyond its registers. -/
structure I2cState where
  /-- The open transfer: address, octets to write and to read (R428). -/
  open_ : Option (Nat × Nat × Nat) := none
  deriving DecidableEq, Repr

/-- The debug port beyond its registers (R432 to R438). -/
structure DbgState where
  /-- A probe is attached. -/
  att : Bool := false
  /-- A bus read that has completed and waits to be fetched (R435). -/
  read : Option Word := none
  /-- A bus access that has not completed: none for a read, the word of a write (R435). -/
  busy : Option (Option Word) := none
  /-- The last response: 1 OK, 2 WAIT, 0 ERROR; none where the port did not answer (R433). -/
  resp : Option Nat := none
  /-- The data of the last read (R433). -/
  data : Word := 0#24
  /-- Halts requested and not yet reached, core n as bit n (R436). -/
  haltReq : BitVec 3 := 0#3
  /-- Cores that step, and halt again at their next boundary, core n as bit n (R436). -/
  step : BitVec 3 := 0#3
  deriving DecidableEq, Repr

/-! ## The part -/

/-- The state of the part. -/
structure State where
  /-- Commands waiting, first in, first out (the model's own queue). -/
  pending : List Instr := []
  /-- The counter that free values are drawn with (the model's own, assumption 3). -/
  fresh : Nat := 0
  /-- The memory-mapped registers by bus address, less those at their reset value (R5). -/
  regs : WordMap := []
  /-- Per-master latches: shadows and staged words, at 2^24 × master + address (R32, R40, R42 and others). -/
  latches : WordMap := []
  /-- Memory by word address: flash banks, SRAM, journal, link RAM (R17). -/
  mem : WordMap := []
  /-- How often each region has lost its contents: SRAM banks 0–7, link RAM (R26, R275). -/
  losses : List Nat := List.replicate 9 0
  /-- Flash sectors that an erase has begun and not completed, with the number under which their words are unconstrained (R307). -/
  scraps : List (Nat × Nat) := []
  /-- Dirty pages of mirrored regions, by word address / 64 (R380). -/
  dirty : List Nat := []
  /-- LK. -/
  lk : CoreState := { pc := 0xD00000#24, ivb := 0xD03F00#24 }
  /-- A0, in the boot ROM (R205). -/
  a0 : CoreState := { pc := 0xE00000#24, ivb := 0xE07F00#24, run := .run }
  /-- A1. -/
  a1 : CoreState := { pc := 0xE00000#24, ivb := 0xE07F00#24 }
  /-- The Ashlar core; its start address is not given (assumption 2). -/
  ashc : CoreState := { run := .run }
  /-- System control. -/
  sys : SysState := {}
  /-- Bedrock. -/
  tb : TbState := {}
  /-- Interrupt controller. -/
  intc : IntState := {}
  /-- The NVM controller. -/
  nvm : NvmState := {}
  /-- Core Sample. -/
  cs : CsState := {}
  /-- The RTC domain. -/
  rtc : RtcState := {}
  /-- The radio front end. -/
  rfe : RfeState := {}
  /-- The physical layer. -/
  phy : PhyState := {}
  /-- The slot engine. -/
  slot : SlotState := {}
  /-- The Hopper. -/
  hop : HopState := {}
  /-- The Ashlar. -/
  ash : AshState := {}
  /-- The twin engine. -/
  tw : TwinState := {}
  /-- GPIO and PWM. -/
  gpio : GpioState := {}
  /-- The ADC. -/
  adc : AdcState := {}
  /-- DALI. -/
  dali : DaliState := {}
  /-- The host link. -/
  hl : HlState := {}
  /-- The SPI master. -/
  spim : SpimState := {}
  /-- The I2C master. -/
  i2c : I2cState := {}
  /-- The debug port. -/
  dbg : DbgState := {}
  /-- The configuration memory, an external NOR flash (R279), by octet address; an octet that is not listed is erased and reads 0xFF. -/
  nor : WordMap := []
  /-- The update service. -/
  upd : UpdState := {}
  deriving DecidableEq, Repr

/-- The part right after a power reset has been released: every field at its reset value, memory with nothing
listed, no command waiting. -/
def State.reset : State := {}

end Sys2Proof.Machine
end

