-- ==== Sys2Proof/Machine/Ops.lean ====
section
/-! DEFINITION. The named operations over registers, memory, latches, free values, interrupt sources and log requests
that every meaning is made of. -/
namespace Sys2Proof.Machine

/-! ## Registers -/

/-- What the register at a bus address holds. -/
def State.reg (s : State) (a : Nat) : Word := WordMap.get resetWord s.regs a

/-- The register at a bus address takes a value, whatever its access code. -/
def State.setReg (s : State) (a : Nat) (v : Word) : State := { s with regs := WordMap.set resetWord s.regs a v }

/-- A field of a register. -/
def State.fld (s : State) (a lo len : Nat) : Nat := fieldOf (s.reg a) lo len

/-- A field of a register takes a value. -/
def State.setFld (s : State) (a lo len v : Nat) : State := s.setReg a (withField (s.reg a) lo len v)

/-- A bit of a register. -/
def State.bit (s : State) (a i : Nat) : Bool := (s.reg a).getLsbD i

/-- A bit of a register takes a value. -/
def State.setBit (s : State) (a i : Nat) (b : Bool) : State := s.setReg a (withBit (s.reg a) i b)

/-- The configuration is locked: registers of access code LK ignore writes (R6; SYS_BOOTSTAT.lock). -/
def State.locked (s : State) : Bool := s.bit Reg.SYS_BOOTSTAT 11

/-- What a register holds after a write, by the access codes of R6: RW and LK bits are stored, a 1 clears a W1C bit and
sets a W1S bit, every other bit is kept. -/
def storeWord (r : RegRow) (old v : Word) : Word :=
  let rw := BitVec.ofNat 24 r.rw
  let c := BitVec.ofNat 24 r.w1c
  let st := BitVec.ofNat 24 r.w1s
  (((old &&& ~~~ rw) ||| (v &&& rw)) &&& ~~~ (v &&& c)) ||| (v &&& st)

/-- The access codes of a register while the configuration is locked or not: the bits of code LK, which a row with `lk`
gives in its `rw`, then ignore writes, and its W1C and W1S bits go on (R6). -/
def RegRow.under (r : RegRow) (locked : Bool) : RegRow := if r.lk && locked then { r with rw := 0 } else r

/-- A register write by the access codes alone; a write to an unassigned offset is ignored, and the LK bits of a register are
while the configuration is locked (R5, R6). -/
def State.storeReg (s : State) (a : Nat) (v : Word) : State :=
  match regRow a with
  | none => s
  | some r => s.setReg a (storeWord (r.under s.locked) (s.reg a) v)

/-- A saturating 24-bit counter register counts. -/
def State.countReg (s : State) (a : Nat) : State :=
  if s.reg a = 0xFFFFFF#24 then s else s.setReg a (s.reg a + 1#24)

/-- A saturating 24-bit counter register counts a number of times. -/
def State.addReg (s : State) (a n : Nat) : State := s.setReg a (BitVec.ofNat 24 (min 0xFFFFFF ((s.reg a).toNat + n)))

/-- Registers of every block that `p` names return to their reset value. -/
def State.resetRegs (s : State) (p : Nat → Bool) : State := { s with regs := WordMap.drop p s.regs }

/-- Whether an address lies in a list of n words from a base. -/
def within (a base n : Nat) : Bool := decide (base ≤ a) && decide (a < base + n)

/-! ## Per-master latches -/

/-- The key of a master's latch. -/
def latchKey (m : Master) (a : Nat) : Nat := m.index * 0x1000000 + a

/-- A master's latch (a shadow, or a staged word), 0 where nothing was latched. -/
def State.latch (s : State) (m : Master) (a : Nat) : Word := WordMap.get (fun _ => 0#24) s.latches (latchKey m a)

/-- A master's latch takes a word. -/
def State.setLatch (s : State) (m : Master) (a : Nat) (v : Word) : State :=
  { s with latches := WordMap.set (fun _ => 0#24) s.latches (latchKey m a) v }

/-! ## Free values -/

/-- A free number, and the state that has drawn it (assumption 3). -/
def State.drawFree (s : State) : Nat × State := (Config.freeValue s.fresh, { s with fresh := s.fresh + 1 })

/-! ## Memory -/

/-- SRAM (R17). -/
def isSram (a : Nat) : Bool := decide (0x200000 ≤ a) && decide (a < 0x280000)

/-- Flash, both banks (R17). -/
def isFlash (a : Nat) : Bool := decide (a < 0x200000)

/-- The journal (R17). -/
def isJournal (a : Nat) : Bool := decide (0x280000 ≤ a) && decide (a < 0x290000)

/-- Link RAM (R17). -/
def isLinkRam (a : Nat) : Bool := decide (0xD00000 ≤ a) && decide (a < 0xD08000)

/-- Boot ROM (R17). -/
def isRom (a : Nat) : Bool := decide (0xE00000 ≤ a) && decide (a < 0xE08000)

/-- Peripheral space (R17). -/
def isPeriph (a : Nat) : Bool := decide (0xF00000 ≤ a) && decide (a < 0xF14000)

/-- The region whose losses govern an address: SRAM bank 0–7, or 8 for link RAM. -/
def lossRegion (a : Nat) : Nat := if isSram a then (a - 0x200000) / 0x10000 else 8

/-- The journal as manufacture leaves it (R318, R321, R439 to R441): the layout version, the calibration set, the GENESIS entry
and the Ashlar area as the unit was made, every other log entry empty, and 0 elsewhere. -/
def journalMade (off : Nat) : Word :=
  if off = 0 then 0x000001#24
  else if 0x100 ≤ off ∧ off < 0x200 then Config.madeWord off
  else if off = 0x400 then 0x000001#24
  else if 0x8000 ≤ off ∧ off < 0x8008 then (genesisWords ++ chainWords genesisPrev genesisWords).getD (off - 0x8000) 0#24
  else if 0x8008 ≤ off ∧ off % 8 = 0 then 0xFFFFFF#24
  else 0#24

/-- The number under which the words of a flash sector are unconstrained, if an erase of it has begun and not completed. -/
def scrapOf : List (Nat × Nat) → Nat → Option Nat
  | [], _ => none
  | (k, n) :: m, x => if k = x then some n else scrapOf m x

/-- What a memory word that nothing has written reads as: flash is erased, or unconstrained where an erase was cut, the journal is as made, SRAM and link RAM
hold 0 until they first lose their contents and an unconstrained word afterwards (assumption 4). -/
def memUnlisted (losses : List Nat) (scraps : List (Nat × Nat)) (a : Nat) : Word :=
  if isFlash a then
    match scrapOf scraps (a / 2048) with
    | none => 0xFFFFFF#24
    | some n => Config.lostWord n a
  else if isJournal a then journalMade (a - 0x280000)
  else if isSram a || isLinkRam a then
    match losses.getD (lossRegion a) 0 with
    | 0 => 0#24
    | n + 1 => Config.lostWord (n + 1) a
  else 0#24

/-- The memory word at an address. -/
def State.mem1 (s : State) (a : Nat) : Word := WordMap.get (memUnlisted s.losses s.scraps) s.mem a

/-- A memory word takes a value. -/
def State.setMem (s : State) (a : Nat) (v : Word) : State := { s with mem := WordMap.set (memUnlisted s.losses s.scraps) s.mem a v }

/-- The n memory words from an address. -/
def State.memWords (s : State) (a : Nat) : Nat → List Word
  | 0 => []
  | n + 1 => s.mem1 a :: s.memWords (a + 1) n

/-- Memory words from an address take the words of a list. -/
def State.setMemWords (s : State) (a : Nat) : List Word → State
  | [] => s
  | w :: ws => (s.setMem a w).setMemWords (a + 1) ws

/-- A region has lost its contents (R26, R275): its words are unlisted and read as one more loss leaves them. -/
def State.loseRegion (s : State) (r : Nat) : State :=
  { s with
    mem := WordMap.drop (fun a => (isSram a || isLinkRam a) && lossRegion a == r) s.mem
    losses := mapAt (· + 1) s.losses r }

/-- The mirrored region that holds an SRAM address, if TW_MRnB and TW_MRnS set one (R380). -/
def State.mirrored (s : State) (a : Nat) : Bool :=
  (List.range 16).any fun n =>
    s.bit (Reg.TW_MRS n) 23 && decide ((s.reg (Reg.TW_MRB n)).toNat ≤ a)
      && decide (a < (s.reg (Reg.TW_MRB n)).toNat + 64 * s.fld (Reg.TW_MRS n) 0 12)

/-- A bus write to SRAM: the word is stored, and a page of a mirrored region becomes dirty (R380). -/
def State.storeRam (s : State) (a : Nat) (v : Word) : State :=
  let s' := s.setMem a v
  if s.mirrored a && ! s.dirty.contains (a / 64) then { s' with dirty := a / 64 :: s'.dirty } else s'

/-- Bus writes of a list of words from an SRAM address. -/
def State.storeRams (s : State) (a : Nat) : List Word → State
  | [] => s
  | w :: ws => (s.storeRam a w).storeRams (a + 1) ws

/-! ## Interrupt sources (R239, R240, R247) -/

/-- Whether a source is of type L (R239). -/
def isLevel (n : Nat) : Bool := n == 70 || n == 75

/-- The number of free pool cells (HOP_FREECNT). -/
def State.freeCells (s : State) : Nat := s.fld Reg.HOP_FREECNT 0 12

/-- The condition of a type-L source: congestion for 70, the pool below the low water for 75 (R239). -/
def State.levelCond (s : State) (n : Nat) : Bool :=
  if n == 70 then s.bit Reg.HOP_STAT 23
  else if n == 75 then decide (s.freeCells < 64 + s.fld Reg.HOP_CFG 0 11)
  else false

/-- Whether a source is pending: its bit for type E, its condition for type L (R240). -/
def State.isPending (s : State) (n : Nat) : Bool :=
  if isLevel n then s.levelCond n else s.bit (Reg.INT_PEND (n / 24)) (n % 24)

/-- An event of a member source counts in its coalescing unit, opening a window where none is open (R247, R248). -/
def State.countUnit (s : State) (n : Nat) : State :=
  let u := s.fld (Reg.INT_SRC n) 11 4
  if s.bit (Reg.INT_SRC n) 23 && s.bit (Reg.INT_SRC n) 15 && s.bit (Reg.INT_CU_CTL u) 23 then
    let st := Reg.INT_CU_STAT u
    if s.bit st 23 then s.setFld st 0 8 (min 255 (s.fld st 0 8 + 1))
    else ((s.setBit st 23 true).setFld st 8 8 0).setFld st 0 8 1
  else s

/-- A source that a delivery had released can be held again (R247). -/
def State.unrelease (s : State) (n : Nat) : State :=
  { s with intc := { s.intc with released := s.intc.released.filter (· != n) } }

/-- A source that can become pending in deep sleep (R239). -/
def deepSource (n : Nat) : Bool :=
  (decide (32 ≤ n) && decide (n ≤ 39)) || n == 82 || n == 83 || n == 89 || n == 93 || (decide (102 ≤ n) && decide (n ≤ 106))
    || (decide (116 ≤ n) && decide (n ≤ 123))

/-- The part is in deep sleep, its exit included (R273, R274). -/
def State.asleep (s : State) : Bool := s.sys.power == .deepSleep || s.sys.power == .exiting

/-- An event of a source reaches the controller (R240): a type-E source becomes pending, and a member of a coalescing
unit counts; a pending bit that sets anew is no longer released. Sources 124–127 are never pending, and in deep sleep only
the sources marked for it can become so (R239). -/
def State.raise (s : State) (n : Nat) : State :=
  if decide (124 ≤ n) || (s.asleep && ! deepSource n) then s
  else if isLevel n then (s.unrelease n).countUnit n
  else
    let s1 := if s.isPending n then s else s.unrelease n
    (s1.setBit (Reg.INT_PEND (n / 24)) (n % 24) true).countUnit n

/-- Several sources in turn. -/
def State.raiseAll (s : State) (ns : List Nat) : State := ns.foldl State.raise s

/-- A source of the Ashlar core becomes pending (R254). -/
def State.raiseAsh (s : State) (n : Nat) : State :=
  { s with intc := { s.intc with ashPend := s.intc.ashPend ||| BitVec.ofNat 16 (2 ^ n) } }

/-- A status bit of a register sets and its source becomes pending. -/
def State.flagRaise (s : State) (a i src : Nat) : State := (s.setBit a i true).raise src

/-! ## Core Sample requests (R440, R444) -/

/-- Days from 1 January 2000 to 1 January of a year (R391). -/
def daysToYear (y : Nat) : Nat :=
  let p := y - 2000
  365 * p + (p + 3) / 4 - (p + 99) / 100 + (p + 399) / 400

/-- Whether a year is a leap year (R391). -/
def isLeap (y : Nat) : Bool := y % 4 == 0 && (y % 100 != 0 || y % 400 == 0)

/-- The length of a month (R391). -/
def monthDays (y m : Nat) : Nat :=
  if m = 2 then (if isLeap y then 29 else 28)
  else if m = 4 ∨ m = 6 ∨ m = 9 ∨ m = 11 then 30 else 31

/-- Days of a year before a month. -/
def daysBeforeMonth (y : Nat) : Nat → Nat
  | 0 => 0
  | 1 => 0
  | m + 1 => daysBeforeMonth y m + monthDays y m

/-- Days from 1 January 2000 to the day of a calendar time. -/
def Calendar.days (c : Calendar) : Nat := daysToYear c.year + daysBeforeMonth c.year c.mon + (c.day - 1)

/-- Whole seconds since 1 January 2000 00:00:00 (R439). -/
def Calendar.seconds (c : Calendar) : Nat := c.days * 86400 + c.hour * 3600 + c.min * 60 + c.sec

/-- The ASN of the slot in progress, as an entry of the log records it (R440). -/
def State.logAsn (s : State) : Nat := if s.cs.asnValid then s.slot.asn.toNat else 0

/-- The number of requests in the queue of the log (CS_STAT.qcnt). -/
def State.syncLog (s : State) : State := s.setFld Reg.CS_STAT 16 5 s.cs.queue.length

/-- The request that an event makes at this moment (R440). -/
def State.logEntry (s : State) (code origin : Nat) (d1 d2 : Word) (cont : List (Word × Word)) : LogRequest :=
  { code := code, origin := origin, d1 := d1, d2 := d2, cont := cont, asn := s.logAsn, time := s.rtc.cal.seconds
    tq := s.bit Reg.RTC_STAT 23 || s.bit Reg.RTC_STAT 22 }

/-- A hardware block asks for an entry: it is queued, or dropped and counted when the queue is full (R444). -/
def State.logRequest (s : State) (code origin : Nat) (d1 d2 : Word) (cont : List (Word × Word) := []) : State :=
  if s.cs.queue.length < 16 then
    State.syncLog { s with cs := { s.cs with queue := s.cs.queue ++ [s.logEntry code origin d1 d2 cont] } }
  else
    ({ s with cs := { s.cs with lostSince := s.cs.lostSince + 1 } }.countReg Reg.CS_LOST).setBit Reg.CS_STAT 1 true

/-! ## CRC-24 (R282) -/

/-- One bit step of the CRC register. -/
def crcBit (c : Nat) : Nat :=
  let d := c * 2
  if d ≥ 0x1000000 then (d ^^^ 0x1864CFB) % 0x1000000 else d

/-- n bit steps. -/
def crcBits : Nat → Nat → Nat
  | 0, c => c
  | n + 1, c => crcBits n (crcBit c)

/-- One octet into the CRC. -/
def crcOctet (c o : Nat) : Nat := crcBits 8 (c ^^^ (o % 256 * 65536))

/-- Octets into the CRC. -/
def crcOctets (c : Nat) (os : List Nat) : Nat := os.foldl crcOctet c

/-- The CRC-24 of a list of words taken as octets by R2. -/
def crc24 (ws : List Word) : Nat := crcOctets 0xB704CE (octetsOf ws)

/-! ## Roles (R383, R386) -/

/-- The unit is in the standby role of a twin pair (R383). -/
def State.standby (s : State) : Bool := s.bit Reg.TW_CTL 22 && ! s.bit Reg.TW_CTL 21

/-- The role for which a slot is planned: the one that holds from 8 ticks after its edge (R386). -/
def State.standbyPlan (s : State) : Bool :=
  match s.tw.change with
  | some took => ! took
  | none => s.standby

/-! ## The cores -/

/-- One of the four cores. -/
def State.core (s : State) : CoreId → CoreState
  | .lk => s.lk
  | .a0 => s.a0
  | .a1 => s.a1
  | .ash => s.ashc

/-- One of the four cores takes a new state. -/
def State.setCore (s : State) (c : CoreId) (k : CoreState) : State :=
  match c with
  | .lk => { s with lk := k }
  | .a0 => { s with a0 := k }
  | .a1 => { s with a1 := k }
  | .ash => { s with ashc := k }

/-- The core that a master's data port belongs to. -/
def Master.core? : Master → Option CoreId
  | .lk => some .lk
  | .a0 => some .a0
  | .a1 => some .a1
  | .ash => some .ash
  | _ => none

/-! ## Waiting and gates (R263, R264, R271) -/

/-- A core counts as waiting for the power modes (R271, R436). -/
def coreWaits (k : CoreState) : Bool := k.run == .wfi || k.run == .held || k.run == .halted || k.noClock || k.dbgHalt

/-- LK, A0 and A1 all wait: the part sleeps (R271). -/
def State.allWait (s : State) : Bool := coreWaits s.lk && coreWaits s.a0 && coreWaits s.a1

/-- The bit of the gate registers for a block that has a gate, by any address of it; the dimming PWM registers have one of their
own (R263). -/
def gateOf (a : Nat) : Option Nat :=
  let b := (a - 0xF00000) / 0x1000
  if ! isPeriph a then none
  else if within a (Reg.GPIO_PWMCTL 0) 8 then some 12
  else if 5 ≤ b ∧ b ≤ 8 then some (b - 5)
  else if 10 ≤ b ∧ b ≤ 17 then some (b - 6)
  else none

/-- The gate of a block is open in the present power mode (R263). -/
def State.gateOpen (s : State) (a : Nat) : Bool :=
  match gateOf a with
  | none => true
  | some n => s.bit (if s.allWait then Reg.SYS_GATESLP else Reg.SYS_GATERUN) n

/-- The clock of a block runs, so that what the block does of itself happens: its gate is open, and the part is not in deep sleep
(R263, R273). -/
def State.blockRuns (s : State) (a : Nat) : Bool := ! s.asleep && s.gateOpen a

/-- The wake logic of a block sees an event: its clock runs, or in deep sleep its SYS_GATEDS bit is set (R263). -/
def State.wakeLogic (s : State) (a n : Nat) : Bool := if s.asleep then s.bit Reg.SYS_GATEDS n else s.gateOpen a

/-! ## Time passes -/

/-- Bedrock counts ticks: its PLL runs and it does not extrapolate (R31, R49). -/
def State.bedrockRuns (s : State) : Bool := s.bit Reg.SYS_CLKSTAT 21 && ! s.tb.extrap

/-- The dimming PWM outputs after the count has gone d ticks on: where their clock does not run they stand, so that the beginnings of
their periods go with the count (R263, R414). -/
def State.pwmPassed (s : State) (d : Nat) : List PwmState :=
  if s.blockRuns (Reg.GPIO_PWMCTL 0) then s.gpio.pwm else s.gpio.pwm.map fun p => { p with start := p.start + d }

/-- The open DALI transmission after the count has gone d ticks on: where the interface's clock does not run its frame stands (R263). -/
def State.daliPassed (s : State) (d : Nat) : Option DaliTx :=
  if s.blockRuns Base.DALI then s.dali.tx else s.dali.tx.map fun t => { t with begun := t.begun + d }

/-- d ticks pass for LK while its clock runs (R177, R202): cyc counts those that what it has issued has not counted before. -/
def CoreState.passTicks (k : CoreState) (d : Nat) : CoreState :=
  if k.noClock || k.run == .held || k.run == .wfi then k
  else
    let t := k.tickCyc + BitVec.ofNat 24 d
    { k with tickCyc := t, cyc := if (k.cyc - k.tickCyc).toNat < d then t else k.cyc }

/-- d ticks pass in which the count and the phase advance by d: the trim accumulator adds up, and the widening counts
the ticks awake (R31, R33, R43, R139; assumption 8). -/
def State.advance (s : State) (d : Nat) : State :=
  if d = 0 then s
  else
    let rate := signed 24 (s.reg Reg.TB_RATE).toNat
    { s with
      tb := { s.tb with
        count := s.tb.count + BitVec.ofNat 72 d
        phase := s.tb.phase + (if s.bit Reg.TB_CTL 0 then d else 0)
        acc := if s.bit Reg.TB_CTL 2 then s.tb.acc + BitVec.ofInt 32 (d * rate) else s.tb.acc
        armedNow := 0#40, wrapped := [] }
      lk := s.lk.passTicks d
      gpio := { s.gpio with pwm := s.pwmPassed d }
      dali := { s.dali with tx := s.daliPassed d }
      slot := { s.slot with ea := s.slot.ea + d } }

/-- The slot phase moves on to a value that lies ahead of it in the slot; nothing where it lies behind, or where Bedrock counts no
ticks (R31, R36). -/
def State.advanceTo (s : State) (p : Nat) : State :=
  if s.bedrockRuns && s.bit Reg.TB_CTL 0 then s.advance (min p (s.tb.len - 1) - s.tb.phase) else s

/-- The count moves on to a value that lies ahead of it, within the slot in progress; nothing where it lies behind, or where Bedrock
counts no ticks (R31). -/
def State.advanceCount (s : State) (c : Nat) : State :=
  if s.bedrockRuns then
    s.advance (if s.bit Reg.TB_CTL 0 then min (c - s.tb.count.toNat) (s.tb.len - 1 - s.tb.phase) else c - s.tb.count.toNat)
  else s

/-! ## Hopping (R114) -/

/-- The hop index of a cell with channel offset choff in the slot with an ASN (R114). -/
def State.hopIndex (s : State) (asn choff : Nat) : Nat := (asn + choff) % max 1 s.slot.hopLen

/-- Entry e of the hopping list in use: a global channel (R114). -/
def State.hopEntry (s : State) (e : Nat) : Nat := octetOf (s.slot.hopUse.getD (e / 3) 0#24) (e % 3)

/-! ## Transfers (R11, R12, R15, R17, R18, R21, R264, R273) -/

/-- The registers of the radio's blocks (R19). -/
def isRadioReg (a : Nat) : Bool := decide (Base.RFE ≤ a) && decide (a < Base.HOP)

/-- The Hopper's registers (R19). -/
def isHopReg (a : Nat) : Bool := decide (Base.HOP ≤ a) && decide (a < Base.ASH)

/-- A master reads an address: flash and journal are open to LK, A0, A1, the Ashlar and the debug port, SRAM to every master but
the Ashlar, link RAM to LK alone, the boot ROM to A0, A1 and the debug port, peripheral space to LK, A0, A1 and the debug port, and
the Hopper's registers to the radio datapath. -/
def canRead (m : Master) (a : Nat) : Bool :=
  let whole := m == .a0 || m == .a1 || m == .dbg
  if isFlash a || isJournal a then whole || m == .lk || m == .ash
  else if isSram a then m != .ash
  else if isLinkRam a then m == .lk
  else if isRom a then whole
  else isPeriph a && (whole || m == .lk || (m == .radio && isHopReg a))

/-- A master writes an address: SRAM, link RAM by LK, peripheral space (R15, R17); a SLOT register by LK alone (R21). -/
def canWrite (m : Master) (a : Nat) : Bool :=
  canRead m a && (isSram a || isLinkRam a || isPeriph a) && (! (decide (Base.SLOT ≤ a) && decide (a < Base.HOP)) || m == .lk)

/-- The debug state of R343: 0 open, 1 locked, 2 unlocked. -/
def State.debugState (s : State) : Nat := if s.ash.unlocked then 2 else if s.ash.owner.isSome then 1 else 0

/-- The debug port is locked (R343). -/
def State.debugLocked (s : State) : Bool := s.debugState == 1

/-- A transfer that the debug lock turns away (R343). -/
def State.debugBars (s : State) (m : Master) : Bool := m == .dbg && s.debugLocked

/-- A priority that a master was raised to holds for one transfer (R12). -/
def State.served (s : State) (m : Master) : State := { s with sys := { s.sys with raised := s.sys.raised.filter (· != m) } }

/-- A transfer of a master at an address is carried out: the debug lock does not bar it, the master reaches the address, and the
block's gate is open (R11, R15, R264, R343). -/
def State.reaches (s : State) (m : Master) (a : Nat) (wr : Bool) : Bool :=
  ! s.debugBars m && (if wr then canWrite m a else canRead m a) && s.gateOpen a

/-- The outcome of a transfer that ends with a bus error, or without one, as the master sees it (R15; the model's own field). -/
def State.noteBus (s : State) (err : Bool) : State := { s with sys := { s.sys with busErr := err } }

/-- A transfer of a register command by a master: it takes the master's raised priority, ends with a bus error where the master
does not reach the register, and has its effect otherwise (R12, R15, R264). In deep sleep none begins (R273). -/
def State.transfer (s : State) (m : Master) (a : Nat) (wr : Bool) (f : State → State) : State :=
  if s.asleep then s
  else if s.reaches m a wr then f ((s.served m).noteBus false)
  else (s.served m).noteBus true

/-- The word read is returned to the master that asked (the model's own field sys.rdata). -/
def State.answer (r : Word × State) : State :=
  { r.2 with sys := { r.2.sys with rdata := r.1, busErr := false } }

/-- A register command of a block without a gate that names no master; in deep sleep none begins (R263, R273). -/
def State.onBus (s : State) (f : State → State) : State := if s.asleep then s else f s

/-- A register command that names no master: it ends with a bus error where the block's gate is closed, and has its effect
otherwise (R264). In deep sleep none begins (R273). -/
def State.onBlock (s : State) (a : Nat) (f : State → State) : State :=
  if s.asleep then s else if s.gateOpen a then f (s.noteBus false) else s.noteBus true

/-- What a block does of itself, where its clock runs (R263). -/
def State.inBlock (s : State) (a : Nat) (f : State → State) : State := if s.blockRuns a then f s else s

/-- The number of a master in the fixed order of R12 and R11, the highest first; one that was raised comes right behind the radio
datapath. -/
def State.rank (s : State) (m : Master) : Nat := if m = .radio then 0 else if s.sys.raised.contains m then 1 else m.index + 1

/-- The master that is granted next among those that wait: the smallest rank, and among raised ones the first in the order of R11
(R12). -/
def State.grantedNext (s : State) (waiting : List Master) : Option Master :=
  waiting.foldl (fun best m => match best with
    | none => some m
    | some b => if s.rank m < s.rank b ∨ (s.rank m = s.rank b ∧ m.index < b.index) then some m else some b) none

/-! ## What the engines' ports reach (R11, R15, R17, R18) -/

/-- A word that the radio datapath's port reads: it reaches SRAM and the Hopper's registers; a read elsewhere ends with a bus error
and its data is a value the spec does not give (assumption 98). -/
def State.radioWord (s : State) (a : Nat) : Word :=
  if isSram a then s.mem1 a else if isHopReg a then s.reg a else Config.unreachedWord s.fresh a

/-- n words that the radio datapath's port reads. -/
def State.radioWords (s : State) (a : Nat) : Nat → List Word
  | 0 => []
  | n + 1 => s.radioWord a :: s.radioWords (a + 1) n

/-- A word that a port which reaches SRAM alone reads. -/
def State.sramWord (s : State) (a : Nat) : Word := if isSram a then s.mem1 a else Config.unreachedWord s.fresh a

/-- n words that such a port reads. -/
def State.sramWords (s : State) (a : Nat) : Nat → List Word
  | 0 => []
  | n + 1 => s.sramWord a :: s.sramWords (a + 1) n

/-- A word that an engine writes: it reaches SRAM alone, and a write elsewhere ends with a bus error and stores nothing. -/
def State.sramStore (s : State) (a : Nat) (v : Word) : State := if isSram a then s.storeRam a v else s.noteBus true

/-- A list of words that an engine writes. -/
def State.sramStores (s : State) (a : Nat) : List Word → State
  | [] => s
  | w :: ws => (s.sramStore a w).sramStores (a + 1) ws

end Sys2Proof.Machine
end

