-- ==== Sys2Proof/Machine/Adit.lean ====
section
/-! DEFINITION. CP3 and the Adit port (R231 to R237). -/
namespace Sys2Proof.Machine

/-- The cores that have CP3. -/
def cp3Cores : List CoreId := [.lk, .a0, .a1]

/-- The Adit port is enabled. -/
def State.aditOn (s : State) : Bool := s.bit Reg.ADIT_CTL 23

/-- The place that the next CP3 operation takes among those of all cores (R236). -/
def State.nextOrd (s : State) : Nat := (cp3Cores.flatMap fun c => (s.core c).cp3).foldl (fun m o => max m (o.ord + 1)) 0

/-- The first tag of a core that is neither in use nor retired; 4 where there is none (R235, R237). -/
def freeTag (k : CoreState) : Nat :=
  ((List.range 4).find? fun t => ! (k.cp3.any fun o => o.tag == t) && ! k.retired.contains t).getD 4

/-- The first waiting operation of a core. -/
def firstWaiting (k : CoreState) : Option Cp3Op := k.cp3.find? fun o => o.st == .waiting

/-- The core whose waiting command was issued first (R236). -/
def State.aditNext (s : State) : Option CoreId :=
  cp3Cores.foldl (fun best c =>
    match firstWaiting (s.core c), best with
    | none, b => b
    | some _, none => some c
    | some o, some b => match firstWaiting (s.core b) with
      | some p => if o.ord < p.ord then some c else some b
      | none => some c) none

/-- The operations of a core with the place ord change. -/
def mapCp3 (k : CoreState) (p : Cp3Op → Bool) (f : Cp3Op → Cp3Op) : CoreState :=
  { k with cp3 := k.cp3.map fun o => if p o then f o else o }

/-- The five beats of a command, of 12 bits each: tag, core and op; ga in two halves; gb in two halves (R235). -/
def aditBeats (cid : Nat) (o : Cp3Op) : List (BitVec 12) :=
  [BitVec.ofNat 12 (o.tag % 4 * 1024 + cid % 4 * 256 + o.op % 64 * 4), BitVec.ofNat 12 (fieldOf o.ga 12 12), BitVec.ofNat 12 (fieldOf o.ga 0 12),
    BitVec.ofNat 12 (fieldOf o.gb 12 12), BitVec.ofNat 12 (fieldOf o.gb 0 12)]

/-- cid of a core that has CP3 (R177, R235). -/
def cidOf : CoreId → Nat
  | .lk => 0
  | .a0 => 1
  | .a1 => 2
  | .ash => 3

/-- The beats that ADIT_COMMAND_SEND drives with AVLD = 1: those of the command issued first, with its tag (R235, R236). -/
def State.aditDrives (s : State) : List (BitVec 12) :=
  match s.aditOn, s.aditNext with
  | true, some c =>
    let k := s.core c
    match firstWaiting k with
    | some o =>
      let t := if o.tag < 4 then o.tag else freeTag k
      if t < 4 then aditBeats (cidOf c) { o with tag := t } else []
    | none => []
  | _, _ => []

/-- ADIT_COMMAND_SEND (R235, R236): the command issued first goes out; one for which no tag was free takes one now, and waits while there
is none. -/
def execAditCommandSend (s : State) : Host.Outcome State Fault Refusal :=
  .next (s.inBlock Base.ADIT fun s =>
    match s.aditOn, s.aditNext with
    | true, some c =>
      let k := s.core c
      match firstWaiting k with
      | some o =>
        let t := if o.tag < 4 then o.tag else freeTag k
        if t < 4 then s.setCore c (mapCp3 k (·.ord == o.ord) fun o => { o with tag := t, st := .sent }) else s
      | none => s
    | _, _ => s)

/-- The core that cid names in a frame (R235). -/
def coreOfCid (n : Nat) : Option CoreId := cp3Cores[n]?

/-- A response as its three beats give it: tag, core, err and result (R235). -/
def aditResponseOf (b0 b1 b2 : BitVec 12) : Nat × Nat × Bool × Word :=
  (b0.toNat / 1024, b0.toNat / 256 % 4, b0.getLsbD 7, BitVec.ofNat 24 (b1.toNat * 4096 + b2.toNat))

/-- ADIT_RESPONSE (R235, R237): the result or the error of an outstanding operation is recorded; a response that matches none is discarded with
stray and source 101, and gives a retired tag back. -/
def execAditResponse (b0 b1 b2 : BitVec 12) (s : State) : Host.Outcome State Fault Refusal :=
  let (tag, cid, err, result) := aditResponseOf b0 b1 b2
  .next (s.inBlock Base.ADIT fun s =>
    if ! s.aditOn then s
    else
      match coreOfCid cid with
      | none => s.flagRaise Reg.ADIT_STAT 0 101
      | some c =>
        let k := s.core c
        let here := fun (o : Cp3Op) => o.tag == tag && o.st == .sent
        if k.cp3.any here then
          s.setCore c (mapCp3 k here fun o => { o with st := if err then .failed 1 else .result result })
        else
          State.flagRaise (s.setCore c { k with retired := k.retired.filter (· != tag) }) Reg.ADIT_STAT 0 101)

/-- ADIT_TIMEOUT (R237): an operation that has been sent ends with TMO, and its tag is retired, which raises source 101. -/
def execAditTimeout (c : CoreId) (tag : Fin 4) (s : State) : Host.Outcome State Fault Refusal :=
  let k := s.core c
  let here := fun (o : Cp3Op) => o.tag == tag.val && o.st == .sent
  if s.blockRuns Base.ADIT && s.aditOn && s.fld Reg.ADIT_CTL 0 12 != 0 && c != .ash && k.cp3.any here then
    .next (State.raise (s.setCore c { mapCp3 k here fun o => { o with st := .failed 2 } with retired := tag.val :: k.retired }) 101)
  else .next s

/-- An outstanding operation ends with OFF (R237). -/
def cp3Off (k : CoreState) : CoreState :=
  { mapCp3 k (fun o => o.st == .waiting || o.st == .sent) fun o => { o with st := .failed 3 } with retired := [] }

/-- A write of ADIT_CTL (R237): div stays while en is 1; a fall of en ends every outstanding operation. -/
def State.wrAditCtl (s : State) (v : Word) : State :=
  let v1 := if s.aditOn then withField v 16 4 (s.fld Reg.ADIT_CTL 16 4) else v
  let s1 := s.storeReg Reg.ADIT_CTL v1
  if s.aditOn && ! s1.aditOn then { s1 with lk := cp3Off s1.lk, a0 := cp3Off s1.a0, a1 := cp3Off s1.a1 } else s1

/-- ADIT_DISABLE (R237). -/
def execAditDisable (v : Word) (s : State) : Host.Outcome State Fault Refusal := .next (s.onBlock Reg.ADIT_CTL (·.wrAditCtl v))

/-- ADIT_STAT as a read finds it: ret shows a retired tag. -/
def State.rdAditStat (s : State) : Word :=
  withBit (s.reg Reg.ADIT_STAT) 22 (cp3Cores.any fun c => ! (s.core c).retired.isEmpty)

/-- ADIT_CSTATn as a read finds it. -/
def State.rdAditCstat (s : State) (n : Nat) : Word :=
  match coreOfCid n with
  | some c =>
    let k := s.core c
    BitVec.ofNat 24 (k.cp3.length * 2 ^ 21 + k.disc * 2 ^ 18 + k.cp3cause * 2 ^ 15)
  | none => 0#24

end Sys2Proof.Machine
end

