-- ==== Sys2Proof/Machine/Reply.lean ====
section
/-! DEFINITION. The part's own frame on the host link and the replies of the service of the host commands (R298, R424, and the
command set of chapter 17). -/
namespace Sys2Proof.Machine

/-- The part opens a frame with the next seq (R424). -/
def State.hlOpen (s : State) (typ : Nat) (ws : List Word) : State :=
  let s1 := s.setReg Reg.HL_TXSTAT 0x800000#24
  { s1 with hl := { s1.hl with tx := some { typ := typ, seq := s.hl.seq, words := ws }, seq := (s.hl.seq + 1) % 256 } }

/-- A reply that waits is sent. -/
def State.hlNext (s : State) : State :=
  match s.hl.wait with
  | [] => s
  | ws :: r => State.hlOpen { s with hl := { s.hl with wait := r } } 2 ws

/-- The payload of the reply to a command: word 0 repeated, the status in bits 7:0 of word 1, whose other bits are free, and the data, as
far as a frame holds them. -/
def State.replyWords (s : State) (code tag status : Nat) (data : List Word) : List Word × State :=
  let f := s.drawFree
  ([BitVec.ofNat 24 (code * 65536 + tag), withField (BitVec.ofNat 24 f.1) 0 8 status] ++ data.take 254, f.2)

/-- The reply goes out, or waits for the frame that is open. -/
def State.reply (s : State) (code tag status : Nat) (data : List Word) : State :=
  let r := s.replyWords code tag status data
  if r.2.hl.tx.isSome then { r.2 with hl := { r.2.hl with wait := r.2.hl.wait ++ [r.1] } } else r.2.hlOpen 2 r.1

end Sys2Proof.Machine
end

