-- ==== Sys2Proof/Machine/Dali.lean ====
section
/-! DEFINITION. The DALI interface (chapter 17, R405 to R413), and its commands. -/
namespace Sys2Proof.Machine

/-! ## Line coding (R406, R407) -/

/-- Ticks of a half-bit (R406). -/
def daliHalfTicks : Nat := 83333

/-- The two half-bits of a bit on the bus, true for high: a 1 goes from low to high, a 0 from high to low (R406). -/
def daliBit (b : Bool) : List Bool := [! b, b]

/-- The half-bits of a forward frame: a start bit of value 1, then its 16 or 24 data bits, the most significant first (R405, R406). -/
def daliCode (frame : Word) (len24 : Bool) : List Bool :=
  let n := if len24 then 24 else 16
  (true :: (List.range n).map fun i => frame.getLsbD (n - 1 - i)).flatMap daliBit

/-- The half-bits that intervals between edges hold, from a level on, and whether an edge came outside the limits: a half-bit lasts
333.3 to 500 µs, two of them 666.7 to 1,000 µs (R407). -/
def daliHalves (level : Bool) : List Nat → List Bool × Bool
  | [] => ([], false)
  | n :: ns =>
    let r := daliHalves (! level) ns
    if 66660 ≤ n ∧ n ≤ 100000 then (level :: r.1, r.2)
    else if 133340 ≤ n ∧ n ≤ 200000 then (level :: level :: r.1, r.2)
    else ([], true)

/-- The bits of half-bits, up to a pair without a transition at its middle; the bus is high after the last one (R406). -/
def daliBits : List Bool → List Bool × Bool
  | a :: b :: hs => if a = b then ([], true) else ((b :: (daliBits hs).1), (daliBits hs).2)
  | [a] => if a then ([], true) else ([true], false)
  | [] => ([], false)

/-- A received frame, from the ticks between its edges, the first of which is the falling one of its start bit (R406, R407, R412): the
bits decoded after the start bit, at most 31, and its data right-aligned. -/
def daliDecode (edges : List Nat) : DaliRx :=
  let h := daliHalves false edges
  let b := daliBits (if h.2 then h.1.take (h.1.length / 2 * 2) else h.1)
  let bits := b.1.drop 1
  { len := min 31 bits.length, err := h.2 || b.2 || b.1.isEmpty || decide (31 < bits.length)
    data := bits.foldl (fun w x => w * 2 + BitVec.ofNat 24 (b2n x)) 0#24 }

/-! ## Transmission -/

/-- The lowest settling time of a priority, and the width of its range, in ticks (R408). -/
def daliSettle (pri : Nat) : Nat × Nat :=
  ([(2700000, 240000), (2980000, 240000), (3260000, 280000), (3580000, 280000), (3900000, 320000)] : List (Nat × Nat)).getD (pri - 1)
    (2700000, 240000)

/-- A settling time is drawn from the range of a priority (R408). -/
def State.drawSettle (s : State) (pri : Nat) : Nat × State :=
  let r := s.drawFree
  ((daliSettle pri).1 + r.1 % ((daliSettle pri).2 + 1), r.2)

/-- The FIFO shows its oldest entry (R412). -/
def State.daliSync (s : State) : State :=
  let s1 := s.setFld Reg.DALI_STAT 0 3 s.dali.fifo.length
  match s.dali.fifo with
  | [] => (s1.setReg Reg.DALI_RXSTAT 0#24).setReg Reg.DALI_RXD 0#24
  | f :: _ =>
    (s1.setReg Reg.DALI_RXSTAT (BitVec.ofNat 24 (2 ^ 23 + f.len % 32 * 2 ^ 18 + b2n f.err * 2 ^ 17))).setReg Reg.DALI_RXD f.data

/-- The open transmission changed. -/
def State.mapDali (s : State) (f : DaliTx → DaliTx) : State := { s with dali := { s.dali with tx := s.dali.tx.map f } }

/-- DALI_TXSTAT takes a final status, with source 91 (R411). -/
def State.daliStatus (s : State) (status ans : Nat) : State :=
  ((s.setFld Reg.DALI_TXSTAT 0 8 status).setFld Reg.DALI_TXSTAT 8 8 ans).raise 91

/-- A DALI_FRAME command of the host whose transmission has ended is answered with DALI_TXSTAT (the command set of chapter 17). -/
def State.daliToHost (s : State) : State :=
  match s.hl.dali with
  | none => s
  | some tag => State.reply { s with hl := { s.hl with dali := none } } 0x22 tag 0 [s.reg Reg.DALI_TXSTAT]

/-- The open transmission ends (R411). -/
def State.daliEnd (s : State) (status ans : Nat) : State :=
  State.daliToHost (State.daliStatus { s.setBit Reg.DALI_TXSTAT 23 false with dali := { s.dali with tx := none } } status ans)

/-- An edge on the bus while a transmission waits for its settling time restarts the wait with a new draw (R408). -/
def State.daliActivity (s : State) : State :=
  match s.dali.tx with
  | some t =>
    if t.stage = .settle then
      let r := s.drawSettle (if t.second then 1 else t.pri)
      r.2.mapDali fun t => { t with settle := r.1 }
    else s
  | none => s

/-- The part drives the bus low (R406, R410, R413): by hold, unless a transmission has started, after a collision, or in a low half-bit of
the frame. While a safe state is forced it does not (R267). -/
def State.daliLow (s : State) : Bool :=
  if s.bit Reg.SYS_CLKSTAT 17 then false
  else
    match s.dali.tx with
    | none => s.bit Reg.DALI_CTL 20
    | some t =>
      match t.stage with
      | .collided => true
      | .sending => (daliCode t.frame t.len24).getD ((s.tb.count.toNat - t.begun) / daliHalfTicks) true == false
      | _ => s.bit Reg.DALI_CTL 20 && ! t.started

/-- The level of pad DALI_TX: with txpol = 0 a high level pulls the bus low (R449). -/
def State.daliPad (s : State) : Bool := s.daliLow != s.bit Reg.DALI_CTL 22

/-- A write of DALI_TXCTL (R411): the checks in order, then the settling time; an abort acts before the first start bit. -/
def State.wrDaliTxctl (s : State) (v : Word) (busLow : Bool) : State :=
  let pri := fieldOf v 17 3
  if v.getLsbD 22 then
    match s.dali.tx with
    | some t => if t.started then s else s.daliEnd 2 0
    | none => s
  else if ! v.getLsbD 23 then s
  else if pri = 0 ∨ 5 < pri then s.daliStatus 7 0
  else if s.dali.tx.isSome then s.daliStatus 3 0
  else if ! s.bit Reg.DALI_CTL 23 || s.bit Reg.DALI_CTL 20 then s.daliStatus 4 0
  else if busLow then s.daliStatus 0x44 0
  else
    let r := s.drawSettle pri
    let s1 := r.2.setBit Reg.DALI_TXSTAT 23 true
    { s1 with dali := { s1.dali with
        tx := some { frame := s.reg Reg.DALI_TXD, len24 := v.getLsbD 16, pri := pri, twice := v.getLsbD 21, ans := v.getLsbD 20, settle := r.1 } } }

/-- DALI_TRANSMIT (R411). -/
def execDaliTransmit (v : Word) (busLow : Bool) (s : State) : Host.Outcome State Fault Refusal :=
  .next (s.onBlock Reg.DALI_TXCTL (·.wrDaliTxctl v busLow))

/-- DALI_ABORT (R411). -/
def execDaliAbort (v : Word) (s : State) : Host.Outcome State Fault Refusal :=
  .next (s.onBlock Reg.DALI_TXCTL (·.wrDaliTxctl (withBit v 22 true) false))

/-- SETTLING_DONE (R408): the frame starts. -/
def execSettlingDone (s : State) : Host.Outcome State Fault Refusal :=
  .next (s.inBlock Base.DALI fun s =>
    match s.dali.tx with
    | some t =>
      if t.stage = .settle then
        (s.setBit Reg.DALI_STAT 23 false).mapDali fun t => { t with stage := .sending, started := true, begun := s.tb.count.toNat }
      else s
    | none => s)

/-- TWICE_TIMEOUT (R408): the second frame cannot start within 100 ms. -/
def execTwiceTimeout (s : State) : Host.Outcome State Fault Refusal :=
  .next (s.inBlock Base.DALI fun s =>
    match s.dali.tx with
    | some t => if t.second && t.stage == .settle then s.daliEnd 0x43 0 else s
    | none => s)

/-- COLLISION (R410): the frame stops and the bus is driven low. -/
def execCollision (s : State) : Host.Outcome State Fault Refusal :=
  .next (s.inBlock Base.DALI fun s =>
    match s.dali.tx with
    | some t => if t.stage = .sending then s.mapDali fun t => { t with stage := .collided, colls := t.colls + 1 } else s
    | none => s)

/-- COLLISION_BACKOFF_END (R410): the bus is released; the frame is sent again after a settling time, or the transmission ends
with COLL once retry re-sends have collided. -/
def execCollisionBackoffEnd (s : State) : Host.Outcome State Fault Refusal :=
  .next (s.inBlock Base.DALI fun s =>
    match s.dali.tx with
    | some t =>
      if t.stage = .collided then
        if s.fld Reg.DALI_CFG 0 2 < t.colls then s.daliEnd 0x42 0
        else
          let r := s.drawSettle (if t.second then 1 else t.pri)
          r.2.mapDali fun t => { t with stage := .settle, settle := r.1 }
      else s
    | none => s)

/-- DALI_FRAME_SENT (R408, R409): the second of two frames waits, an answer window opens, or the transmission is DONE. -/
def execDaliFrameSent (s : State) : Host.Outcome State Fault Refusal :=
  .next (s.inBlock Base.DALI fun s =>
    match s.dali.tx with
    | some t =>
      if t.stage = .sending then
        let s0 := s.setBit Reg.DALI_STAT 23 true
        if t.twice && ! t.second then
          let r := s0.drawSettle 1
          r.2.mapDali fun t => { t with stage := .settle, second := true, settle := r.1 }
        else if t.ans then s0.mapDali fun t => { t with stage := .answer }
        else s0.daliEnd 1 0
      else s
    | none => s)

/-- What the answer window brought ends the transmission (R409): nothing, a valid 8-bit backward frame, or any other frame. -/
def State.daliAnswer (s : State) (frame : Option DaliRx) : State :=
  match frame with
  | none => s.daliEnd 0x40 0
  | some f => if f.len = 8 ∧ f.err = false then s.daliEnd 1 (fieldOf f.data 0 8) else s.daliEnd 0x41 0

/-- The answer window is open. -/
def State.daliWaitsAnswer (s : State) : Bool := (s.dali.tx.map fun t => t.stage == .answer).getD false

/-- ANSWER_WINDOW_CLOSE (R409): no start edge came in the window (none), or the frame that came, by the ticks between its edges, has
ended. -/
def execAnswerWindowClose (frame : Option (List Nat)) (s : State) : Host.Outcome State Fault Refusal :=
  .next (s.inBlock Base.DALI fun s => if s.daliWaitsAnswer then s.daliAnswer (frame.map daliDecode) else s)

/-- A received frame is stored, or dropped with ovr while 4 entries are full (R412). A backward frame is never stored. -/
def State.daliStore (s : State) (f : DaliRx) : State :=
  if f.len = 8 ∧ f.err = false then s
  else if 4 ≤ s.dali.fifo.length then s.flagRaise Reg.DALI_STAT 21 92
  else
    let e := f.err || ! (f.len == 16 || f.len == 24)
    ({ s with dali := { s.dali with fifo := s.dali.fifo ++ [{ f with err := e }] } }.daliSync).raise 90

/-- DALI_FRAME_RECEIVED (R407, R408, R412): 1,200 µs without an edge end a frame, of which the ticks between its edges are given; in an
answer window it is the answer. It restarts the wait of a transmission for its settling time. -/
def execDaliFrameReceived (edges : List Nat) (s : State) : Host.Outcome State Fault Refusal :=
  .next (s.inBlock Base.DALI fun s =>
    if ! s.bit Reg.DALI_CTL 23 then s
    else
      let s1 := s.setBit Reg.DALI_STAT 23 true
      let f := daliDecode edges
      if s1.daliWaitsAnswer then s1.daliAnswer (some f) else (s1.daliStore f).daliActivity)

/-- A read of DALI_RXD (R412): the oldest entry's data, which is removed. -/
def State.rdDali (s : State) : Word × State :=
  (s.reg Reg.DALI_RXD, State.daliSync { s with dali := { s.dali with fifo := s.dali.fifo.drop 1 } })

/-- DALI_RX_READ (R412). -/
def execDaliRxRead (m : Master) (s : State) : Host.Outcome State Fault Refusal :=
  .next (s.transfer m Reg.DALI_RXD false fun s => State.answer s.rdDali)

/-- BUS_LOW_FAULT (R413): the bus has been low for 45 ms without being driven by the part. -/
def execBusLowFault (s : State) : Host.Outcome State Fault Refusal :=
  .next (s.inBlock Base.DALI fun s =>
    let drives := s.bit Reg.DALI_CTL 20 || (s.dali.tx.map fun t => t.stage == .collided).getD false
    if s.bit Reg.DALI_CTL 23 && ! drives then
      ((s.setBit Reg.DALI_STAT 23 false).flagRaise Reg.DALI_STAT 22 92).daliActivity
    else s)

/-- A write of DALI_CTL (R413): a hold refuses a transmission that waits for its settling time and has not started. -/
def State.wrDaliCtl (s : State) (v : Word) : State :=
  let s1 := s.storeReg Reg.DALI_CTL v
  if v.getLsbD 20 then
    let s2 := s1.setBit Reg.DALI_STAT 23 false
    match s2.dali.tx with
    | some t => if t.stage = .settle ∧ t.started = false then s2.daliEnd 4 0 else s2
    | none => s2
  else s1

/-- DALI_HOLD (R413). -/
def execDaliHold (v : Word) (s : State) : Host.Outcome State Fault Refusal := .next (s.onBlock Reg.DALI_CTL (·.wrDaliCtl v))

end Sys2Proof.Machine
end

