-- ==== Sys2Proof/Machine/Interrupts.lean ====
section
/-! DEFINITION. The interrupt controller (chapter 09): presentation, acceptance, end of interrupt, coalescing units and the
sources of the Ashlar core, and its commands. -/
namespace Sys2Proof.Machine

/-! ## Presentation (R241 to R243, R247, R252) -/

/-- The Gen-1 number of each source that has one (R239). -/
def gen1Table : List (Nat × Nat) :=
  [(48, 0), (49, 1), (50, 2), (32, 3), (33, 4), (34, 5), (35, 6), (0, 7), (1, 8), (2, 9), (3, 10), (66, 11), (64, 12),
    (58, 13), (60, 14), (78, 15)] ++
  [(79, 16), (76, 17), (90, 18), (91, 19), (92, 20), (93, 21), (94, 22), (95, 23), (96, 24), (97, 25), (99, 26),
    (102, 27), (106, 28), (116, 29), (117, 30), (112, 31)]

/-- Generation-1 numbering is in force. -/
def State.intGen1 (s : State) : Bool := s.bit Reg.INT_CTL 23

/-- The number under which a source is delivered; none where it is never presented (R252). -/
def State.delivered (s : State) (n : Nat) : Option Nat :=
  if s.intGen1 then (gen1Table.find? fun e => e.1 == n).map (·.2) else some n

/-- The source that a number written to INT_EOIc names (R252). -/
def State.sourceOfCode (s : State) (c : Nat) : Option Nat :=
  if s.intGen1 then (gen1Table.find? fun e => e.2 == c).map (·.1) else some c

/-- A source is active for some core. -/
def State.isActive (s : State) (n : Nat) : Bool := s.intc.active.any fun a => a.src == n

/-- A source is active for a core. -/
def State.activeFor (s : State) (n c : Nat) : Bool := s.intc.active.any fun a => a.src == n && a.core == c

/-- A coalescing unit holds a source's pending bit (R247). -/
def State.isHeld (s : State) (n : Nat) : Bool :=
  s.bit (Reg.INT_SRC n) 15 && s.bit (Reg.INT_CU_CTL (s.fld (Reg.INT_SRC n) 11 4)) 23 && ! s.intc.released.contains n

/-- A source is presentable to a core (R241). -/
def State.presentable (s : State) (c n : Nat) : Bool :=
  s.bit (Reg.INT_SRC n) 23 && s.fld (Reg.INT_SRC n) 21 2 == c && s.isPending n && ! s.isActive n && ! s.isHeld n
    && (s.delivered n).isSome

/-- The group of a source for a core (R242). -/
def State.groupOf (s : State) (c n : Nat) : Nat := s.fld (Reg.INT_SRC n) 16 5 >>> min 5 (s.fld Reg.INT_PRIGRP (3 * c) 3)

/-- The running level of a core (R242). -/
def State.level (s : State) (c : Nat) : Nat :=
  s.intc.active.foldl (fun l a => if a.core = c then min l a.group else l) 32

/-- Whether a source is chosen before another: the smaller pri, then the lower number (R243). -/
def State.before (s : State) (a b : Nat) : Bool :=
  let pa := s.fld (Reg.INT_SRC a) 16 5
  let pb := s.fld (Reg.INT_SRC b) 16 5
  decide (pa < pb) || (pa == pb && decide (a < b))

/-- The source presented to a core (R243). -/
def State.presented (s : State) (c : Nat) : Option Nat :=
  ((List.range 124).filter fun n => s.presentable c n && decide (s.groupOf c n < s.level c)).foldl
    (fun acc n => match acc with
      | none => some n
      | some b => if s.before n b then some n else some b) none

/-- A presentable source wakes its core (R253). -/
def State.wakes (s : State) (c : Nat) : Bool := (List.range 124).any fun n => s.presentable c n

/-- The pending bit of a type-E source clears (R240). -/
def State.clearPend (s : State) (n : Nat) : State :=
  if isLevel n then s else (s.setBit (Reg.INT_PEND (n / 24)) (n % 24) false).unrelease n

/-- A core accepts a source (R244): its pending bit clears and it is active with its group. -/
def State.acceptSource (s : State) (c n : Nat) : State :=
  let s1 := s.clearPend n
  { s1 with intc := { s1.intc with active := { src := n, core := c, group := s.groupOf c n } :: s1.intc.active } }

/-- Every source active for a core ends (R468). -/
def State.clearActive (s : State) (c : Nat) : State :=
  { s with intc := { s.intc with active := s.intc.active.filter fun a => a.core != c } }

/-- A write of INT_EOIc (R245). -/
def State.wrEoi (s : State) (c : Nat) (v : Word) : State :=
  match s.sourceOfCode (fieldOf v 0 7) with
  | some n =>
    if s.activeFor n c then
      { s with intc := { s.intc with active := s.intc.active.filter fun a => ! (a.src == n && a.core == c) } }
    else s.setBit Reg.INT_STAT 0 true
  | none => s.setBit Reg.INT_STAT 0 true

/-- END_OF_INTERRUPT (R245). -/
def execEndOfInterrupt (c : Fin 3) (v : Word) (s : State) : Host.Outcome State Fault Refusal := .next (s.onBus (·.wrEoi c.val v))

/-- A write of INT_SWSET (R239). -/
def State.wrSwset (s : State) (v : Word) : State := s.raiseAll (([0, 1, 2, 3].filter v.getLsbD).map (· + 112))

/-- SOFTWARE_INTERRUPT (R239). -/
def execSoftwareInterrupt (v : Word) (s : State) : Host.Outcome State Fault Refusal := .next (s.onBus (·.wrSwset v))

/-- A pending source stays presentable (R250). -/
def State.release (s : State) (n : Nat) : State :=
  if s.isPending n && ! s.intc.released.contains n then { s with intc := { s.intc with released := n :: s.intc.released } } else s

/-- A write of INT_SRCn (R246, R250): a source that leaves its unit releases its pending bit, one
that joins a unit is held from then on; source 106 becomes pending when it
is enabled while a condition of it holds (R400). -/
def State.wrIntSrc (s : State) (n : Nat) (v : Word) : State :=
  if 124 ≤ n then s
  else
    let s1 := s.storeReg (Reg.INT_SRC n) v
    let left := s.bit (Reg.INT_SRC n) 15 &&
      (! s1.bit (Reg.INT_SRC n) 15 || s1.fld (Reg.INT_SRC n) 11 4 != s.fld (Reg.INT_SRC n) 11 4)
    let joins := s1.bit (Reg.INT_SRC n) 15 && (left || ! s.bit (Reg.INT_SRC n) 15)
    let s2 := if left && s.isHeld n then s1.release n else if joins then s1.unrelease n else s1
    let late := n == 106 && s2.bit (Reg.INT_SRC n) 23 && ! s.bit (Reg.INT_SRC n) 23
    if late && [23, 22, 20, 19].any fun i => s.bit Reg.RTC_STAT i then s2.raise 106 else s2

/-- SOURCE_SETTINGS_WRITE (R246). -/
def execSourceSettingsWrite (n : Fin 128) (v : Word) (s : State) : Host.Outcome State Fault Refusal :=
  .next (s.onBus (·.wrIntSrc n.val v))

/-! ## Coalescing units (R247 to R251) -/

/-- A source is a member of unit u (R247). -/
def State.isMember (s : State) (u n : Nat) : Bool := s.bit (Reg.INT_SRC n) 15 && s.fld (Reg.INT_SRC n) 11 4 == u

/-- The held members of a unit are released (R249, R250). -/
def State.releaseUnit (s : State) (u : Nat) : State :=
  ((List.range 124).filter (s.isMember u)).foldl State.release s

/-- The window of a unit closes with the causes given (R249). -/
def State.closeWindow (s : State) (u : Nat) (causes : Nat) : State :=
  s.setReg (Reg.INT_CU_STAT u) (BitVec.ofNat 24 (causes % 8 * 2 ^ 20))

/-- The count of the open window has reached its limit (R248). -/
def State.countReached (s : State) (u : Nat) : Bool :=
  decide (max 1 (s.fld (Reg.INT_CU_LIM u) 16 8) ≤ s.fld (Reg.INT_CU_STAT u) 0 8)

/-- The slot ticks of the open window have reached its limit (R248). -/
def State.slotsReached (s : State) (u : Nat) : Bool :=
  s.bit (Reg.INT_CU_CTL u) 21 && decide (max 1 (s.fld (Reg.INT_CU_CTL u) 0 8) ≤ s.fld (Reg.INT_CU_STAT u) 8 8)

/-- A window is open in an enabled unit. -/
def State.windowOpen (s : State) (u : Nat) : Bool := s.bit (Reg.INT_CU_CTL u) 23 && s.bit (Reg.INT_CU_STAT u) 23

/-- The window of a unit is delivered with every condition that holds (R249). -/
def State.deliverUnit (s : State) (u : Nat) (time : Bool) : State :=
  (s.releaseUnit u).closeWindow u (b2n (s.countReached u) * 4 + b2n time * 2 + b2n (s.slotsReached u))

/-- A number of slot ticks counts in the open window of a unit (R248, R251). -/
def State.unitTick (w : Nat) (s : State) (u : Nat) : State :=
  if s.bit (Reg.INT_CU_STAT u) 23 then s.setFld (Reg.INT_CU_STAT u) 8 8 (min 255 (s.fld (Reg.INT_CU_STAT u) 8 8 + w)) else s

/-- A number of slot ticks counts in the units. -/
def State.unitTicks (s : State) (w : Nat) : State := (List.range 16).foldl (State.unitTick w) s

/-- A write of INT_CUn_CTL (R247, R250): clearing en releases every held member and closes the window, setting it holds every
member that is pending. -/
def State.wrCuCtl (s : State) (u : Nat) (v : Word) : State :=
  let s1 := s.storeReg (Reg.INT_CU_CTL u) v
  if s.bit (Reg.INT_CU_CTL u) 23 && ! s1.bit (Reg.INT_CU_CTL u) 23 then
    (s1.releaseUnit u).closeWindow u (s1.fld (Reg.INT_CU_STAT u) 20 3)
  else if s1.bit (Reg.INT_CU_CTL u) 23 && ! s.bit (Reg.INT_CU_CTL u) 23 then
    ((List.range 124).filter (s1.isMember u)).foldl State.unrelease s1
  else s1

/-- COALESCING_DISABLE (R250). -/
def execCoalescingDisable (u : Fin 16) (v : Word) (s : State) : Host.Outcome State Fault Refusal :=
  .next (s.onBus (·.wrCuCtl u.val v))

/-- COALESCING_COUNT_REACHED (R248); in deep sleep the delivery waits for the re-alignment (R251). -/
def execCoalescingCountReached (u : Fin 16) (s : State) : Host.Outcome State Fault Refusal :=
  if s.windowOpen u.val && s.countReached u.val && ! s.asleep then .next (s.deliverUnit u.val false) else .next s

/-- The time of an open window has passed: the window is delivered, in deep sleep at the re-alignment (R248, R251). -/
def State.timePassed (s : State) (u : Nat) : State :=
  if s.asleep then
    if s.intc.timeDue.contains u then s else { s with intc := { s.intc with timeDue := u :: s.intc.timeDue } }
  else s.deliverUnit u true

/-- COALESCING_TIME_EXPIRY (R248, R251): the time of an open window with ten = 1 has passed, in deep sleep on the extrapolated time. -/
def execCoalescingTimeExpiry (u : Fin 16) (s : State) : Host.Outcome State Fault Refusal :=
  if s.windowOpen u.val && s.bit (Reg.INT_CU_CTL u.val) 22 && (! s.asleep || s.tb.extrap) then .next (s.timePassed u.val)
  else .next s

/-- COALESCING_SLOT_EXPIRY (R248). -/
def execCoalescingSlotExpiry (u : Fin 16) (s : State) : Host.Outcome State Fault Refusal :=
  if s.windowOpen u.val && s.slotsReached u.val && ! s.asleep then .next (s.deliverUnit u.val false) else .next s

/-- At the re-alignment a window that reached a limit in deep sleep is delivered with every condition that was reached (R251). -/
def State.deliverDue (s : State) (u : Nat) : State :=
  let due := s.intc.timeDue.contains u
  let s1 := { s with intc := { s.intc with timeDue := s.intc.timeDue.filter (· != u) } }
  if s1.windowOpen u && (due || s1.countReached u || s1.slotsReached u) then s1.deliverUnit u due else s1

/-! ## The Ashlar's sources (R254) -/

/-- The group of an Ashlar source. -/
def ashGroup (n : Nat) : Nat := if 8 ≤ n ∧ n < 12 then 0 else 1

/-- The running level of the Ashlar core. -/
def State.ashLevel (s : State) : Nat :=
  (List.range 16).foldl (fun l n => if s.intc.ashAct.getLsbD n then min l (ashGroup n) else l) 2

/-- The source presented to the Ashlar core: of the more urgent group, the lowest number. -/
def State.ashPresented (s : State) : Option Nat :=
  ([8, 9, 10, 11, 0, 1, 2, 3, 4, 5, 6, 7, 12, 13, 14]).find? fun n =>
    s.intc.ashPend.getLsbD n && ! s.intc.ashAct.getLsbD n && decide (ashGroup n < s.ashLevel)

/-- The Ashlar core accepts a source. -/
def State.acceptAsh (s : State) (n : Nat) : State :=
  let b := BitVec.ofNat 16 (2 ^ n)
  { s with intc := { s.intc with ashPend := s.intc.ashPend &&& ~~~ b, ashAct := s.intc.ashAct ||| b } }

/-- The source of the Ashlar core whose handler ends is no longer active: the one of the running level (R254; assumption 104). -/
def State.endAsh (s : State) : State :=
  let l := s.ashLevel
  let act := (List.range 16).foldl (fun b n => if ashGroup n = l then b &&& ~~~ BitVec.ofNat 16 (2 ^ n) else b) s.intc.ashAct
  { s with intc := { s.intc with ashAct := act } }

/-- The source presented to a core. -/
def State.presentedTo (s : State) (c : CoreId) : Option Nat :=
  match c with
  | .lk => s.presented 0
  | .a0 => s.presented 1
  | .a1 => s.presented 2
  | .ash => s.ashPresented

/-- A source routed to a core is pending (R202), enabled or not. -/
def State.pendingTo (s : State) (c : CoreId) : Bool :=
  if c = .ash then decide (s.intc.ashPend ≠ 0#16)
  else (List.range 124).any fun n => s.fld (Reg.INT_SRC n) 21 2 == c.cid && s.isPending n

/-- A source wakes a core from wfi. -/
def State.wakesCore (s : State) (c : CoreId) : Bool :=
  match c with
  | .lk => s.wakes 0
  | .a0 => s.wakes 1
  | .a1 => s.wakes 2
  | .ash => decide (s.intc.ashPend &&& ~~~ s.intc.ashAct ≠ 0#16)

end Sys2Proof.Machine
end

