-- ==== Sys2Proof/Machine/Mac.lean ====
section
/-! DEFINITION. The parts of an IEEE 802.15.4 frame and of a 6LoWPAN mesh header (RFC 4944) that the Hopper reads and
rewrites (R144, R151, R152, R163, R169), and the FCS (R111). PRESUMED: the layouts are those of the standards the
spec names (assumption 16). -/
namespace Sys2Proof.Machine

/-! ## The FCS (R111) -/

/-- n bit steps of a reflected CRC with a polynomial. -/
def rcrcBits (poly : Nat) : Nat → Nat → Nat
  | 0, c => c
  | n + 1, c => rcrcBits poly n (if c % 2 = 1 then (c / 2) ^^^ poly else c / 2)

/-- The FCS of IEEE 802.15.4 over octets, the lowest octet first: CRC-32 of four octets, or CRC-16 of two. -/
def fcsOf (two : Bool) (os : List Nat) : List Nat :=
  if two then
    let c := os.foldl (fun c o => rcrcBits 0x8408 8 (c ^^^ o % 256)) 0
    (octetsOfNat 2 c).reverse
  else
    let c := os.foldl (fun c o => rcrcBits 0xEDB88320 8 (c ^^^ o % 256)) 0xFFFFFFFF
    (octetsOfNat 4 (c ^^^ 0xFFFFFFFF)).reverse

/-- The length of the FCS. -/
def fcsLen (two : Bool) : Nat := if two then 2 else 4

/-- A PSDU ends with its FCS. -/
def fcsGood (two : Bool) (psdu : List Nat) : Bool :=
  decide (fcsLen two < psdu.length) && psdu.drop (psdu.length - fcsLen two) == fcsOf two (psdu.take (psdu.length - fcsLen two))

/-! ## MAC headers -/

/-- A MAC header. -/
structure MacHdr where
  /-- Frame type: 0 beacon, 1 data, 2 acknowledgement, 3 MAC command. -/
  kind : Nat
  /-- An auxiliary security header is present. -/
  sec : Bool
  /-- An acknowledgement is requested. -/
  ar : Bool
  /-- Header IEs are present. -/
  ie : Bool
  /-- Sequence number, and where it stands. -/
  seq : Option Nat
  /-- Destination PAN ID. -/
  dstPan : Option Nat
  /-- Destination address, least significant octet first; none where the frame carries none. -/
  dst : Option (List Nat)
  /-- Where the destination address stands. -/
  dstAt : Nat
  /-- Source PAN ID. -/
  srcPan : Option Nat
  /-- Source address, least significant octet first. -/
  src : Option (List Nat)
  /-- Where the source address stands. -/
  srcAt : Nat
  /-- The end of the addressing fields. -/
  addrEnd : Nat
  deriving DecidableEq, Repr

/-- The number that octets spell, the first the least significant. -/
def natOfLow (os : List Nat) : Nat := natOfOctets os.reverse

/-- The length of an address by its addressing mode. -/
def addrLen (mode : Nat) : Nat := if mode = 2 then 2 else if mode = 3 then 8 else 0

/-- Whether the destination and the source PAN ID are present, by frame version, address modes and PAN ID compression. -/
def panPresent (ver dm sm : Nat) (pc : Bool) : Bool × Bool :=
  if ver < 2 then (dm != 0, sm != 0 && ! (pc && dm != 0))
  else if dm = 0 ∧ sm = 0 then (pc, false)
  else if sm = 0 then (! pc, false)
  else if dm = 0 then (false, ! pc)
  else if dm = 3 ∧ sm = 3 then (! pc, false)
  else (true, ! pc)

/-- The MAC header at the start of octets. -/
def macHdr (os : List Nat) : MacHdr :=
  let fcf := natOfLow (os.take 2)
  let bit := fun i => fcf.testBit i
  let ver := fcf / 4096 % 4
  let dm := fcf / 1024 % 4
  let sm := fcf / 16384 % 4
  let noSeq := ver == 2 && bit 8
  let p := panPresent ver dm sm (bit 6)
  let a0 := if noSeq then 2 else 3
  let a1 := a0 + (if p.1 then 2 else 0)
  let a2 := a1 + addrLen dm
  let a3 := a2 + (if p.2 then 2 else 0)
  let a4 := a3 + addrLen sm
  { kind := fcf % 8, sec := bit 3, ar := bit 5, ie := ver == 2 && bit 9
    seq := if noSeq then none else some (os.getD 2 0)
    dstPan := if p.1 then some (natOfLow ((os.drop a0).take 2)) else none
    dst := if addrLen dm = 0 then none else some ((os.drop a1).take (addrLen dm)), dstAt := a1
    srcPan := if p.2 then some (natOfLow ((os.drop a2).take 2)) else if p.1 then some (natOfLow ((os.drop a0).take 2)) else none
    src := if addrLen sm = 0 then none else some ((os.drop a3).take (addrLen sm)), srcAt := a3
    addrEnd := a4 }

/-- An auxiliary security header. -/
structure AuxHdr where
  /-- Security level. -/
  level : Nat
  /-- Frame counter. -/
  counter : Nat
  /-- Key index, none without one. -/
  keyIdx : Option Nat
  /-- Its length in octets. -/
  len : Nat
  deriving DecidableEq, Repr

/-- The auxiliary security header at the start of octets. -/
def auxHdr (os : List Nat) : AuxHdr :=
  let sc := os.getD 0 0
  let kim := sc / 8 % 4
  let c := if sc / 32 % 2 = 1 then 0 else 4
  let k := ([0, 1, 5, 9] : List Nat).getD kim 0
  { level := sc % 8, counter := natOfLow ((os.drop 1).take c)
    keyIdx := if k = 0 then none else some (os.getD (c + k) 0), len := 1 + c + k }

/-- The length of the header IEs at the start of octets, up to a termination IE; and whether payload IEs follow. -/
def headerIes : Nat → List Nat → Nat × Bool
  | 0, _ => (0, false)
  | n + 1, os =>
    if os.length < 2 then (0, false)
    else
      let d := natOfLow (os.take 2)
      let id := d / 128 % 256
      if id = 0x7E then (2, true)
      else if id = 0x7F then (2, false)
      else
        let r := headerIes n (os.drop (2 + d % 128))
        (2 + d % 128 + r.1, r.2)

/-- The length of the payload IEs at the start of octets. -/
def payloadIes : Nat → List Nat → Nat
  | 0, _ => 0
  | n + 1, os =>
    if os.length < 2 then 0
    else
      let d := natOfLow (os.take 2)
      if d / 2048 % 16 = 15 then 2 else 2 + d % 2048 + payloadIes n (os.drop (2 + d % 2048))

/-- Where the aux header ends in a frame without FCS. -/
def auxEnd (os : List Nat) : Nat :=
  let h := macHdr os
  if h.sec then h.addrEnd + (auxHdr (os.drop h.addrEnd)).len else h.addrEnd

/-- Where the authenticated part that is never encrypted ends. -/
def openEnd (os : List Nat) : Nat :=
  let e := auxEnd os
  if (macHdr os).ie then e + (headerIes 64 (os.drop e)).1 else e

/-- Where the MAC payload begins. -/
def payloadAt (os : List Nat) : Nat :=
  let e := auxEnd os
  if (macHdr os).ie then
    let r := headerIes 64 (os.drop e)
    e + r.1 + (if r.2 then payloadIes 64 (os.drop (e + r.1)) else 0)
  else e

/-- The nonce of CCM*: the source address, its most significant octet first, the frame counter and the level. A short
address stands with its PAN ID behind the CID of IEEE 802.15. -/
def ccmNonce (h : MacHdr) (counter level : Nat) : List Nat :=
  let a := match h.src with
    | some l => if l.length = 8 then l.reverse else [0xBA, 0x55, 0xEC, 0] ++ octetsOfNat 2 (h.srcPan.getD 0xFFFF) ++ l.reverse
    | none => List.replicate 8 0
  a ++ octetsOfNat 4 counter ++ [level]

/-- A frame secured with a key: the old auxiliary header, if any, replaced by one of key identifier mode 1. -/
def secureFrame (key : List Nat) (idx level counter : Nat) (os : List Nat) : List Nat :=
  let h := macHdr os
  let ies := (os.drop (auxEnd os)).take (openEnd os - auxEnd os)
  let hdr := setAt (os.getD 0 0 ||| 8) (os.take h.addrEnd) 0
  let aux := [level + 8] ++ (octetsOfNat 4 counter).reverse ++ [idx]
  let a := hdr ++ aux ++ ies
  a ++ ccmSeal key (ccmNonce h counter level) level a (os.drop (openEnd os))

/-- A frame without its auxiliary security header. -/
def bareFrame (os : List Nat) : List Nat :=
  let h := macHdr os
  if h.sec then setAt (os.getD 0 0 - 8) (os.take h.addrEnd) 0 ++ os.drop (auxEnd os) else os

/-! ## Mesh headers (R151, R152) -/

/-- A mesh addressing header, at an offset of the frame. -/
structure MeshHdr where
  /-- Where it begins. -/
  pos : Nat
  /-- Hops Left. -/
  hops : Nat
  /-- The final destination, least significant octet first. -/
  final : List Nat
  /-- Where it ends. -/
  stop : Nat
  deriving DecidableEq, Repr

/-- The mesh header of a forwarding frame (R151): a data frame with two short addresses whose payload begins with one. -/
def meshHdr (os : List Nat) : Option MeshHdr :=
  let h := macHdr os
  let p := payloadAt os
  let b := os.getD p 0
  if h.kind = 1 ∧ (h.dst.map List.length) = some 2 ∧ (h.src.map List.length) = some 2 ∧ b / 64 = 2 ∧ p < os.length then
    let ol := if b / 32 % 2 = 1 then 2 else 8
    let fl := if b / 16 % 2 = 1 then 2 else 8
    let o := if b % 16 = 15 then 2 else 1
    some { pos := p, hops := b % 16, final := ((os.drop (p + o + ol)).take fl).reverse, stop := p + o + ol + fl }
  else none

/-- The class of a frame: control for a beacon or a MAC command, by the Bivia extension where there is one, else
best-effort (R152). -/
def classOf (os : List Nat) : Nat :=
  let h := macHdr os
  let p := match meshHdr os with
    | some m => m.stop
    | none => payloadAt os
  if h.kind = 0 ∨ h.kind = 3 then 0
  else if os.getD p 0 = 0x40 ∧ os.getD (p + 1) 0 = 0xB9 ∧ p + 2 < os.length then min 2 (os.getD (p + 2) 0 / 64) else 2

/-- An address of a mesh header is a multicast or broadcast one. -/
def isMulticast (a : List Nat) : Bool :=
  if a.length = 2 then natOfLow a == 0xFFFF || natOfLow a / 8192 == 4 else (a.getD 7 0) % 2 == 1

/-- The route-table key of an address (R153). -/
def routeKey (a : List Nat) : List Nat :=
  (if a.length = 2 then 2 else 3) :: (a ++ List.replicate (8 - a.length) 0)

end Sys2Proof.Machine
end

