-- ==== Sys2Proof/Machine/Hopper.lean ====
section
/-! DEFINITION. The Hopper (chapter 06): pool and cells, tables, queues, the forwarding decision, congestion, the hand-over of
frames to and from the slot engine and the cores, and its commands. -/
namespace Sys2Proof.Machine

/-! ## Pool and cells (R145, R147 to R150) -/

/-- Cell k of the pool. -/
def State.cellAddr (s : State) (k : Nat) : Nat := (s.reg Reg.HOP_POOLBASE).toNat + 128 * k

/-- The link word of cell k. -/
def State.linkAddr (s : State) (k : Nat) : Nat := (s.reg Reg.HOP_LINKBASE).toNat + k

/-- The link word of a cell takes st, nxf and nxc (R148). -/
def State.setLink (s : State) (k st nxf nxc : Nat) : State :=
  s.storeRam (s.linkAddr k) (BitVec.ofNat 24 (st * 2 ^ 22 + nxf % 2048 * 2048 + nxc % 2048))

/-- A field of a cell's link word takes a value. -/
def State.setLinkFld (s : State) (k lo len v : Nat) : State :=
  s.storeRam (s.linkAddr k) (withField (s.mem1 (s.linkAddr k)) lo len v)

/-- st of a cell. -/
def State.linkSt (s : State) (k : Nat) : Nat := fieldOf (s.mem1 (s.linkAddr k)) 22 2

/-- Cells chained into one frame (R148). -/
def State.chainCells (s : State) (st : Nat) : List Nat → State
  | [] => s
  | [c] => s.setLink c st 0 0
  | c :: d :: cs => (s.setLink c st 0 d).chainCells st (d :: cs)

/-- The cells that a frame of olen octets takes (R149). -/
def cellCount (olen : Nat) : Nat := if olen ≤ 330 then 1 else 1 + ceilDiv (olen - 330) 384

/-- The cells chained from a first cell, by nxc. -/
def State.chainFrom (s : State) (c : Nat) : Nat → List Nat
  | 0 => []
  | n + 1 => c :: s.chainFrom (fieldOf (s.mem1 (s.linkAddr c)) 0 11) n

/-- The octets stored in a frame's cells (R149). -/
def State.frameOctets (s : State) (f : HopFrame) : List Nat :=
  match f.cells with
  | [] => []
  | c :: cs => (octetsOf (s.memWords (s.cellAddr c + 18) 110 ++ cs.flatMap fun k => s.memWords (s.cellAddr k) 128)).take f.olen

/-- Octets into the cells that follow the first. -/
def State.setCellOctets (s : State) : List Nat → List Nat → State
  | [], _ => s
  | c :: cs, os => (s.storeRams (s.cellAddr c) (packOctets (os.take 384))).setCellOctets cs (os.drop 384)

/-- Octets into a frame's cells. -/
def State.setFrameOctets (s : State) (f : HopFrame) (os : List Nat) : State :=
  match f.cells with
  | [] => s
  | c :: cs => (s.storeRams (s.cellAddr c + 18) (packOctets (os.take 330))).setCellOctets cs (os.drop 330)

/-- Word 16 or 17 of a frame's first cell. -/
def State.fcWord (s : State) (f : HopFrame) (n : Nat) : Word := s.mem1 (s.cellAddr (f.cells.headD 0) + n)

/-- Word 16 or 17 of a frame's first cell takes a value. -/
def State.setFcWord (s : State) (f : HopFrame) (n : Nat) (v : Word) : State :=
  s.storeRam (s.cellAddr (f.cells.headD 0) + n) v

/-! ## Congestion and levels (R161, R239) -/

/-- A queue of the Hopper. -/
def State.hq (s : State) (q : Nat) : HopQueue := s.hop.q.getD q {}

/-- A queue of the Hopper changed. -/
def State.mapHq (s : State) (q : Nat) (f : HopQueue → HopQueue) : State :=
  { s with hop := { s.hop with q := mapAt f s.hop.q q } }

/-- The cells that a queue holds. -/
def HopQueue.fill (q : HopQueue) : Nat := q.frames.foldl (fun n f => n + f.cells.length) 0

/-- The free count is below the low water (R161). -/
def State.poolLow (s : State) : Bool := decide (s.freeCells < 64 + s.fld Reg.HOP_CFG 0 11)

/-- A queue is at or above its high-water mark. -/
def State.qHigh (s : State) (q : Nat) : Bool := decide (s.fld (Reg.HOP_QHW q) 0 11 ≤ s.fld (Reg.HOP_QSTAT q) 0 11)

/-- HOP_STAT.cong takes the condition of R161, and the level sources that it and the pool raise have an event when
their condition begins. -/
def State.syncCong (s old : State) : State :=
  let s1 := s.setBit Reg.HOP_STAT 23 ((List.range 32).any s.qHigh || s.poolLow)
  let s2 := if s1.levelCond 70 && ! old.levelCond 70 then s1.raise 70 else s1
  if s2.levelCond 75 && ! old.levelCond 75 then s2.raise 75 else s2

/-- HOP_FREECNT shows the free list. -/
def State.syncFree (s : State) : State :=
  (s.setFld Reg.HOP_FREECNT 0 12 s.hop.free.length).syncCong s

/-- A queue takes a list of frames: the first cells are linked, fill shows the cells, and the gate closes on an empty
queue (R148, R158). -/
def State.setFrames (s : State) (q : Nat) (fs : List HopFrame) : State :=
  let s1 := (fs.zip (fs.drop 1)).foldl (fun s p => s.setLinkFld (p.1.cells.headD 0) 11 11 (p.2.cells.headD 0)) s
  let s2 := s1.mapHq q fun h => { h with frames := fs, gate := h.gate && ! fs.isEmpty }
  (s2.setFld (Reg.HOP_QSTAT q) 0 11 (s2.hq q).fill).syncCong s

/-- The first cells of the free list are taken for a frame (R145, R166); none where they are too few. -/
def State.takeCells (s : State) (n st : Nat) : Option (List Nat × State) :=
  if s.hop.free.length < n then none
  else
    let cs := s.hop.free.take n
    let s1 := { s with hop := { s.hop with free := s.hop.free.drop n } }
    some (cs, (s1.chainCells st cs).syncFree)

/-- The pages of the enabled mirrored regions (R380). -/
def State.mirrorPages (s : State) : Nat :=
  (List.range 16).foldl (fun n i => if s.bit (Reg.TW_MRS i) 23 then n + s.fld (Reg.TW_MRS i) 0 12 else n) 0

/-- Mirroring is on: the unit is active, mir is 1, both units are paired, and the regions do not exceed 4,096 pages (R373, R380, R381). -/
def State.mirroring (s : State) : Bool :=
  s.bit Reg.TW_CTL 20 && s.bit Reg.TW_CTL 21 && s.bit Reg.TW_CTL 22 && s.tw.partner && decide (s.mirrorPages ≤ 4096)

/-- One cell goes to the front of the free list (assumption 17); while mirroring is on, it waits for the next snapshot
(R381). -/
def State.freeCell (s : State) (c : Nat) : State :=
  let s1 := s.setLink c 0 0 (s.hop.free.headD 0)
  if s.mirroring then { s1 with hop := { s1.hop with quar := s1.hop.quar ++ [c] } }
  else { s1 with hop := { s1.hop with free := c :: s1.hop.free } }

/-- A frame's cells return to the free list. -/
def State.freeFrame (s : State) (f : HopFrame) : State := (f.cells.foldl State.freeCell s).syncFree

/-- A frame's cells return to a core (R160). -/
def State.returnCells (s : State) (f : HopFrame) : State := f.cells.foldl (fun s c => s.setLinkFld c 22 2 2) s

/-! ## Route and neighbour tables (R153 to R155) -/

/-- The home index of a key (R153). -/
def homeIndex (key : List Nat) : Nat := crcOctets 0xB704CE key % 1024

/-- Word w of route entry i. -/
def State.routeWord (s : State) (i w : Nat) : Word := s.mem1 ((s.reg Reg.HOP_RTBASE).toNat + 4 * i + w)

/-- A lookup of n more entries from entry i: word 3 of the first valid entry whose key matches (R153). -/
def State.routeProbe (s : State) (key : List Nat) (i : Nat) : Nat → Option Word
  | 0 => none
  | n + 1 =>
    let w3 := s.routeWord (i % 1024) 3
    let st := fieldOf w3 22 2
    if st = 0 then none
    else if st = 1 ∧ octetsOf [s.routeWord (i % 1024) 0, s.routeWord (i % 1024) 1, s.routeWord (i % 1024) 2] = key then some w3
    else s.routeProbe key (i + 1) n

/-- The lookup of an address (R153). -/
def State.routeLookup (s : State) (a : List Nat) : Option Word :=
  s.routeProbe (routeKey a) (homeIndex (routeKey a)) (s.fld Reg.HOP_RTCFG 0 4 + 1)

/-- The neighbour that a source address resolves to (R135, R154). -/
def State.resolve (s : State) (a : Option (List Nat)) : Option Nat :=
  match a with
  | none => none
  | some a =>
    match s.routeLookup a with
    | some w => if w.getLsbD 20 then some (fieldOf w 8 8) else none
    | none => none

/-- The address of word w of neighbour n. -/
def State.nbrAddr (s : State) (n w : Nat) : Nat := (s.reg Reg.HOP_NTBASE).toNat + 16 * n + w

/-- Word w of neighbour n. -/
def State.nbrWord (s : State) (n w : Nat) : Word := s.mem1 (s.nbrAddr n w)

/-- Word w of neighbour n takes a value, by the table port (R155). -/
def State.setNbrWord (s : State) (n w : Nat) (v : Word) : State := s.storeRam (s.nbrAddr n w) v

/-- A neighbour's entry is valid. -/
def State.nbrValid (s : State) (n : Nat) : Bool := (s.nbrWord n 13).getLsbD 23

/-- Link security is required with a neighbour. -/
def State.nbrSec (s : State) (n : Nat) : Bool := (s.nbrWord n 13).getLsbD 21

/-- The link key of a neighbour's slot. -/
def State.nbrKey (s : State) (n : Nat) : Option LinkKey := s.ash.keys.getD (fieldOf (s.nbrWord n 13) 16 5) none

/-- The incoming frame counter of a neighbour. -/
def State.nbrCounter (s : State) (n : Nat) : Nat :=
  fieldOf (s.nbrWord n 12) 0 8 * 2 ^ 24 + (s.nbrWord n 15).toNat

/-- The incoming frame counter of a neighbour takes a value (R169). -/
def State.setNbrCounter (s : State) (n c : Nat) : State :=
  (s.setNbrWord n 12 (withField (s.nbrWord n 12) 0 8 (c / 2 ^ 24))).setNbrWord n 15 (BitVec.ofNat 24 c)

/-! ## The receive path (R144, R145, R169) -/

/-- The node's own extended address. -/
def State.ownExt (s : State) : List Nat :=
  (octetsOf [s.reg (Reg.HOP_OWNE 0), s.reg (Reg.HOP_OWNE 1), s.reg (Reg.HOP_OWNE 2)]).take 8

/-- An address is the node's own. -/
def State.isOwn (s : State) (a : List Nat) : Bool :=
  if a.length = 2 then natOfLow a == s.fld Reg.HOP_OWNS 0 16 else a == s.ownExt

/-- The address filter accepts a MAC header (R144). -/
def State.filterOk (s : State) (h : MacHdr) : Bool :=
  match h.dst with
  | none => true
  | some a =>
    let pan := match h.dstPan with
      | none => true
      | some p => p == s.fld Reg.HOP_PAN 0 16 || p == 0xFFFF
    pan && (s.isOwn a || (a.length == 2 && natOfLow a == 0xFFFF))

/-- The Hopper takes a frame as its header ends (R144, R145, R172): the cells it holds for it, or none where it is
rejected, with the counter of the reason counted. -/
def State.acceptFrame (s : State) (mac : List Nat) (olen : Nat) : Option (List Nat) × State :=
  if ! s.bit Reg.HOP_CTL 23 then (none, s.countReg Reg.HOP_CNTNOBUF)
  else if ! s.filterOk (macHdr mac) then (none, s.countReg Reg.HOP_CNTFLT)
  else
    match s.takeCells (cellCount olen) 1 with
    | none => (none, s.countReg Reg.HOP_CNTNOBUF)
    | some (cs, s1) => (some cs, s1)

/-- The inline check of a secured frame from neighbour n (R169, R339): the frame in the clear, its MIC gone, and the
state with the counter stored; none where the key, the level, the counter or the MIC fails. -/
def State.openFrame (s : State) (n : Nat) (os : List Nat) : Option (List Nat × State) :=
  let h := macHdr os
  let x := auxHdr (os.drop h.addrEnd)
  match s.nbrKey n with
  | none => none
  | some k =>
    if x.level < k.level ∨ x.keyIdx ≠ some k.idx ∨ x.counter ≤ s.nbrCounter n then none
    else
      let e := openEnd os
      match ccmOpen k.key (ccmNonce h x.counter x.level) x.level (os.take e) (os.drop e) with
      | none => none
      | some m => some (os.take e ++ m, s.setNbrCounter n x.counter)

/-- A frame that the physical layer delivers is stored with its metadata, surplus cells freed, and waits for its
decision (R109, R149, R169). -/
def State.deliver (s : State) (cells : List Nat) (md : List Word) (bad : Bool) (src : Option Nat) (reply : Bool)
    (os : List Nat) : State :=
  let secured := (macHdr os).sec && ! bad
  let opened := if secured then src.bind fun n => s.openFrame n os else none
  let r := opened.getD (os, s)
  let n := min cells.length (cellCount r.1.length)
  let f : HopFrame := { cells := cells.take n, olen := r.1.length }
  let s1 := (r.2.chainCells 1 f.cells).freeFrame { cells := cells.drop n, olen := 0 }
  let s2 := (s1.storeRams (s1.cellAddr (f.cells.headD 0)) md).setFrameOctets f r.1
  { s2 with hop := { s2.hop with jobs := s2.hop.jobs ++ [.rx f bad secured opened.isSome src reply] } }

/-! ## Entry (R156 to R160, R165) -/

/-- The class of a queue: 0 control, 1 telemetry, 2 best-effort (R156). -/
def State.qClass (s : State) (q : Nat) : Nat := s.fld (Reg.HOP_QCFG q) 22 2

/-- A drop or refusal at entry to queue q: counted, flagged, and logged once an epoch (R160, R165). -/
def State.entryDrop (s : State) (q : Nat) : State :=
  let s1 := (s.countReg (Reg.HOP_QDROP q)).flagRaise Reg.HOP_STAT 1 69
  let epoch := s.slot.asn.toNat / 2 ^ 24 + 1
  if (s.hq q).logged = epoch then s1
  else (s1.mapHq q fun h => { h with logged := epoch }).logRequest 0x11 0 (BitVec.ofNat 24 q) (s1.reg (Reg.HOP_QDROP q))

/-- The frames of a queue that are not locked. -/
def HopQueue.unlocked (h : HopQueue) : List HopFrame := if h.locked then h.frames.drop 1 else h.frames

/-- The cells of the locked frame. -/
def HopQueue.lockedCells (h : HopQueue) : Nat := if h.locked then ((h.frames.headD { cells := [], olen := 0 }).cells).length else 0

/-- Oldest unlocked frames are dropped, one at a time, until k cells fit (R160). -/
def State.headDrop (s : State) (q k : Nat) : Nat → State
  | 0 => s
  | n + 1 =>
    let h := s.hq q
    if h.fill + k ≤ s.fld (Reg.HOP_QCFG q) 0 11 then s
    else
      match h.unlocked with
      | [] => s
      | f :: rest =>
        let kept := if h.locked then h.frames.take 1 ++ rest else rest
        (((s.setFrames q kept).freeFrame f).entryDrop q).headDrop q k n

/-- A frame is appended to a queue: word 16 names the queue, word 17 the ASN (R150), and a local queue raises its
source. -/
def State.appendFrame (s : State) (q : Nat) (f : HopFrame) : State :=
  let s1 := s.setFcWord f 16 (withField (s.fcWord f 16) 19 5 q)
  let s2 := s1.setFcWord f 17 (withField (s1.fcWord f 17) 0 16 (s.slot.asn.toNat))
  let s3 := s2.setFrames q ((s2.hq q).frames ++ [f])
  if 28 ≤ q then s3.raise (64 + (q - 28)) else s3

/-- How entry to a queue ended. -/
inductive EntryEnd where
  | entered | pool | limit
  deriving DecidableEq, Repr

/-- The entry rules of R160 for a frame of class cls; a frame of a core is refused where a received one is dropped, and
a refused or dropped frame's cells go to the core or the free list. -/
def State.enterQueue (s : State) (q : Nat) (f : HopFrame) (cls : Nat) (core : Bool) : EntryEnd × State :=
  let k := f.cells.length
  let lim := s.fld (Reg.HOP_QCFG q) 0 11
  let gone := fun (s : State) => if core then s.returnCells f else s.freeFrame f
  if cls ≠ 0 ∧ s.freeCells < 64 then (.pool, gone ((s.countReg Reg.HOP_CNTPOOL).entryDrop q))
  else if (s.hq q).fill + k ≤ lim then (.entered, s.appendFrame q f)
  else if s.qClass q = 1 ∧ (s.hq q).lockedCells + k ≤ lim then
    (.entered, (s.headDrop q k (s.hq q).frames.length).appendFrame q f)
  else (.limit, gone (s.entryDrop q))

/-! ## Binding (R157) -/

/-- The field of word 14 that names the queue of a class: qte for telemetry, qbe for best-effort. -/
def bindLo (cls : Nat) : Nat := if cls = 1 then 19 else 14

/-- The queue bound to neighbour n for a class, 0 for none. -/
def State.boundQueue (s : State) (n cls : Nat) : Nat := fieldOf (s.nbrWord n 14) (bindLo cls) 5

/-- Neighbour n's bound queue for a class takes a value. -/
def State.setBoundQueue (s : State) (n cls q : Nat) : State :=
  s.setNbrWord n 14 (withField (s.nbrWord n 14) (bindLo cls) 5 q)

/-- Queue q is bound. -/
def State.isBound (s : State) (q : Nat) : Bool := s.bit (Reg.HOP_QSTAT q) 23

/-- The neighbour of queue q. -/
def State.qNbr (s : State) (q : Nat) : Nat := s.fld (Reg.HOP_QSTAT q) 15 8

/-- A binding of queue q ends: the neighbour's field that names q is cleared. -/
def State.unbind (s : State) (q : Nat) : State :=
  if s.isBound q then
    let s1 := [1, 2].foldl (fun s k => if s.boundQueue (s.qNbr q) k = q then s.setBoundQueue (s.qNbr q) k 0 else s) s
    ((s1.setBit (Reg.HOP_QSTAT q) 23 false).setFld (Reg.HOP_QSTAT q) 15 8 0).flagRaise Reg.HOP_STAT 2 68
  else s

/-- Queue q is bound to neighbour n. -/
def State.bindTo (s : State) (q n : Nat) : State :=
  let s1 := (s.unbind q).setBoundQueue n (s.qClass q) q
  ((s1.setBit (Reg.HOP_QSTAT q) 23 true).setFld (Reg.HOP_QSTAT q) 15 8 n).flagRaise Reg.HOP_STAT 2 68

/-- The queues 4 to 27. -/
def hopQueues : List Nat := (List.range 24).map (· + 4)

/-- The queue for neighbour n and a class: the bound one, else the lowest unbound one of the class, else the lowest that
is empty, bound, not pinned and not locked (R157). -/
def State.boundOrBind (s : State) (n cls : Nat) : Option Nat × State :=
  if s.boundQueue n cls ≠ 0 then (some (s.boundQueue n cls), s)
  else
    let ofClass := hopQueues.filter fun q => s.qClass q == cls
    match ofClass.find? fun q => ! s.isBound q with
    | some q => (some q, s.bindTo q n)
    | none =>
      match ofClass.find? fun q => (s.hq q).frames.isEmpty && ! s.bit (Reg.HOP_QCFG q) 20 && ! (s.hq q).locked with
      | some q => (some q, s.bindTo q n)
      | none => (none, s)

/-! ## The forwarding decision (R159, R161, R170, R171) -/

/-- What a decision ends with: the status of R167, the queue reached, and whether its outcome calls for cong. -/
structure Verdict where
  /-- Status: 0 OK, 4 REFUSED, 0x60 NOROUTE, 0x61 HOPS, 0x62 NOQUEUE, 0x63 POOL, 1 dropped otherwise. -/
  status : Nat
  /-- Queue. -/
  q : Nat := 0
  /-- cong by R161. -/
  cong : Bool := false
  /-- A duplicate, which is acknowledged like any good frame (R170). -/
  dup : Bool := false
  deriving DecidableEq, Repr

/-- A frame before its decision. -/
structure HopCase where
  /-- The frame. -/
  f : HopFrame
  /-- Its octets. -/
  os : List Nat
  /-- It comes from a core. -/
  core : Bool
  deriving DecidableEq, Repr

/-- enter(q) of the pseudocode. -/
def State.enter (s : State) (c : HopCase) (q cls : Nat) : Verdict × State :=
  let r := s.enterQueue q c.f cls c.core
  match r.1 with
  | .entered => ({ status := 0, q := q, cong := r.2.qHigh q || r.2.poolLow }, r.2)
  | .pool => ({ status := 0x63, q := q, cong := true }, r.2)
  | .limit => ({ status := 4, q := q, cong := true }, r.2)

/-- drop(cnt) of the pseudocode. -/
def State.dropFrame (s : State) (c : HopCase) (cnt status : Nat) (cong : Bool) : Verdict × State :=
  let s1 := (s.freeFrame c.f).countReg cnt
  ({ status := status, cong := cong || s1.poolLow }, s1)

/-- The part of the decision from the lookup on (R159), for a frame whose Hops Left has been reduced. -/
def State.forwardFrame (s : State) (c : HopCase) (m : MeshHdr) (cls : Nat) : Verdict × State :=
  match s.routeLookup m.final with
  | none => if s.bit Reg.HOP_CTL 21 then s.enter c 31 cls else s.dropFrame c Reg.HOP_CNTNR 0x60 false
  | some e =>
    let n := fieldOf e 8 8
    if e.getLsbD 21 then s.enter c (28 + cls) cls
    else if ! s.nbrValid n || ! (s.nbrWord n 13).getLsbD 22 then s.enter c 31 cls
    else
      let s1 := s.setFcWord c.f 17 (withField (s.fcWord c.f 17) 16 8 n)
      let b := if cls = 0 then (some (s1.fld Reg.HOP_CTL 19 2), s1) else s1.boundOrBind n cls
      match b.1 with
      | none => b.2.dropFrame c Reg.HOP_CNTNOQ 0x62 true
      | some q =>
        let r := b.2.enter c q cls
        (r.1, r.2.countReg Reg.HOP_CNTFWD)

/-- The part of the decision that reads the headers (R151, R152, R159). -/
def State.routeFrame (s : State) (c : HopCase) : Verdict × State :=
  let cls := classOf c.os
  let kind := (macHdr c.os).kind
  if kind = 0 ∨ kind = 3 then s.enter c 28 cls
  else
    match meshHdr c.os with
    | none => s.enter c (28 + cls) cls
    | some m =>
      if m.hops = 15 ∨ isMulticast m.final = true then s.enter c 31 cls
      else if s.isOwn m.final then s.enter c (28 + cls) cls
      else if m.hops ≤ 1 then s.dropFrame c Reg.HOP_CNTHOP 0x61 false
      else
        let os := setAt (c.os.getD m.pos 0 - 1) c.os m.pos
        (s.setFrameOctets c.f os).forwardFrame { c with os := os } m cls

/-- A data frame repeats the last sequence number of its sending neighbour (R170). -/
def State.isDuplicate (s : State) (h : MacHdr) (src : Option Nat) : Bool :=
  match src, h.seq with
  | some n, some q => h.kind == 1 && s.nbrValid n && (s.nbrWord n 14).getLsbD 5 && fieldOf (s.nbrWord n 14) 6 8 == q
  | _, _ => false

/-- ldsn and dv of the sending neighbour of an accepted data frame (R170). -/
def State.noteSeq (s : State) (h : MacHdr) (src : Option Nat) : State :=
  match src, h.seq with
  | some n, some q =>
    if h.kind == 1 && s.nbrValid n then s.setNbrWord n 14 (withBit (withField (s.nbrWord n 14) 6 8 q) 5 true) else s
  | _, _ => s

/-- The decision on a received frame (R159): checks, then the headers. Its frame-control words are written first. -/
def State.decideRx (s : State) (f : HopFrame) (bad secured secOk : Bool) (src : Option Nat) : Verdict × State :=
  let os := s.frameOctets f
  let h := macHdr os
  let bc := (h.dst.map fun a => a.length == 2 && natOfLow a == 0xFFFF).getD false
  let w16 := b2n bc * 2 ^ 14 + classOf os * 2 ^ 12 + f.olen
  let s1 := (s.setFcWord f 16 (BitVec.ofNat 24 w16)).setFcWord f 17 0#24
  let c : HopCase := { f := f, os := os, core := false }
  let gen1 := s.bit Reg.HOP_CTL 22
  if bad then s1.enter c (if gen1 then 30 else 31) (classOf os)
  else if secured && ! secOk then s1.dropFrame c Reg.HOP_CNTSEC 1 false
  else if ! secured && (src.map s.nbrSec).getD false then s1.dropFrame c Reg.HOP_CNTSEC 1 false
  else if s1.isDuplicate h src then
    let r := s1.dropFrame c Reg.HOP_CNTDUP 1 false
    ({ r.1 with dup := true }, r.2)
  else
    let s2 := s1.noteSeq h src
    if gen1 then s2.enter c 30 (classOf os) else s2.routeFrame c

/-- HOP_ENQSTAT of a master takes a status (R167); a final one makes the master's source pending (R239). -/
def State.setEnqStat (s : State) (m : Master) (status q : Nat) : State :=
  let s1 := s.setLatch m Reg.HOP_ENQSTAT (BitVec.ofNat 24 (status * 65536 + q * 1024))
  if status = 0x6F then s1
  else
    match m with
    | .lk => s1.raise 72
    | .a0 => s1.raise 73
    | .a1 => s1.raise 74
    | _ => s1

/-- The decision on a frame enqueued with fwd = 1, and its status (R159, R167). -/
def State.decideEnq (s : State) (m : Master) (f : HopFrame) : State :=
  let c : HopCase := { f := f, os := s.frameOctets f, core := true }
  let r := if s.bit Reg.HOP_CTL 22 then s.enter c 30 (classOf c.os) else s.routeFrame c
  r.2.setEnqStat m r.1.status (if r.1.status = 0 then r.1.q else 0)

/-- The congestion bit of the acknowledgement is fixed (R161), and its NACK: the decision has dropped or refused a frame that is no
duplicate (R132, R170; assumption 117). -/
def State.fixAck (s : State) (v : Verdict) : State :=
  match s.slot.op with
  | none => s
  | some o => { s with slot := { s.slot with op := some { o with cong := some v.cong, nack := v.status != 0 && ! v.dup } } }

/-- The oldest frame that waits is decided (R159); a standby unit decides nothing. -/
def State.decideNext (s : State) : State :=
  match (if s.standby then [] else s.hop.jobs) with
  | [] => s
  | j :: js =>
    let s1 := { s with hop := { s.hop with jobs := js } }
    match j with
    | .enq m f => s1.decideEnq m f
    | .rx f bad secured ok src reply =>
      let r := s1.decideRx f bad secured ok src
      if reply then r.2.fixAck r.1 else r.2

/-- FORWARDING_DECISION (R159): the oldest frame that waits is decided. -/
def execForwardingDecision (s : State) : Host.Outcome State Fault Refusal := .next s.decideNext

/-! ## Transmission (R158, R162 to R164, R169) -/

/-- A frame's next hop, when its MAC destination is not broadcast. -/
def State.frameNh (s : State) (f : HopFrame) : Nat := fieldOf (s.fcWord f 17) 16 8

/-- A frame is broadcast. -/
def State.frameBc (s : State) (f : HopFrame) : Bool := (s.fcWord f 16).getLsbD 14

/-- Queue q is eligible for a cell of neighbour n (R163). -/
def State.qEligible (s : State) (q n : Nat) : Bool :=
  match (s.hq q).frames with
  | [] => false
  | f :: _ =>
    s.bit Reg.HOP_CTL 23 && s.fld (Reg.HOP_QSTAT q) 11 4 == 0 && ((s.hq q).gate || ! s.bit (Reg.HOP_QCFG q) 21)
      && (if q < 4 then s.frameBc f || s.frameNh f == n else if q < 28 then s.isBound q && s.qNbr q == n else false)

/-- The outgoing frame counter. -/
def State.fcnt (s : State) : Nat := s.fld Reg.HOP_FCNT1 0 8 * 2 ^ 24 + (s.reg Reg.HOP_FCNT0).toNat

/-- The outgoing frame counter advances by 1. -/
def State.bumpFcnt (s : State) : State :=
  let c := s.fcnt + 1
  (s.setReg Reg.HOP_FCNT0 (BitVec.ofNat 24 c)).setFld Reg.HOP_FCNT1 0 8 (c / 2 ^ 24)

/-- The octets of a frame with the short addresses of R163 in place of those it has: the destination where dst is some, and the
source; a PAN ID that the address modes then ask for is the frame's own, or the node's. -/
def readdress (os : List Nat) (dst : Option Nat) (src pan : Nat) : List Nat :=
  let h := macHdr os
  let fcf := natOfLow (os.take 2)
  let dm := if dst.isSome then 2 else fcf / 1024 % 4
  let f1 := fcf % 1024 + dm * 1024 + fcf / 4096 % 4 * 4096 + 2 * 16384
  let p := panPresent (fcf / 4096 % 4) dm 2 (fcf.testBit 6)
  let low := fun (v : Nat) => [v % 256, v / 256 % 256]
  low f1 ++ (if h.seq.isSome then [os.getD 2 0] else []) ++ (if p.1 then low (h.dstPan.getD pan) else [])
    ++ (match dst with
      | some a => low a
      | none => h.dst.getD [])
    ++ (if p.2 then low (h.srcPan.getD pan) else []) ++ low src ++ os.drop h.addrEnd

/-- The header of a frame rewritten for its next hop (R163): destination, but for a broadcast frame, source and, on a first
transmission, the sequence number. -/
def State.rewriteHeader (s : State) (f : HopFrame) (os : List Nat) : List Nat × State :=
  let h := macHdr os
  let dst := if s.frameBc f then none else some (fieldOf (s.nbrWord (s.frameNh f) 13) 0 16)
  let o1 := readdress os dst (s.fld Reg.HOP_OWNS 0 16) (s.fld Reg.HOP_PAN 0 16)
  if fieldOf (s.fcWord f 16) 16 3 = 0 then
    (if h.seq.isSome then setAt (s.fld Reg.HOP_DSN 0 8) o1 2 else o1, s.setFld Reg.HOP_DSN 0 8 (s.fld Reg.HOP_DSN 0 8 + 1))
  else (o1, s)

/-- What the cells of a frame keep of its rewritten octets: all of them where their number has not changed, else the sequence number,
which a resend keeps; the addresses are then rewritten anew at every hand-over (R163). -/
def keptOctets (os new : List Nat) : List Nat :=
  if new.length = os.length then new else if (macHdr os).seq.isSome then setAt (new.getD 2 0) os 2 else os

/-- The head frame of queue q is locked and made ready (R163, R169, R339): its octets without FCS, or none where the queue
is empty or a secured frame is held. -/
def State.handOver (s : State) (q : Nat) : Option (List Nat) × State :=
  match (s.hq q).frames with
  | [] => (none, s)
  | f :: _ =>
    let s0 := s.mapHq q fun h => { h with locked := true }
    let os := s.frameOctets f
    if (s.fcWord f 16).getLsbD 11 then (some os, s0)
    else
      let n := s.frameNh f
      if ! s.frameBc f && s.nbrSec n then
        match s.nbrKey n with
        | none => (none, s0)
        | some k =>
          if s.bit Reg.HOP_CTL 18 then (none, s0)
          else if s.fcnt = 0xFFFFFFFF then (none, s0.flagRaise Reg.HOP_STAT 0 71)
          else
            let r := s0.rewriteHeader f os
            (some (secureFrame k.key k.idx k.level s.fcnt r.1), (r.2.setFrameOctets f (keptOctets os r.1)).bumpFcnt)
      else
        let r := s0.rewriteHeader f os
        (some (bareFrame r.1), r.2.setFrameOctets f (keptOctets os r.1))

/-- What the slot engine hands to the Hopper (R130). -/
inductive SlotOutcome where
  | delivered | noAck | notSent
  deriving DecidableEq, Repr

/-- The locked head of queue q leaves it and its cells are freed. -/
def State.popHead (s : State) (q : Nat) : State :=
  match (s.hq q).frames with
  | [] => s
  | f :: fs => (s.setFrames q fs).freeFrame f

/-- The slot result acts on the locked frame of queue q (R164), and a flush that waited for it frees it (R168). -/
def State.hopResult (s : State) (q : Nat) (o : SlotOutcome) : State :=
  let h := s.hq q
  match h.locked, h.frames with
  | true, f :: _ =>
    let s0 := s.mapHq q fun h => { h with locked := false, flush := false }
    match o with
    | .delivered => s0.popHead q
    | .notSent => if h.flush then s0.popHead q else s0
    | .noAck =>
      let tries := fieldOf (s.fcWord f 16) 16 3 + 1
      if max 1 (s.fld Reg.HOP_CFG 17 3) ≤ tries then (s0.popHead q).countReg Reg.HOP_CNTRETRY
      else if h.flush then s0.popHead q
      else s0.setFcWord f 16 (withField (s.fcWord f 16) 16 3 tries)
  | _, _ => s

/-- A result with cong defers every queue bound to neighbour n (R162). -/
def State.congDefer (s : State) (n : Nat) : State :=
  hopQueues.foldl (fun s q => if s.isBound q && s.qNbr q == n then s.setFld (Reg.HOP_QSTAT q) 11 4 (s.fld Reg.HOP_CFG 20 4) else s) s

/-- The deferral of queue q decreases (R162). -/
def State.deferDown (s : State) (q : Nat) : State :=
  s.setFld (Reg.HOP_QSTAT q) 11 4 (s.fld (Reg.HOP_QSTAT q) 11 4 - 1)

/-- The gate event reaches the Hopper (R158). -/
def State.openGates (s : State) : State :=
  { s with hop := { s.hop with q := s.hop.q.map fun h => { h with gate := h.gate || ! h.frames.isEmpty } } }

/-- DEFER_EXPIRED (R162): the last deferral slot of a queue ends. -/
def execDeferExpired (q : Fin 32) (s : State) : Host.Outcome State Fault Refusal :=
  .next (if s.fld (Reg.HOP_QSTAT q.val) 11 4 = 1 then s.deferDown q.val else s)

/-! ## Cores (R166 to R168, R172) -/

/-- A range of n words from a lies in SRAM. -/
def inSram (a n : Nat) : Bool := isSram a && isSram (a + n - 1)

/-- The bases and the count are in range (R147). -/
def State.layoutOk (s : State) : Bool :=
  let n := s.fld Reg.HOP_POOLCNT 0 12
  decide (128 ≤ n) && decide (n ≤ 2048) && inSram (s.reg Reg.HOP_POOLBASE).toNat (128 * n)
    && inSram (s.reg Reg.HOP_LINKBASE).toNat n && inSram (s.reg Reg.HOP_NTBASE).toNat 4096
    && inSram (s.reg Reg.HOP_RTBASE).toNat 4096

/-- Every cell is put on the free list, in ascending order (R147, R172). -/
def State.buildPool (s : State) : State :=
  let n := s.fld Reg.HOP_POOLCNT 0 12
  let s1 := s.chainCells 0 (List.range n)
  State.syncFree { s1 with hop := { s1.hop with free := List.range n, ready := true } }

/-- A write of HOP_CTL: setting en with an invalid layout is refused and sets cfg; the first enable after a power or
system reset puts every cell on the free list (R147, R172). -/
def State.wrHopCtl (s : State) (v : Word) : State :=
  let s1 := s.storeReg Reg.HOP_CTL v
  if s1.bit Reg.HOP_CTL 23 && ! s.bit Reg.HOP_CTL 23 then
    if ! s1.layoutOk then (s1.setBit Reg.HOP_CTL 23 false).flagRaise Reg.HOP_STAT 3 71
    else if s1.hop.ready then s1 else s1.buildPool
  else s1

/-- HOPPER_ENABLE (R172). -/
def execHopperEnable (v : Word) (s : State) : Host.Outcome State Fault Refusal :=
  .next (s.onBlock Reg.HOP_CTL fun s => s.wrHopCtl v)

/-- A read of HOP_ALLOC or HOP_ALLOCC (R166): the word read. -/
def State.rdAlloc (s : State) (reserve : Bool) : Word × State :=
  if s.hop.free.length < (if reserve then 1 else 65) then (0#24, s)
  else
    match s.takeCells 1 2 with
    | some (c :: _, s1) => (BitVec.ofNat 24 (0x800000 + c), s1)
    | _ => (0#24, s)

/-- CELL_ALLOC (R166). -/
def execCellAlloc (m : Master) (s : State) : Host.Outcome State Fault Refusal :=
  .next (s.transfer m Reg.HOP_ALLOC false fun s => State.answer (s.rdAlloc false))

/-- CELL_ALLOC_RESERVE (R166). -/
def execCellAllocReserve (m : Master) (s : State) : Host.Outcome State Fault Refusal :=
  .next (s.transfer m Reg.HOP_ALLOCC false fun s => State.answer (s.rdAlloc true))

/-- HOP_STAT.misuse and its source. -/
def State.misuse (s : State) : State := s.flagRaise Reg.HOP_STAT 4 71

/-- The frame whose first cell a core names. -/
def State.coreFrame (s : State) (c : Nat) : HopFrame :=
  let olen := fieldOf (s.mem1 (s.cellAddr c + 16)) 0 11
  { cells := s.chainFrom c (cellCount olen), olen := olen }

/-- A core holds the frame's first cell. -/
def State.coreHolds (s : State) (c : Nat) : Bool := decide (c < s.fld Reg.HOP_POOLCNT 0 12) && s.linkSt c == 2

/-- A master's enqueue waits for its decision. -/
def State.enqPending (s : State) (m : Master) : Bool := fieldOf (s.latch m Reg.HOP_ENQSTAT) 16 8 == 0x6F

/-- A write of HOP_ENQ (R167). -/
def State.wrEnq (s : State) (m : Master) (v : Word) : State :=
  let c := fieldOf v 0 11
  let q := fieldOf v 18 5
  if s.enqPending m then s
  else if ! v.getLsbD 23 && (m == .a0 || m == .a1 || decide (4 ≤ q)) then s.setEnqStat m 7 0
  else if ! s.coreHolds c then (s.setEnqStat m 7 0).misuse
  else
    let f := s.coreFrame c
    let s1 := f.cells.foldl (fun s k => s.setLinkFld k 22 2 1) s
    let s2 := s1.setFcWord f 16 (withBit (s1.fcWord f 16) 15 true)
    if v.getLsbD 23 then State.setEnqStat { s2 with hop := { s2.hop with jobs := s2.hop.jobs ++ [.enq m f] } } m 0x6F 0
    else
      let r := s2.enterQueue q f (fieldOf (s2.fcWord f 16) 12 2) true
      if r.1 = .entered then r.2.setEnqStat m 0 q else r.2.setEnqStat m 4 0

/-- ENQUEUE (R167). -/
def execEnqueue (m : Master) (v : Word) (s : State) : Host.Outcome State Fault Refusal :=
  .next (s.transfer m Reg.HOP_ENQ true fun s => s.wrEnq m v)

/-- A read of HOP_DQq, q = 28 + i (R168). -/
def State.rdDq (s : State) (i : Nat) : Word × State :=
  match (s.hq (28 + i)).frames with
  | [] => (0#24, s)
  | f :: fs => (BitVec.ofNat 24 (0x800000 + f.cells.headD 0), (s.setFrames (28 + i) fs).returnCells f)

/-- DEQUEUE (R168). -/
def execDequeue (m : Master) (q : Fin 4) (s : State) : Host.Outcome State Fault Refusal :=
  .next (s.transfer m (Reg.HOP_DQ q.val) false fun s => State.answer (s.rdDq q.val))

/-- A write of HOP_RELEASE (R168). -/
def State.wrRelease (s : State) (v : Word) : State :=
  if s.coreHolds (fieldOf v 0 11) then s.freeFrame (s.coreFrame (fieldOf v 0 11)) else s.misuse

/-- RELEASE (R168). -/
def execRelease (v : Word) (s : State) : Host.Outcome State Fault Refusal :=
  .next (s.onBlock Reg.HOP_RELEASE fun s => s.wrRelease v)

/-- A flush of queue q (R168): every frame but a locked head is freed, the head when its result arrives. -/
def State.flushQueue (s : State) (q : Nat) : State :=
  if 4 ≤ q ∧ q < 28 then s.misuse
  else
    let h := s.hq q
    let s1 := s.setFrames q (if h.locked then h.frames.take 1 else [])
    let s2 := h.unlocked.foldl State.freeFrame s1
    if h.locked then s2.mapHq q fun h => { h with flush := true } else s2

/-- A queue command of HOP_QCMD (R157, R168): flush, bind and pin, or unbind and unpin. -/
def State.wrQcmd (s : State) (v : Word) : State :=
  let q := fieldOf v 17 5
  let ok := decide (4 ≤ q) && decide (q < 28) && (s.hq q).frames.isEmpty
  match fieldOf v 22 2 with
  | 0 => s
  | 1 => s.flushQueue q
  | 2 => if ok then (s.bindTo q (fieldOf v 0 8)).setBit (Reg.HOP_QCFG q) 20 true else s.misuse
  | _ => if ok then (s.unbind q).setBit (Reg.HOP_QCFG q) 20 false else s.misuse

/-- QUEUE_FLUSH (R168). -/
def execQueueFlush (v : Word) (s : State) : Host.Outcome State Fault Refusal :=
  .next (s.onBlock Reg.HOP_QCMD fun s => s.wrQcmd (withField v 22 2 1))

/-- QUEUE_BIND (R157). -/
def execQueueBind (v : Word) (s : State) : Host.Outcome State Fault Refusal :=
  .next (s.onBlock Reg.HOP_QCMD fun s => s.wrQcmd (withField v 22 2 2))

/-- QUEUE_UNBIND (R157). -/
def execQueueUnbind (v : Word) (s : State) : Host.Outcome State Fault Refusal :=
  .next (s.onBlock Reg.HOP_QCMD fun s => s.wrQcmd (withField v 22 2 3))

end Sys2Proof.Machine
end

