-- ==== Sys2Proof/Machine/Air.lean ====
section
/-! DEFINITION. What a Seam frame is on the air, from its sync symbol on (R80 to R92), its headers, the enhanced acknowledgement with
its elements (R101, R132, R133), and powers in dB steps (R95, R96, R108). The shift registers and the mappings that the rules name by
their standards are those of IEEE 802.11 (PRESUMED, assumption 116). -/
namespace Sys2Proof.Machine

/-! ## Powers -/

/-- The steps of a scale of 20/k dB that a power of num/den in units of 10^-20 mW stands at, rounded to the nearest one, from 0 to
top; off places the scale: step v is reached at 10^((2v − 1 + off)/k). -/
def dbSteps (num den k off top : Nat) : Nat :=
  ((List.range top).filter fun v => decide (den ^ k * 10 ^ (2 * v + 1 + off) ≤ num ^ k)).length

/-- The RSSI of a mean power (R108): v = 2 × (P + 130) with P in dBm, from 0 to 260. -/
def rssiOf (p : Nat) : Nat := dbSteps p 1 40 280 260

/-- A power in the store's unit (R95, R98): value n means −140 + n/2 dBm; from 1 to 255. -/
def noiseUnit (num den : Nat) : Nat := max 1 (dbSteps num den 40 240 255)

/-- A signal power over a stored noise value n in 0.25 dB steps, from 0 to 255 (R96). -/
def snrSteps (p n : Nat) : Nat := dbSteps p 1 80 (480 + 4 * n) 255

/-- The signal power of group k from the powers of the data carriers in ascending order (R80, R96): four carriers a group in Seam and
in MR-OFDM option 1, two in option 2, one in option 3, and one for two adjacent groups in option 4. -/
def groupPower (seam : Bool) (opt : Nat) (ps : List Nat) (k : Nat) : Nat :=
  if seam = true ∨ opt = 0 then ((ps.drop (4 * k)).take 4).foldl (· + ·) 0
  else if opt = 1 then ((ps.drop (2 * k)).take 2).foldl (· + ·) 0
  else if opt = 2 then ps.getD k 0
  else ps.getD (k / 2) 0

/-! ## Generators and the convolutional code (R81, R83, R87) -/

/-- A step of the generator x^m + x^k + 1: the output bit, which is fed back, and the register, stage i as bit i − 1. -/
def genStep (m k st : Nat) : Bool × Nat :=
  let b := st.testBit (m - 1) != st.testBit (k - 1)
  (b, (st * 2 + (if b then 1 else 0)) % 2 ^ m)

/-- The first n output bits of the generator x^m + x^k + 1 from a register. -/
def genBits (m k : Nat) : Nat → Nat → List Bool
  | _, 0 => []
  | st, n + 1 => (genStep m k st).1 :: genBits m k (genStep m k st).2 n

/-- The parity of the bits of a number below 2^7. -/
def parity7 (n : Nat) : Bool := (List.range 7).foldl (fun b i => b != n.testBit i) false

/-- The outputs A and B of the encoder of constraint length 7, generators 133 and 171 (octal), for each input bit; the register
holds the six bits before, the latest as bit 5 (R87). -/
def convCode : Nat → List Bool → List (Bool × Bool)
  | _, [] => []
  | st, b :: bs =>
    let r := (if b then 64 else 0) + st
    (parity7 (r &&& 0o133), parity7 (r &&& 0o171)) :: convCode (r / 2) bs

/-- The coded bits sent at rate 1/2. -/
def codedHalf (ps : List (Bool × Bool)) : List Bool := ps.flatMap fun p => [p.1, p.2]

/-- The coded bits sent at rate 3/4: A1 B1 A2 B3 of each three input bits (R87). -/
def codedThree : List (Bool × Bool) → List Bool
  | p :: q :: r :: ps => p.1 :: p.2 :: q.1 :: r.2 :: codedThree ps
  | ps => codedHalf ps

/-! ## Carriers (R80, R81, R83, R84, R86) -/

/-- A carrier's value (re + j im) / √norm. -/
structure Carrier where
  /-- Real part. -/
  re : Int
  /-- Imaginary part. -/
  im : Int := 0
  /-- The square of the divisor. -/
  norm : Nat := 1
  deriving DecidableEq, Repr

/-- The value 1 − 2b. -/
def bpsk (b : Bool) : Int := if b then -1 else 1

/-- The active carriers in ascending index (R80). -/
def activeCarriers : List Int :=
  (List.range 52).map (fun (i : Nat) => (i : Int) - 52) ++ (List.range 52).map fun (i : Nat) => (i : Int) + 1

/-- The pilot carriers in ascending index (R80). -/
def pilotCarriers : List Int := [-46, -34, -22, -10, 10, 22, 34, 46]

/-- The data carriers: position m is the m-th in ascending index (R80). -/
def dataCarriers : List Int := activeCarriers.filter fun c => ! pilotCarriers.contains c

/-- The group of a data position (R80). -/
def groupOf (m : Nat) : Nat := m / 4

/-- The pilots of symbol n, counted from the sync symbol (R81). -/
def pilots (n : Nat) : List Int :=
  let q := (genBits 7 4 127 (n + 1)).getD n false
  ([1, 1, 1, -1, -1, 1, 1, 1] : List Int).map fun c => c * bpsk q

/-- The values s_k of n carriers of a training symbol (R83). -/
def trainingBits (n : Nat) : List Int := (genBits 9 5 511 n).map bpsk

/-- The short training symbol: carrier index and value, before the scaling to the mean power of a data symbol (R83). -/
def shortTraining : List (Int × Carrier) :=
  (([-48, -40, -32, -24, -16, -8, 8, 16, 24, 32, 40, 48] : List Int).zip (trainingBits 12)).map fun p =>
    (p.1, { re := p.2, im := p.2, norm := 2 })

/-- The long training symbol, before the scaling to the mean power of a data symbol (R83). -/
def longTraining : List (Int × Carrier) := (activeCarriers.zip (trainingBits 104)).map fun p => (p.1, { re := p.2 })

/-- The sync word that a form sends: its bitwise complement in a short form (R84, R92). -/
def syncBits (word : Nat) (short : Bool) : Nat := if short then 0xFFFFFFFF - word % 2 ^ 32 else word % 2 ^ 32

/-- The data positions of a sync symbol (R84). -/
def syncSymbol (word : Nat) (short : Bool) : List Carrier :=
  (List.range 96).map fun m => { re := bpsk ((syncBits word short).testBit (m % 32)) }

/-- The bits in which two words differ, of the low n. -/
def hamming (a b n : Nat) : Nat := ((List.range n).filter fun i => a.testBit i != b.testBit i).length

/-- The data position of carrier slot j (R86). -/
def slotPosition (j : Nat) : Nat := 13 * j % 96

/-- The carrier slot of data position m. -/
def positionSlot (m : Nat) : Nat := 37 * m % 96

/-- The level of an axis on which bits are Gray-coded, the first the most significant: −(2^n − 1) to 2^n − 1 in steps of 2. -/
def grayLevel (bs : List Bool) : Int :=
  let r := bs.foldl (fun (a : Nat × Bool) b => let c := a.2 != b; (2 * a.1 + (if c then 1 else 0), c)) (0, false)
  2 * r.1 - (2 ^ bs.length - 1 : Nat)

/-- The divisor of a mapping with b bits a carrier, squared (R87): BPSK, QPSK, 16-QAM, 64-QAM and 256-QAM. -/
def mapNorm (b : Nat) : Nat := if b = 2 then 2 else if b = 4 then 10 else if b = 6 then 42 else if b = 8 then 170 else 1

/-- The value of a carrier that takes bits (R87); 0 where it takes none. -/
def mapCarrier (bs : List Bool) : Carrier :=
  let h := bs.length / 2
  match bs with
  | [] => { re := 0 }
  | [b] => { re := grayLevel [b] }
  | _ => { re := grayLevel (bs.take h), im := grayLevel (bs.drop h), norm := mapNorm bs.length }

/-- A symbol of 48 coded bits on slots 0 to 47, again on 48 to 95: of the header and of the bare table (R86, R87). -/
def bareSymbol (bits : List Bool) : List Carrier :=
  (List.range 96).map fun m => mapCarrier [bits.getD (positionSlot m % 48) false]

/-! ## Loading tables (R88 to R92) -/

/-- The code of group k (R90). -/
def tableCode (tab : List Word) (k : Nat) : Nat := fieldOf (tab.getD (k / 8) 0#24) (21 - 3 * (k % 8)) 3

/-- The codes of the 24 groups. -/
def tableCodes (tab : List Word) : List Nat := (List.range 24).map (tableCode tab)

/-- Bits per carrier of a code (R89). -/
def codeBits (c : Nat) : Nat := ([0, 1, 2, 4, 6, 8] : List Nat).getD c 0

/-- An illegal table: every group off, or a reserved code (R88). -/
def tableIllegal (tab : List Word) : Bool := (tableCodes tab).all (· == 0) || (tableCodes tab).any fun c => decide (6 ≤ c)

/-- Every group is at QPSK or above (R92). -/
def tableQpsk (tab : List Word) : Bool := (tableCodes tab).all fun c => decide (2 ≤ c)

/-- Coded bits of a symbol under a table, N_cbps (R88). -/
def tableBits (tab : List Word) : Nat := 4 * ((tableCodes tab).map codeBits).foldl (· + ·) 0

/-- Data bits a symbol D under a table and a code rate (R88). -/
def tableD (tab : List Word) (rate34 : Bool) : Nat := tableBits tab / 4 * (if rate34 then 3 else 2)

/-- The bits of a symbol that the carrier slots from j on take in turn (R87): by slot. -/
def fillSlots (tab : List Word) : Nat → Nat → List Bool → List (List Bool)
  | _, 0, _ => []
  | j, n + 1, bits =>
    let b := codeBits (tableCode tab (groupOf (slotPosition j)))
    bits.take b :: fillSlots tab (j + 1) n (bits.drop b)

/-- A payload symbol under a loading table, by data position. -/
def loadedSymbol (tab : List Word) (bits : List Bool) : List Carrier :=
  let slots := fillSlots tab 0 96 bits
  (List.range 96).map fun m => mapCarrier (slots.getD (positionSlot m) [])

/-- The table of QPSK on every group, under which the payload of a short form is sent (R92). -/
def qpskTable : List Word := List.replicate 3 0x492492#24

/-! ## Headers (R85, R92) -/

/-- Bit i of a number. -/
def natBit (n i : Nat) : Bool := n.testBit i

/-- The CRC-8 of R85 over bits of a header in transmission order. -/
def hcs : List Bool → Nat → Nat
  | [], c => c
  | b :: bs, c => hcs bs (if (decide (128 ≤ c)) != b then (c * 2 % 256) ^^^ 7 else c * 2 % 256)

/-- The n low bits of a header, bit 0 first. -/
def headerBits (raw n : Nat) : List Bool := (List.range n).map (natBit raw)

/-- Eight header bits from lo, the first one sent the most significant. -/
def hcsField (raw lo : Nat) : Nat := (List.range 8).foldl (fun acc i => acc * 2 + b2n (natBit raw (lo + i))) 0

/-- A header of n bits with its check behind it, the bit for x^7 first (R85). -/
def withHcs (raw n : Nat) : Nat := raw + hcsField (hcs (headerBits raw n) 0xFF) 0 * 2 ^ n

/-- A field of a Seam header. -/
def rawField (raw lo len : Nat) : Nat := raw / 2 ^ lo % 2 ^ len

/-- A long-form header (R85). -/
def longHeader (len : Nat) (rate : Bool) (tag cls seed nbr : Nat) (nv : Bool) : Nat :=
  withHcs (len % 2048 + b2n rate * 2 ^ 11 + tag % 8 * 2 ^ 12 + cls % 4 * 2 ^ 15 + seed % 128 * 2 ^ 17 + nbr % 256 * 2 ^ 24
    + b2n nv * 2 ^ 32) 34

/-- A short-form header (R92). -/
def shortHeader (len : Nat) : Nat := withHcs (len % 64) 10

/-- The checks of a Seam header (R85; short form, R92). -/
def seamHeaderOk (short : Bool) (raw : Nat) : Bool :=
  if short then
    hcsField raw 10 == hcs (headerBits raw 10) 0xFF && ! natBit raw 6 && decide (5 ≤ rawField raw 0 6)
  else
    hcsField raw 34 == hcs (headerBits raw 34) 0xFF && ! natBit raw 33 && decide (rawField raw 17 7 ≠ 0)
      && decide (5 ≤ rawField raw 0 11)

/-- The neighbour that a long Seam header names. -/
def seamNbr (raw : Nat) : Option Nat := if natBit raw 32 then some (rawField raw 24 8) else none

/-! ## The symbols of a frame (R82, R87, R92) -/

/-- The header symbols of a frame: its bits, tail included, at rate 1/2 (R86, R92). -/
def headerSymbols (short : Bool) (hdr : Nat) : List (List Carrier) :=
  let c := codedHalf (convCode 0 (headerBits hdr (if short then 24 else 48)))
  if short then [bareSymbol c] else [bareSymbol (c.take 48), bareSymbol (c.drop 48)]

/-- The bits of octets, each octet's least significant bit first (R87). -/
def octetBits (os : List Nat) : List Bool := os.flatMap fun o => (List.range 8).map o.testBit

/-- The payload bits before coding, for n symbols of d data bits: the PSDU and the pad scrambled, the six tail bits unscrambled
behind the FCS (R87). -/
def payloadBits (psdu : List Nat) (seed n d : Nat) : List Bool :=
  let b := octetBits psdu
  let pad := n * d - (b.length + 6)
  let x := ((b ++ List.replicate pad false).zip (genBits 7 4 seed (b.length + pad))).map fun p => p.1 != p.2
  x.take b.length ++ List.replicate 6 false ++ x.drop b.length

/-- The payload symbols of a frame (R82, R87, R88, R92): the bare table where tab is empty. -/
def payloadSymbols (short : Bool) (tab : List Word) (rate : Bool) (seed : Nat) (psdu : List Nat) : List (List Carrier) :=
  let t := if short then qpskTable else tab
  let r := short || rate
  let bare := ! short && tab.isEmpty
  let d := if bare then 24 else tableD t r
  let n := if short then 2 else ceilDiv (8 * psdu.length + 6) d
  let c := convCode 0 (payloadBits psdu seed n d)
  if bare then (chunks 48 n (codedHalf c)).map bareSymbol
  else (chunks (tableBits t) n (if r then codedThree c else codedHalf c)).map (loadedSymbol t)

/-! ## Header IEs and the enhanced acknowledgement (R101, R132, R133) -/

/-- A header IE: its descriptor, the length in bits 6:0 and the element ID in bits 14:7, low octet first, and its content. -/
def headerIe (id : Nat) (content : List Nat) : List Nat :=
  let d := content.length % 128 + id * 128
  [d % 256, d / 256] ++ content

/-- A vendor-specific header IE of the part with a sub-type octet (R101, R133). -/
def vendorIe (sub : Nat) (content : List Nat) : List Nat := headerIe 0 ([0x0A, 0x97, 0x40, sub] ++ content)

/-- What the elements of an enhanced acknowledgement tell (R101, R132, R133). -/
structure AckInfo where
  /-- iv and the index of octet 6. -/
  idx : Option Nat := none
  /-- cong. -/
  cong : Bool := false
  /-- rate, tag, class and words of an advertised table, where tv = 1. -/
  table : Option (Bool × Nat × Nat × List Word) := none
  /-- The time correction in ns. -/
  corr : Option Int := none
  /-- NACK of the standard Time Correction IE. -/
  nack : Bool := false
  deriving DecidableEq, Repr

/-- The Seam acknowledgement element (R101). -/
def seamElement (a : AckInfo) : List Nat :=
  let t := a.table.getD (false, 0, 0, [])
  vendorIe (b2n a.idx.isSome * 128 + 1)
    ([a.idx.getD 0 % 256, b2n a.table.isSome * 128 + b2n a.cong * 64 + b2n t.1 * 32 + t.2.1 % 8 * 4 + t.2.2.1 % 4]
      ++ octetsOf t.2.2.2)

/-- An integer clamped to n bits in two's complement. -/
def clampBits (n : Nat) (i : Int) : Int := max (-(2 ^ (n - 1) : Nat)) (min ((2 ^ (n - 1) : Nat) - 1) i)

/-- An integer as the n octets of its two's complement, the least significant first. -/
def intOctets (n : Nat) (i : Int) : List Nat := (octetsOfNat n (i % (2 ^ (8 * n) : Nat)).toNat).reverse

/-- A number divided by n > 0 and rounded to the nearest integer, halves away from zero (R136). -/
def roundDiv (i : Int) (n : Nat) : Int :=
  if 0 ≤ i then ((2 * i.natAbs + n) / (2 * n) : Nat) else -(((2 * i.natAbs + n) / (2 * n) : Nat) : Int)

/-- The fine time-correction element (R133). -/
def fineElement (corr : Int) : List Nat := vendorIe 3 (intOctets 3 (clampBits 24 corr))

/-- The standard Time Correction IE (R132): the value in µs in bits 11:0, NACK in bit 15. -/
def timeCorrectionIe (corr : Int) (nack : Bool) : List Nat :=
  let v := ((clampBits 12 (roundDiv corr 1000)) % 4096).toNat + b2n nack * 0x8000
  headerIe 0x1E [v % 256, v / 256]

/-- The elements of an acknowledgement in the order of its cell's template (R132). -/
def ackElements (std : Bool) (a : AckInfo) : List Nat :=
  let c := a.corr.getD 0
  if std then timeCorrectionIe c a.nack ++ seamElement a else seamElement a ++ fineElement c

/-- The MAC header of the acknowledgement of a frame (assumption 117): frame version 2 with header IEs, the sequence number of the
frame, and its source as destination, behind its source PAN ID. -/
def ackMhr (h : MacHdr) (pan : Nat) : List Nat :=
  let dst := h.src.getD []
  let dm := if dst.length = 2 then 2 else if dst.length = 8 then 3 else 0
  let fcf := 0x2202 + dm * 0x400 + (if h.seq.isNone then 0x100 else 0)
  [fcf % 256, fcf / 256] ++ h.seq.toList ++ (if dm = 0 then [] else (octetsOfNat 2 (h.srcPan.getD pan)).reverse ++ dst)

/-- The header IEs at the start of octets, at most n, up to a termination IE: element ID and content. -/
def ieList : Nat → List Nat → List (Nat × List Nat)
  | 0, _ => []
  | n + 1, os =>
    if os.length < 2 then []
    else
      let d := natOfLow (os.take 2)
      let id := d / 128 % 256
      if id = 0x7E ∨ id = 0x7F then [] else (id, (os.drop 2).take (d % 128)) :: ieList n (os.drop (2 + d % 128))

/-- One header IE of a received acknowledgement is taken in (R101, R102, R132, R133). -/
def AckInfo.take (a : AckInfo) (id : Nat) (c : List Nat) : AckInfo :=
  let o := fun i => c.getD i 0
  if id = 0x1E ∧ 2 ≤ c.length then
    { a with corr := a.corr <|> some (1000 * signed 12 (o 0 + 256 * o 1)), nack := (o 1).testBit 7 }
  else if id = 0 ∧ c.take 3 = [0x0A, 0x97, 0x40] ∧ o 3 % 16 = 1 ∧ 6 ≤ c.length then
    { a with
      idx := if (o 3).testBit 7 then some (o 4) else none
      cong := (o 5).testBit 6
      table := if (o 5).testBit 7 = true ∧ 15 ≤ c.length then
          some ((o 5).testBit 5, o 5 / 4 % 8, o 5 % 4, packOctets ((c.drop 6).take 9)) else none }
  else if id = 0 ∧ c.take 3 = [0x0A, 0x97, 0x40] ∧ o 3 % 16 = 3 ∧ 7 ≤ c.length then
    { a with corr := some (signed 24 (natOfLow ((c.drop 4).take 3))) }
  else a

/-- What the elements of a received acknowledgement tell (R101, R102, R132, R133). -/
def ackInfo (os : List Nat) : AckInfo :=
  (ieList 64 (os.drop (auxEnd os))).foldl (fun a e => a.take e.1 e.2) {}

end Sys2Proof.Machine
end

