-- ==== Sys2Proof/Machine/Rfe.lean ====
section
/-! DEFINITION. The radio front end (chapter 03): channel plan, calibrations, regulatory checks, grants, direct
commands and the profile; and the durations and legality of frames (chapter 04) that its checks use. -/
namespace Sys2Proof.Machine

/-! ## Paths and synthesisers -/

/-- The lowest bit of a path's state in RFE_STAT. -/
def pathLo (p1 : Bool) : Nat := if p1 then 16 else 20

/-- A path's state: 0 OFF, 1 IDLE, 2 SYNTH_CAL, 3 SETTLE, 4 RX, 5 TX, 6 TURN, 7 BGCAL. -/
def State.path (s : State) (p1 : Bool) : Nat := s.fld Reg.RFE_STAT (pathLo p1) 4

/-- A path takes a state (R58). -/
def State.setPath (s : State) (p1 : Bool) (v : Nat) : State := s.setFld Reg.RFE_STAT (pathLo p1) 4 v

/-- The bit of RFE_SYSTAT that shows a synthesiser locked. -/
def lockBit (sy1 : Bool) : Nat := if sy1 then 23 else 21

/-- The bit of RFE_SYSTAT that shows a synthesiser's calibration valid. -/
def calBit (sy1 : Bool) : Nat := if sy1 then 22 else 20

/-- A synthesiser is locked. -/
def State.syLocked (s : State) (sy1 : Bool) : Bool := s.bit Reg.RFE_SYSTAT (lockBit sy1)

/-- A synthesiser's calibration is valid. -/
def State.syValid (s : State) (sy1 : Bool) : Bool := s.bit Reg.RFE_SYSTAT (calBit sy1)

/-- The die temperature at a synthesiser's last calibration. -/
def State.syTemp (s : State) (sy1 : Bool) : Int := signed 8 (s.fld Reg.RFE_SYSTAT (if sy1 then 8 else 0) 8)

/-- A profile word (R70). -/
def State.profileWord (s : State) (i : Nat) : Word := s.rfe.otp.getD i 0#24

/-- A field of a profile word. -/
def State.profileFld (s : State) (i lo len : Nat) : Nat := fieldOf (s.profileWord i) lo len

/-- The centre frequency of global channel g in Hz (R54). -/
def State.channelHz (s : State) (g : Nat) : Nat :=
  if g < 128 then (s.profileWord 5).toNat * 1000 + g % 128 * (s.profileWord 6).toNat
  else (s.profileWord 7).toNat * 1000 + g % 128 * (s.profileWord 8).toNat

/-- The high band (R53). -/
def inHighBand (f : Nat) : Bool := decide (750000000 ≤ f) && decide (f ≤ 960000000)

/-- The low band (R53). -/
def inLowBand (f : Nat) : Bool := decide (410000000 ≤ f) && decide (f ≤ 510000000)

/-- A channel whose frequency lies in a band can be tuned (R54). -/
def State.tunable (s : State) (g : Nat) : Bool := inHighBand (s.channelHz g) || inLowBand (s.channelHz g)

/-- N and F for a frequency (R54): F is rounded to the nearest integer, halves up, and 2^20 carries into N. -/
def synthNF (f : Nat) : Nat × Nat :=
  let d := if inHighBand f then 4 else 8
  let n := d * f / 40000000
  let r := ((d * f - n * 40000000) * 2097152 + 40000000) / 80000000
  if r = 1048576 then (n + 1, 0) else (n, r)

/-- A synthesiser is set to a channel, unlocked (R54). -/
def State.setSynth (s : State) (sy1 : Bool) (g : Nat) : State :=
  let f := s.channelHz g
  let nf := synthNF f
  let w := BitVec.ofNat 24 (b2n (inHighBand f) * 0x800000 + nf.1 % 128)
  let s1 := (s.setReg (if sy1 then Reg.RFE_SY1_INT else Reg.RFE_SY0_INT) w).setReg
    (if sy1 then Reg.RFE_SY1_FRAC else Reg.RFE_SY0_FRAC) (BitVec.ofNat 24 nf.2)
  let s2 := s1.setBit Reg.RFE_SYSTAT (lockBit sy1) false
  { s2 with rfe := if sy1 then { s2.rfe with chan1 := g } else { s2.rfe with chan0 := g } }

/-- The channel that a tune of a synthesiser waits for takes a value. -/
def State.setTune (s : State) (sy1 : Bool) (t : Option (Nat × Bool)) : State :=
  { s with rfe := if sy1 then { s.rfe with tune1 := t } else { s.rfe with tune0 := t } }

/-- The tune that a synthesiser waits for. -/
def State.tuneOf (s : State) (sy1 : Bool) : Option (Nat × Bool) := if sy1 then s.rfe.tune1 else s.rfe.tune0

/-- A settling, a calibration or a step begins on a path in the present tick. -/
def State.setSince (s : State) (p1 : Bool) : State :=
  { s with rfe := if p1 then { s.rfe with since1 := s.tb.count.toNat } else { s.rfe with since0 := s.tb.count.toNat } }

/-- The count at which what runs on a path began. -/
def State.since (s : State) (p1 : Bool) : Nat := if p1 then s.rfe.since1 else s.rfe.since0

/-- A synthesiser begins to settle on a channel (R58). -/
def State.settle (s : State) (sy1 : Bool) (g : Nat) (direct : Bool) : State :=
  (((s.setSynth sy1 g).setPath sy1 3).setTune sy1 (some (g, direct))).setSince sy1

/-- A path begins a synthesiser calibration (R58). -/
def State.calibrate (s : State) (sy1 : Bool) : State := (s.setPath sy1 2).setSince sy1

/-- A synthesiser's calibration takes a validity (R59, R61). -/
def State.setSyValid (s : State) (sy1 : Bool) (v : Bool) : State := s.setBit Reg.RFE_SYSTAT (calBit sy1) v

/-! ## Calibrations (R61 to R63) -/

/-- The enable bit and the lowest bit of the interval exponent of background calibration n in RFE_BGCFG. -/
def bgEnableBit : Nat → Nat
  | 0 => 4
  | 1 => 9
  | 2 => 14
  | _ => 19

/-- The lowest bit of the interval exponent of background calibration n. -/
def bgExpLo : Nat → Nat
  | 0 => 0
  | 1 => 5
  | 2 => 10
  | _ => 15

/-- Background calibration n (0 DC, 1 IQ, 2 filter, 3 PA detector) is enabled. -/
def State.bgEnabled (s : State) (n : Nat) : Bool := s.bit Reg.RFE_BGCFG (bgEnableBit n)

/-- The length of a calibration step in ticks, by step number (R63). -/
def stepTicks : Nat → Nat
  | 0 => 36000
  | 1 => 36000
  | 2 => 4000
  | 3 => 24000
  | 4 => 12000
  | _ => 16000

/-- Background calibration n becomes due; one that is due already keeps the earlier moment (R63). -/
def State.bgDue (s : State) (n : Nat) : State :=
  if s.bgEnabled n && ! s.bit Reg.RFE_BGSTAT n then
    let s1 := s.setBit Reg.RFE_BGSTAT n true
    { s1 with rfe := { s1.rfe with bg := mapAt (fun b => { b with excess := 0 }) s1.rfe.bg n } }
  else s

/-- A step of RFE_TCAL degrees lies between two temperatures; a step of 0 never does (R61). -/
def State.tempStep (s : State) (a b : Int) : Bool :=
  let st := s.fld Reg.RFE_TCAL 0 5
  decide (st ≠ 0) && decide ((st : Int) ≤ (a - b).natAbs)

/-- A synthesiser calibration becomes due by temperature (R61). -/
def State.syDueByTemp (s : State) (sy1 : Bool) (t : Int) : State :=
  if s.syValid sy1 && s.tempStep t (s.syTemp sy1) then s.setBit Reg.RFE_BGSTAT (if sy1 then 5 else 4) true else s

/-- A temperature calibration becomes due at a sample (R63). -/
def State.bgDueByTemp (s : State) (n : Nat) (t : Int) : State :=
  match (s.rfe.bg.getD n {}).temp with
  | some t0 => if s.tempStep t t0 then s.bgDue n else s
  | none => s

/-- A temperature sample (R62): shown in RFE_TEMP, and calibrations become due by it. -/
def State.tempSample (s : State) (temp : BitVec 8) : State :=
  let t := signed 8 temp.toNat
  let s1 := s.setReg Reg.RFE_TEMP (BitVec.ofNat 24 temp.toNat)
  ((((s1.syDueByTemp false t).syDueByTemp true t).bgDueByTemp 1 t).bgDueByTemp 2 t).bgDueByTemp 3 t

/-- A synthesiser calibration is invalid or due. -/
def State.syNeedsCal (s : State) (sy1 : Bool) : Bool :=
  ! s.syValid sy1 || s.bit Reg.RFE_BGSTAT (if sy1 then 5 else 4)

/-- The grant end shown in RFE_GEND. -/
def State.gend (s : State) : Nat := (s.reg Reg.RFE_GEND).toNat

/-- A grant is open. -/
def State.granted (s : State) : Bool := s.bit Reg.RFE_GRANT 0

/-- A step fits: it ends at least 2 µs before the grant ends (R63). -/
def State.stepFits (s : State) (k : Nat) : Bool := decide (s.tb.phase + stepTicks k + 400 ≤ s.gend)

/-- The background steps that are due, the longest overdue first, ties in table order (R63). One that was due when RFE_BGCFG disabled it
stays due and runs (assumption 109). -/
def State.bgOrder (s : State) : List Nat :=
  let due := [0, 1, 2, 3].filter fun n => s.bit Reg.RFE_BGSTAT n
  let excess := fun n => (s.rfe.bg.getD n {}).excess
  due.foldl (fun acc n =>
    let hi := acc.takeWhile fun k => decide (excess n ≤ excess k)
    hi ++ n :: acc.drop hi.length) []

/-- The due steps in the order of R63, by step number. -/
def State.dueSteps (s : State) : List Nat :=
  (if s.syNeedsCal false then [0] else []) ++ (if s.bit Reg.RFE_CTL 1 && s.syNeedsCal true then [1] else [])
    ++ s.bgOrder.map (· + 2)

/-- The front end starts the next due step that fits in the grant (R63), while it is idle and no direct command is
open. -/
def State.startStep (s : State) : State :=
  if s.granted && s.path false == 1 && s.rfe.direct.isNone && s.rfe.step.isNone then
    match s.dueSteps.find? s.stepFits with
    | none => s
    | some 0 => State.setSince { s.setPath false 2 with rfe := { s.rfe with step := some 0 } } false
    | some 1 => State.setSince { s.setPath true (if s.path true == 1 then 2 else 7) with rfe := { s.rfe with step := some 1 } } true
    | some k => State.setSince { s.setPath false 7 with rfe := { s.rfe with step := some k } } false
  else s

/-! ## Frames: legality, bandwidth and duration (R75 to R79, R88, R92, R122) -/

/-- The time in ticks, to the nearest one, of a number of bits at the data rate of an MR-FSK operating mode (R76). -/
def fskTicks (opm bits : Nat) : Nat :=
  let kbps := ([50, 100, 150, 200, 200, 300, 400] : List Nat).getD opm 50
  (bits * 200000 + kbps / 2) / kbps

/-- Preamble octets (R77). -/
def State.fskPre (s : State) : Nat := min 1000 (max 4 (fieldOf s.phy.fsk 14 10))

/-- The programmable sync word replaces the SFD; under Generation-1 behaviour it never does (R78, R300). -/
def State.fskWord (s : State) : Bool := s.phy.fsk.getLsbD 13 && ! s.bit Reg.SYS_BOOTSTAT 13

/-- Sync-word bits of MR-FSK (R77, R78). -/
def State.fskSyncBits (s : State) : Nat :=
  if s.fskWord then
    let n := s.fld Reg.PHY_SYNCW1 8 6
    if 16 ≤ n ∧ n ≤ 32 then n else 32
  else 16

/-- Generation-1 behaviour is selected (R299). -/
def State.gen1 (s : State) : Bool := s.bit Reg.SYS_BOOTSTAT 13

/-- The rate in kbit/s of an MR-OFDM option and MCS, 0 where there is none (R79). -/
def ofdmRate (opt mcs : Nat) : Nat :=
  (([[100, 200, 400, 800, 0, 0, 0], [50, 100, 200, 400, 600, 800, 0], [0, 50, 100, 200, 300, 400, 600],
     [0, 0, 50, 100, 150, 200, 300]] : List (List Nat)).getD opt []).getD mcs 0

/-- A transmission in a mode is illegal: reserved mode, operating mode 7 or fec 0b11 in MR-FSK, an MR-OFDM
combination that does not exist, and MR-OFDM or Seam under Generation-1 behaviour (R76, R77, R79, R300). -/
def State.txModeIllegal (s : State) (mode : Nat) : Bool :=
  match mode with
  | 0 => fieldOf s.phy.fsk 0 3 == 7 || fieldOf s.phy.fsk 9 2 == 3
  | 1 => s.gen1 || ofdmRate (fieldOf s.phy.ofdm 4 2) (fieldOf s.phy.ofdm 0 3) == 0
  | 2 => s.gen1
  | _ => true

/-- A receive in a mode is illegal (R76, R77, R300). -/
def State.rxModeIllegal (s : State) (mode : Nat) : Bool :=
  match mode with
  | 0 => fieldOf s.phy.fsk 0 3 == 7 || (fieldOf s.phy.fsk 9 2 == 3 && s.phy.fsk.getLsbD 13 && ! s.gen1)
  | 1 => s.gen1
  | 2 => s.gen1
  | _ => true

/-- Occupied bandwidth in kHz (R75). -/
def State.bandwidth (s : State) (mode : Nat) : Nat :=
  match mode with
  | 0 => [100, 150, 225, 300, 200, 300, 400].getD (fieldOf s.phy.fsk 0 3) 0
  | 1 => [1094, 552, 281, 156].getD (fieldOf s.phy.ofdm 4 2) 0
  | _ => 1094

/-- Sync offset s in ticks (R122). -/
def State.syncOffset (s : State) (mode : Nat) (short : Bool) : Nat :=
  match mode with
  | 0 => fskTicks (fieldOf s.phy.fsk 0 3) (8 * s.fskPre + s.fskSyncBits)
  | 1 => 144000
  | _ => if short then 72000 else 120000

/-- Sync offset s in units of 0.625 ns, an eighth of a tick (R122): exact to the nearest one in MR-FSK. -/
def State.syncEighths (s : State) (mode : Nat) (short : Bool) : Nat :=
  match mode with
  | 0 => fskTicks (fieldOf s.phy.fsk 0 3) (8 * (8 * s.fskPre + s.fskSyncBits))
  | m => 8 * s.syncOffset m short

/-- The duration in ticks of a frame of `len` octets: in Seam by R82 with d data bits a symbol, in MR-FSK from the
preamble, sync word, PHR and payload, with 3 tail bits and padding to 16 bits where it is coded at rate 1/2, in MR-OFDM from the
training field, the PHR of 36 bits at the option's lowest rate and the payload at an MCS with 6 tail bits (assumption 14). -/
def State.frameTicksIn (s : State) (mode len d : Nat) (coded : Bool) (mcs : Nat) : Nat :=
  match mode with
  | 0 =>
    let bits := if coded then 2 * (16 * ceilDiv (16 + 8 * len + 3) 16) else 16 + 8 * len
    fskTicks (fieldOf s.phy.fsk 0 3) (8 * s.fskPre + s.fskSyncBits + bits)
  | 1 =>
    let opt := fieldOf s.phy.ofdm 4 2
    let bits := ofdmRate opt mcs * 120 / 1000
    let low := ([12, 6, 6, 6] : List Nat).getD opt 6
    144000 + ceilDiv 36 low * 24000 + ceilDiv (8 * len + 6) bits * 24000
  | _ => 168000 + ceilDiv (8 * len + 6) d * 24000

/-- The duration in ticks of a frame that the part sends: FEC and MCS as they are set (R77, R79). -/
def State.frameTicks (s : State) (mode len d : Nat) : Nat :=
  s.frameTicksIn mode len d (fieldOf s.phy.fsk 9 2 != 0) (fieldOf s.phy.ofdm 0 3)

/-- The external delay in units of 0.625 ns (R107). -/
def State.extDelay (s : State) : Int := signed 12 (s.fld Reg.PHY_EXTDLY 0 12)

/-- The PA ramp in ticks (R58): RFE_FEMCFG.ramp + 1 µs. -/
def State.rampTicks (s : State) : Nat := (s.fld Reg.RFE_FEMCFG 16 4 + 1) * 200

/-! ## Regulatory checks (R67 to R73) -/

/-- The profile is locked and its CRC-24 matches (R70). -/
def State.profileCrcOk (s : State) : Bool := decide (crc24 (s.rfe.otp.take 29) = (s.profileWord 29).toNat)

/-- A valid locked profile (R70). -/
def State.profileValid (s : State) : Bool := s.rfe.otpLocked && s.profileCrcOk

/-- The group maximum of channel g in dBm (R70). -/
def State.groupMax (s : State) (g : Nat) : Int :=
  min 20 (signed 6 (s.profileFld (20 + g / 16 / 4) (6 * (g / 16 % 4)) 6))

/-- External PA gain in dB (R70). -/
def State.extGain (s : State) : Int := (s.profileFld 28 8 8 : Nat)

/-- The VPA comparator after a sample, with its hysteresis (R68). -/
def vpaLowAfter (old : Bool) (mv : Nat) : Bool := if mv < 3000 then true else if 3050 ≤ mv then false else old

/-- The highest RF1 setting allowed (R67). -/
def State.powerLimit (s : State) (g : Nat) (low : Bool) : Int :=
  let lim := min (s.groupMax g) (signed 6 (s.fld Reg.RFE_PMAX 0 6)) - s.extGain
  min lim (if low then 14 else 20)

/-- The RF1 setting for a request (R67). -/
def State.powerSetting (s : State) (g : Nat) (low : Bool) (req : Int) : Int :=
  max (min (req - s.extGain) (s.powerLimit g low)) (-20)

/-- f(g) plus and minus half the bandwidth lies within one range of the profile (R71, check 5). -/
def State.inRange (s : State) (g bwKHz : Nat) : Bool :=
  let f := s.channelHz g
  let ok := fun (i : Nat) =>
    let lo := (s.profileWord i).toNat * 1000
    let hi := (s.profileWord (i + 1)).toNat * 1000
    ! (lo == 0 && hi == 0) && decide (lo + bwKHz * 500 ≤ f) && decide (f + bwKHz * 500 ≤ hi)
  ok 1 || ok 3

/-- The accounting window in seconds (R70, R72). -/
def State.dutyWindow (s : State) : Nat := min 3600 (max 1 (s.profileFld 25 0 12))

/-- The duty-cycle check refuses (R72). -/
def State.dutyRefuses (s : State) (air : Nat) : Bool :=
  let limit := s.profileFld 24 0 14
  if limit = 0 then true
  else if 10000 ≤ limit then false
  else decide (limit * s.dutyWindow * 200000000 < (s.rfe.duty.foldl (· + ·) 0 + air) * 10000)

/-- LBT applies to the group of channel g (R70, R73). -/
def State.lbtApplies (s : State) (g : Nat) : Bool :=
  (s.profileWord 27).getLsbD (g / 16) && decide (s.profileFld 26 0 16 ≠ 0)

/-- What a transmission is checked for (R71). -/
structure TxCheck where
  /-- Channel. -/
  g : Nat
  /-- Occupied bandwidth in kHz. -/
  bw : Nat
  /-- Air time in ticks. -/
  air : Nat
  /-- A continuous-wave test. -/
  cw : Bool
  /-- An acknowledgement. -/
  ack : Bool
  /-- Ticks from the end of SETTLE to the start of the ramp (R73). -/
  room : Nat
  deriving DecidableEq, Repr

/-- The ordered regulatory checks: the cause of the first that fails (R71). -/
def State.regCause (s : State) (c : TxCheck) (env : AirEnv) : Option Nat :=
  let low := vpaLowAfter (s.bit Reg.RFE_STAT 0) env.vpa
  if ! c.cw && ! s.bit Reg.PHY_CTL 0 then some 10
  else if s.standby then some 9
  else if ! s.profileValid then some 7
  else if ! (s.profileWord (9 + c.g / 24)).getLsbD (c.g % 24) then some 1
  else if ! s.inRange c.g c.bw then some 2
  else if s.powerLimit c.g low < -20 then some 8
  else if env.vpa < 1750 then some 6
  else if s.dutyRefuses c.air then some 3
  else if c.ack || ! s.lbtApplies c.g then none
  else if c.room < (s.profileFld 26 0 16 + 12) * 200 then some 5
  else if signed 8 (s.profileFld 26 16 8) ≤ (if s.rfe.mode = 1 then max env.lbt env.lbtB else env.lbt) then some 4
  else none

/-- The VPA comparator is sampled at a ramp (R68, R278). -/
def State.vpaSample (s : State) (mv : Nat) : State :=
  let low := vpaLowAfter (s.bit Reg.RFE_STAT 0) mv
  let s1 := (s.setBit Reg.RFE_STAT 0 low).setBit Reg.SYS_SUPSTAT 2 low
  if low && s1.bit Reg.SYS_SUPCTL 8 then s1.flagRaise Reg.SYS_SUPSTAT 0 83 else s1

/-- RFE_TXSTAT takes an outcome. -/
def State.txStat (s : State) (status cause : Nat) (clamp src : Bool) (p : Int) : State :=
  s.setReg Reg.RFE_TXSTAT (BitVec.ofNat 24
    (status * 65536 + cause * 4096 + b2n clamp * 2048 + b2n src * 1024 + (wordOfInt p).toNat % 64))

/-- The ticks of the transmission on the air that no sub-window has counted yet (R72). -/
def State.airSoFar (s : State) : Nat :=
  match s.rfe.tx with
  | some t => s.tb.count.toNat - t.start - t.counted
  | none => 0

/-- The air time used, the transmission on the air included (R72). -/
def State.airUsed (s : State) : Nat := s.rfe.duty.foldl (· + ·) 0 + s.airSoFar

/-- RFE_DUTYUSED shows the time used in units of 100 µs (R72). -/
def State.dutyWord (s : State) : Word := BitVec.ofNat 24 (s.airUsed / 20000)

/-- RFE_DUTYUSED takes the time used. -/
def State.syncDuty (s : State) : State := s.setReg Reg.RFE_DUTYUSED s.dutyWord

/-- Air time is counted in the current sub-window (R72). -/
def State.countAir (s : State) (air : Nat) : State :=
  State.syncDuty { s with rfe := { s.rfe with duty := mapAt (· + air) s.rfe.duty 0 } }

/-- Entry p + 20 of the PA power table of the band of a channel (R66, R67). -/
def State.paEntry (s : State) (g : Nat) (p : Int) : Word :=
  let i := (p + 20).toNat
  s.reg (if inHighBand (s.channelHz g) then Reg.RFE_PAT1 i else Reg.RFE_PAT0 i)

/-- The checks of R71 run and the power is derived by R67: either the transmission is refused, or path 0 enters TX and the PA takes
its table entry. The ramp begins `turn` ticks on, and sync gives the ticks in eighths from there to the sync point. The VPA
comparator is sampled also where the transmission is refused and no ramp follows, and RFE_TXSTAT.status keeps the status of the
transmission before while this one is on the air (assumptions 110, 111). The Bool says whether it started. -/
def State.startTx (s : State) (c : TxCheck) (direct : Bool) (req : Int) (thenRx : Bool) (turn sync : Nat) (env : AirEnv) :
    Bool × State :=
  let low := vpaLowAfter (s.bit Reg.RFE_STAT 0) env.vpa
  let s1 := s.vpaSample env.vpa
  match s.regCause c env with
  | some cause => (false, s1.txStat 4 cause false direct 0)
  | none =>
    let p := s.powerSetting c.g low req
    let s2 := (s1.txStat (s1.fld Reg.RFE_TXSTAT 16 8) 0 (decide (p ≠ req - s.extGain)) direct p).setPath false 5
    let start := s.tb.count.toNat + turn
    (true, { s2 with rfe := { s2.rfe with
      pa := s.paEntry c.g p
      tx := some { direct := direct, ack := c.ack, sending := false, air := c.air, thenRx := thenRx, start := start
                   sync := 8 * start + sync } } })

/-- Registers from an address take the words of a list. -/
def State.setRegs (s : State) (a : Nat) : List Word → State
  | [] => s
  | w :: ws => (s.setReg a w).setRegs (a + 1) ws

/-- The status of RFE_TXSTAT alone. -/
def State.txStatus (s : State) (status : Nat) : State := s.setFld Reg.RFE_TXSTAT 16 8 status

/-- A transmission that never began for want of a lock: its status, of the sequencer or of a direct command. -/
def State.txNotBegun (s : State) (status : Nat) (direct : Bool) : State := s.txStat status 0 false direct 0

/-- PHY_TXTS takes the transmit sync point (R107, R108). -/
def State.latchTx (s : State) (n : Nat) : State :=
  (s.setRegs (Reg.PHY_TXTS 0) (toWords 3 (n / 8))).setReg Reg.PHY_TXTSF (BitVec.ofNat 24 (n % 8 * 2 ^ 21))

/-- The sync point of a transmission is latched where it has passed (R108). -/
def State.latchSync (s : State) (t : AirTx) (whole : Bool) : State :=
  if t.air ≠ 0 ∧ (whole = true ∨ t.sync ≤ 8 * s.tb.count.toNat) then s.latchTx t.sync else s

/-- The transmission on the air changed. -/
def State.mapTx (s : State) (f : AirTx → AirTx) : State := { s with rfe := { s.rfe with tx := s.rfe.tx.map f } }

/-- The state with the sync point of the transmission on the air latched, where it has come (R108). -/
def State.latchPassed (s : State) : State :=
  match s.rfe.tx with
  | some t => s.latchSync t false
  | none => s

/-- A transmission leaves the air, the rest of its air time counted to the end of the ramp-down, or to now where there is none; a cw,
and a frame that is cut short, count from the start of their ramp (R72). Its sync point is latched where it has come (R108). -/
def State.endTx (s : State) (status : Nat) (ramp : Bool := true) : State :=
  match s.rfe.tx with
  | none => s
  | some t =>
    let past := s.tb.count.toNat - t.start + (if ramp then s.rampTicks else 0)
    let air := if t.air = 0 then past else if status = 1 then t.air else min t.air past
    let s1 := (s.txStatus status).latchSync t (status == 1)
    State.countAir { s1 with rfe := { s1.rfe with tx := none } } (air - t.counted)

/-! ## Direct commands (R64, R65, R471) -/

/-- Receptions end, delivering nothing: the cells that the Hopper held for them return. -/
def State.dropRx (s : State) (p : PhyRx → Bool) : State :=
  let s1 := (s.phy.rx.filter p).foldl (fun s r => if r.cells.isEmpty then s else s.freeFrame { cells := r.cells, olen := 0 }) s
  { s1 with phy := { s1.phy with rx := s1.phy.rx.filter fun r => ! p r } }

/-- Whatever survey sample was in progress is discarded, and the next one begins no earlier than now (R94). -/
def State.surveyAnew (s : State) : State :=
  { s with phy := { s.phy with svyA := s.tb.count.toNat, svyB := s.tb.count.toNat } }

/-- The open direct command ends with a status (R64); survey sampling resumes (R94). -/
def State.directEnd (s : State) (status : Nat) : State :=
  let s1 := State.surveyAnew (State.dropRx { s with rfe := { s.rfe with direct := none } } PhyRx.direct)
  ((s1.setBit Reg.RFE_DSTAT 23 false).setFld Reg.RFE_DSTAT 0 8 status).raise 58

/-- The window end DWE. -/
def State.dwe (s : State) : Nat := (s.reg Reg.RFE_DWE).toNat

/-- The window start DWS. -/
def State.dws (s : State) : Nat := (s.reg Reg.RFE_DWS).toNat

/-- The ticks that what runs on a path, or occupies the front end, still takes (R58, R63, R65): the calibration or settling of the
path, or the step; none where the path is OFF and no bias start runs, since it then leaves OFF for no command (R58, R60). -/
def State.busyTicks (s : State) (sy1 : Bool) : Option Nat :=
  let left := fun (p1 : Bool) (d : Nat) => s.since p1 + d - s.tb.count.toNat
  if s.path sy1 = 0 then
    (if (if sy1 then s.rfe.bias1 else s.rfe.bias0) then some 6000 else none)
  else if s.path sy1 = 2 then some (left sy1 36000)
  else if s.path sy1 = 3 then some (left sy1 12000)
  else match s.rfe.step with
    | some k => some (left (k == 1) (stepTicks k))
    | none => some 0

/-- The ticks that a direct command needs from an idle path to a lock (R58, R62): a tune always settles, the other commands use a lock
on their channel. -/
def State.lockTicks (s : State) (sy1 : Bool) (g : Nat) (tune : Bool) : Nat :=
  if s.syNeedsCal sy1 then 36000 + 12000
  else if ! tune && s.syLocked sy1 && (if sy1 then s.rfe.chan1 else s.rfe.chan0) == g then 0
  else 12000

/-- The slot phase at which a direct command would have its lock, or its calibration its end; none where it never has
(R58, R64, R65). -/
def State.lockPhase (s : State) (d : DirectCmd) : Option Nat :=
  (s.busyTicks d.sy1).map fun b => s.tb.phase + b + (if d.op = 5 then 36000 else s.lockTicks d.sy1 d.chan (d.op == 1))

/-- The mode of direct commands. -/
def State.dmode (s : State) : Nat := s.fld Reg.PHY_CTL 2 2

/-- The fields of a direct command word. -/
def directOf (v : Word) (flen : Nat) : DirectCmd :=
  { op := fieldOf v 21 3, sy1 := v.getLsbD 20, pwr := signed 6 (fieldOf v 14 6), chan := fieldOf v 0 8, flen := flen
    held := true, started := false }

/-- The ticks between the end of SETTLE and the planned start of the ramp of a direct command, as it lands (R64, R73). -/
def State.directRoom (s : State) (d : DirectCmd) : Nat :=
  let start := max s.dws s.tb.phase
  match s.busyTicks d.sy1, s.lockTicks d.sy1 d.chan false with
  | some 0, 0 => (start - s.tb.phase) + (s.tb.count.toNat - s.rfe.settled)
  | some b, l => s.dws - (s.tb.phase + b + l)
  | none, _ => 0

/-- What the checks of R71 take of a direct transmit or cw, with the room between its lock and its ramp. -/
def State.directCheck (s : State) (d : DirectCmd) (room : Nat) : TxCheck :=
  let dur := if d.op = 4 then 0 else s.frameTicks s.dmode d.flen 24
  { g := d.chan, bw := if d.op = 4 then 0 else s.bandwidth s.dmode, air := if d.op = 4 then 0 else dur + 2 * s.rampTicks
    cw := d.op == 4, ack := false, room := room }

/-- A direct command cannot end before RFE_GEND, counted as check 3 of R64 states. -/
def State.directTooLong (s : State) (d : DirectCmd) : Bool :=
  if d.op = 1 ∨ d.op = 5 then
    match s.lockPhase d with
    | some p => decide (s.gend ≤ p)
    | none => true
  else if d.op = 3 then decide (s.gend ≤ s.dwe + s.frameTicks s.dmode d.flen 24 + 2 * s.rampTicks)
  else false

/-- The lock comes only after DWE (check 6 of R64). -/
def State.directLateLock (s : State) (d : DirectCmd) : Bool :=
  match s.lockPhase d with
  | some p => decide (s.dwe < p)
  | none => true

/-- The first check of R64 that fails, and the cause of a regulatory refusal. -/
def State.directFails (s : State) (d : DirectCmd) (env : AirEnv) : Option (Nat × Nat) :=
  let windowed := d.op == 2 || d.op == 3 || d.op == 4
  let sends := d.op == 3 || d.op == 4
  if d.op == 6 || d.op == 7 || (sends && d.sy1) || ((d.op == 1 || d.op == 2) && d.sy1 && ! (s.rfe.mode == 2))
      || (sends && (decide (d.pwr < -20) || decide (20 < d.pwr))) || (windowed && decide (s.dwe < s.dws))
      || (decide (d.op ≠ 5) && ! s.tunable d.chan) || (d.op == 3 && s.txModeIllegal s.dmode)
      || (d.op == 2 && s.rxModeIllegal s.dmode) then some (7, 0)
  else if ! s.bit Reg.RFE_CTL 0 || (d.sy1 && ! s.bit Reg.RFE_CTL 1) then some (4, 0)
  else if ! s.granted || s.directTooLong d then some (3, 0)
  else if windowed && decide (s.dwe < s.tb.phase) then some (5, 0)
  else match (if sends then s.regCause (s.directCheck d (s.directRoom d)) env else none) with
    | some c => some (4, c)
    | none => if windowed && s.directLateLock d then some (6, 0) else none

/-- A receive of the physical layer begins (R74). -/
def State.openRx (s : State) (mode chan hop : Nat) (direct chB forAck : Bool) : State :=
  let s1 := s.dropRx fun r => r.chB == chB
  { s1 with phy := { s1.phy with rx := s1.phy.rx ++
      [{ mode := mode, direct := direct, chB := chB, forAck := forAck, chan := chan, hop := hop }] } }

/-- The hopping-list entry of a tuned channel: the first that holds it (assumption 112). -/
def State.entryOf (s : State) (chan : Nat) : Option Nat := (List.range s.slot.hopLen).find? fun e => s.hopEntry e == chan

/-- A direct receive, transmit or cw starts (R64, R65); a receive that starts with PHY_CTL.en at 0 detects nothing (R470). -/
def State.directStart (s : State) (d : DirectCmd) (env : AirEnv) : State :=
  let run := { s with rfe := { s.rfe with direct := some { d with held := false, started := true } } }
  let check := s.directCheck d (s.tb.count.toNat - s.rfe.settled)
  let sync := (((8 * s.rampTicks + s.syncEighths s.dmode false : Nat) : Int) + s.extDelay).toNat
  match d.op with
  | 2 =>
    let r := run.setPath d.sy1 4
    if s.bit Reg.PHY_CTL 0 then r.openRx s.dmode d.chan ((s.entryOf d.chan).getD noEntry) true d.sy1 false else r
  | 3 => let r := run.startTx check true d.pwr false 0 sync env; if r.1 then r.2 else r.2.directEnd 4
  | 4 => let r := run.startTx check true d.pwr false 0 sync env; if r.1 then r.2 else r.2.directEnd 4
  | _ => run
where
  /-- An entry beyond the hopping list, for a channel that stands in none. -/
  noEntry : Nat := 72

/-- The open direct command goes on once its path is IDLE and no step occupies the front end (R58, R62, R65): it calibrates, settles, or
waits for its start. -/
def State.directProceed (s : State) : State :=
  match s.rfe.direct with
  | none => s
  | some d =>
    if ! d.held || d.started || s.rfe.step.isSome || (s.tuneOf d.sy1).isSome || s.path d.sy1 != 1 then s
    else if d.op = 5 then
      { s.calibrate d.sy1 with rfe := { (s.calibrate d.sy1).rfe with direct := some { d with held := false, started := true } } }
    else if s.syNeedsCal d.sy1 then (s.calibrate d.sy1).setTune d.sy1 (some (d.chan, true))
    else if s.lockTicks d.sy1 d.chan (d.op == 1) = 0 then s
    else s.settle d.sy1 d.chan true

/-- A direct command that has passed its checks is open: it starts at once, or it is held for a calibration, a step, a lock or DWS
(R64, R65). -/
def State.directOpen (s : State) (d : DirectCmd) (env : AirEnv) : State :=
  let s1 := { (s.setBit Reg.RFE_DSTAT 23 true) with rfe := { s.rfe with direct := some d } }
  if decide (d.op ≠ 1) && decide (d.op ≠ 5) && s.path d.sy1 == 1 && s.rfe.step.isNone && decide (s.dws ≤ s.tb.phase)
      && s.lockTicks d.sy1 d.chan false == 0 then s1.directStart d env
  else s1.directProceed

/-- A write of RFE_DCMD other than a stop (R64): refused as BUSY while a command is open, ended by the first check that
fails, or opened. The temperature is sampled at a command that passes the first two checks (R62); a survey sample in progress is
abandoned (R94). -/
def State.directCommand (s : State) (v : Word) (temp : BitVec 8) (flen : Nat) (env : AirEnv) : State :=
  let s0 := s.surveyAnew.setReg Reg.RFE_DCMD (v &&& 0xFFC0FF#24)
  let d := directOf v flen
  if s.rfe.direct.isSome then (s0.setFld Reg.RFE_DSTAT 0 8 3).raise 58
  else
    match s0.directFails d env with
    | some (7, _) => s0.directEnd 7
    | some (4, 0) => s0.directEnd 4
    | _ =>
      let s1 := if d.op == 5 then s0 else s0.tempSample temp
      match s1.directFails d env with
      | some (4, c) => (s1.txStat 4 c false true 0).directEnd 4
      | some (6, _) => (if d.op = 2 then s1 else s1.txNotBegun 6 true).directEnd 6
      | some (st, _) => s1.directEnd st
      | none => s1.directOpen d env

/-- A write of RFE_DCMD with op 0b000 (R471): with no command open it changes nothing. -/
def State.directStop (s : State) (v : Word) : State :=
  let s0 := s.setReg Reg.RFE_DCMD (v &&& 0xFFC0FF#24)
  match s.rfe.direct with
  | none => s
  | some d =>
    if d.op = 1 ∨ d.op = 5 then s0
    else if d.held then (s0.setTune d.sy1 none).directEnd 2
    else if d.op = 2 then (s0.setPath d.sy1 1).directEnd 1
    else if d.op = 4 then ((s0.endTx 1).setPath false 1).directEnd 1
    else ((s0.endTx 2).setPath false 1).directEnd 2

/-! ## First results (R63) -/

/-- A temperature-less background calibration is due from the moment the front end is enabled (R63). -/
def State.bgFirst (s : State) (n : Nat) : State :=
  if (s.rfe.bg.getD n {}).temp.isNone then s.bgDue n else s

/-! ## The FEM lines (R69) -/

/-- The ticks from now to the start of the PA ramp that is due: of a transmission that turns; none where no ramp is on its way. -/
def State.toRamp (s : State) : Option Nat := s.rfe.tx.map fun t => t.start - s.tb.count.toNat

/-- The code of the FEM lines FEM_PA, FEM_LNA and FEM_BYP with the ticks to the next ramp given, before the polarity (R69). -/
def State.femCode (s : State) (ramp : Option Nat) : Bool × Bool × Bool :=
  let bypass := (false, false, true)
  let lead := match ramp with
    | some d => decide (d ≤ s.fld Reg.RFE_FEMCFG 20 4 * 200)
    | none => false
  if ! s.bit Reg.RFE_FEMCFG 0 || s.bit Reg.SYS_CLKSTAT 17 then bypass
  else if s.path false = 5 ∨ (lead = true ∧ s.path false ≠ 0) then (true, false, false)
  else if s.path false = 4 then (false, true, false)
  else bypass

/-- The levels of the pads FEM_PA, FEM_LNA and FEM_BYP (R60, R69, R267): the code, inverted where pol is 1, the bypass code too
(assumption 113). -/
def State.femPads (s : State) : Bool × Bool × Bool :=
  let c := s.femCode s.toRamp
  let pol := s.bit Reg.RFE_FEMCFG 1
  (c.1 != pol, c.2.1 != pol, c.2.2 != pol)

/-! ## What the paths show, and the commands of the front end alone -/

/-- RFE_STAT as a read finds it: in single and diversity modes path 1 shows BGCAL while SY1 calibrates, and OFF otherwise (R58). -/
def State.rdRfeStat (s : State) : Word :=
  let cal := s.path true == 2 || s.path true == 7
  if s.rfe.mode = 2 then s.reg Reg.RFE_STAT else withField (s.reg Reg.RFE_STAT) 16 4 (if cal then 7 else 0)

/-- The transmission in progress blanks chain A, and chain B unless it has RF2 to itself in dual-channel mode with btx set (R57). -/
def State.blanked (s : State) (chB : Bool) : Bool :=
  (s.rfe.tx.isSome || s.path false == 6) &&
    ! (chB && s.rfe.chain.getLsbD 3 && ! s.rfe.chain.getLsbD 2 && s.rfe.mode == 2)

/-- A write of RFE_CHAIN (R55): mode 0b11 is ignored, and the mode stays as it was while the other fields are stored (assumption
105). -/
def State.wrRfeChain (s : State) (v : Word) : State :=
  s.storeReg Reg.RFE_CHAIN (if fieldOf v 0 2 = 3 then withField v 0 2 (s.fld Reg.RFE_CHAIN 0 2) else v)

/-- The antenna port that a chain takes: 1 RF1, 2 RF2 (R55). -/
def State.portOf (s : State) (chB : Bool) : Nat := if chB && ! s.rfe.chain.getLsbD 2 then 2 else 1

/-- The loss of the splitter in tenths of a dB, which both chains have while chain B takes RF1 (R55). -/
def State.splitLoss (s : State) : Nat := if s.rfe.chain.getLsbD 2 && s.rfe.mode != 0 then 35 else 0

/-- BIAS_START_DONE (R58): the path enters IDLE with a valid calibration, SYNTH_CAL otherwise; a held direct command goes on. -/
def execBiasStartDone (p1 : Bool) (s : State) : Host.Outcome State Fault Refusal :=
  let running := if p1 then s.rfe.bias1 else s.rfe.bias0
  if running then
    let s1 := { s with rfe := if p1 then { s.rfe with bias1 := false } else { s.rfe with bias0 := false } }
    .next (if s.syValid p1 then (s1.setPath p1 1).directProceed else s1.calibrate p1)
  else .next s

/-- SYNTH_CAL_DONE (R58, R61): 180 µs after its start the temperature is recorded, the calibration valid and no longer due; the path
settles on the channel that waits, or goes to IDLE; a direct calibrate ends with DONE; a held command goes on, or the next due step
that fits starts. -/
def execSynthCalDone (sy1 : Bool) (temp : BitVec 8) (s0 : State) : Host.Outcome State Fault Refusal :=
  if s0.path sy1 == 2 || (sy1 && s0.rfe.step == some 1) then
    let s := s0.advanceCount (s0.since sy1 + 36000)
    let s1 := (s.setSyValid sy1 true).setFld Reg.RFE_SYSTAT (if sy1 then 8 else 0) 8 temp.toNat
    let s2 := (s1.setBit Reg.RFE_SYSTAT (lockBit sy1) false).setBit Reg.RFE_BGSTAT (if sy1 then 5 else 4) false
    let idle := if s.path sy1 == 7 then 0 else 1
    let step := if s2.rfe.step == some (if sy1 then 1 else 0) then none else s2.rfe.step
    let s3 := { s2 with rfe := { s2.rfe with step := step } }
    match s3.tuneOf sy1 with
    | some (g, d) => .next (s3.settle sy1 g d)
    | none =>
      let s4 := (s3.setPath sy1 idle).surveyAnew
      match s4.rfe.direct with
      | some d => .next (if d.op = 5 ∧ d.sy1 = sy1 ∧ d.started = true then s4.directEnd 1 else s4.directProceed).startStep
      | none => .next s4.startStep
  else .next s0

/-- PA_RAMP_DONE (R58): the ramp time has passed, and the first symbol of the transmission follows. -/
def execPaRampDone (s0 : State) : Host.Outcome State Fault Refusal :=
  match s0.rfe.tx with
  | some t =>
    if t.sending then .next s0
    else
      let s := s0.advanceCount (t.start + s0.rampTicks)
      .next { s with rfe := { s.rfe with tx := some { t with sending := true } } }
  | none => .next s0

/-- BGCAL_STEP_DONE (R58, R63): the step's length has passed, the path returns to IDLE, the calibration is no longer due; a held
direct command goes on, or the next step that fits begins. -/
def execBgcalStepDone (temp : BitVec 8) (s0 : State) : Host.Outcome State Fault Refusal :=
  match s0.rfe.step with
  | some (k + 2) =>
    let s := s0.advanceCount (s0.since false + stepTicks (k + 2))
    let s1 := (s.setPath false 1).setBit Reg.RFE_BGSTAT k false
    let s2 := State.surveyAnew { s1 with rfe := { s1.rfe with
      step := none, bg := setAt { temp := some (signed 8 temp.toNat), age := 0, excess := 0 } s1.rfe.bg k } }
    .next s2.directProceed.startStep
  | _ => .next s0

/-- BGCAL_INTERVAL_DUE (R63): 2^k slots after its last completion an interval calibration becomes due. -/
def execBgcalIntervalDue (n : Fin 4) (s : State) : Host.Outcome State Fault Refusal :=
  let b := s.rfe.bg.getD n.val {}
  if b.temp.isSome ∧ 2 ^ s.fld Reg.RFE_BGCFG (bgExpLo n.val) 4 ≤ b.age then .next (s.bgDue n.val).startStep else .next s

/-- DIRECT_STOP (R471). -/
def execDirectStop (v : Word) (s : State) : Host.Outcome State Fault Refusal :=
  .next (s.onBlock Reg.RFE_DCMD fun s => s.directStop v)

/-- DIRECT_TUNE (R64): OK at lock. -/
def execDirectTune (v : Word) (temp : BitVec 8) (s : State) : Host.Outcome State Fault Refusal :=
  .next (s.onBlock Reg.RFE_DCMD fun s => s.directCommand (withField v 21 3 1) temp 0 { vpa := 0, lbt := 0 })

/-- DIRECT_RECEIVE (R64). -/
def execDirectReceive (v : Word) (temp : BitVec 8) (s : State) : Host.Outcome State Fault Refusal :=
  .next (s.onBlock Reg.RFE_DCMD fun s => s.directCommand (withField v 21 3 2) temp 0 { vpa := 0, lbt := 0 })

/-- DIRECT_TRANSMIT (R64). -/
def execDirectTransmit (v : Word) (temp : BitVec 8) (flen : Nat) (env : AirEnv) (s : State) :
    Host.Outcome State Fault Refusal :=
  .next (s.onBlock Reg.RFE_DCMD fun s => s.directCommand (withField v 21 3 3) temp flen env)

/-- DIRECT_CW (R64). -/
def execDirectCw (v : Word) (temp : BitVec 8) (env : AirEnv) (s : State) : Host.Outcome State Fault Refusal :=
  .next (s.onBlock Reg.RFE_DCMD fun s => s.directCommand (withField v 21 3 4) temp 0 env)

/-- DIRECT_CALIBRATE (R64): DONE when the calibration ends. -/
def execDirectCalibrate (v : Word) (s : State) : Host.Outcome State Fault Refusal :=
  .next (s.onBlock Reg.RFE_DCMD fun s => s.directCommand (withField v 21 3 5) 0#8 0 { vpa := 0, lbt := 0 })

/-- The part of the transmission on the air that lies in the current sub-window is counted in it (R72). -/
def State.splitAir (s : State) : State :=
  let so := s.airSoFar
  { s with rfe := { s.rfe with
      duty := mapAt (· + so) s.rfe.duty 0, tx := s.rfe.tx.map fun t => { t with counted := t.counted + so } } }

/-- DUTY_SUBWINDOW_END (R72): a transmission on the air counts up to now in the sub-window that ends, and the oldest sub-window leaves
the sum. -/
def execDutySubwindowEnd (s : State) : Host.Outcome State Fault Refusal :=
  let s1 := s.splitAir
  .next (State.syncDuty { s1 with rfe := { s1.rfe with duty := 0 :: s1.rfe.duty.take 15 } })

/-- RFE_RPSTAT as the OTP cells and the operation in progress make it. -/
def State.syncRp (s : State) : State :=
  ((s.setBit Reg.RFE_RPSTAT 23 s.rfe.otpLocked).setBit Reg.RFE_RPSTAT 22 s.rfe.prof.isSome).setBit
    Reg.RFE_RPSTAT 21 s.profileCrcOk

/-- A keyed write of RFE_RPCTL (R70): ignored with another key, while the profile is locked or an operation runs. -/
def State.wrRpctl (s : State) (v : Word) : State :=
  if fieldOf v 16 8 ≠ 0x97 ∨ s.rfe.otpLocked = true ∨ s.rfe.prof.isSome = true then s
  else if fieldOf v 14 2 = 1 ∧ fieldOf v 0 5 < 30 then
    State.syncRp { s with rfe := { s.rfe with prof := some (.program (fieldOf v 0 5) (s.reg Reg.RFE_RPDATA)) } }
  else if fieldOf v 14 2 = 2 then State.syncRp { s with rfe := { s.rfe with prof := some .lock } }
  else s

/-- RPCTL_PROGRAM (R70). -/
def execRpctlProgram (v : Word) (s : State) : Host.Outcome State Fault Refusal := 
  .next (s.onBlock Reg.RFE_RPCTL fun s => s.wrRpctl v)

/-- RPCTL_LOCK (R70). -/
def execRpctlLock (v : Word) (s : State) : Host.Outcome State Fault Refusal := 
  .next (s.onBlock Reg.RFE_RPCTL fun s => s.wrRpctl v)

/-- A profile operation ends (R70): OTP bits only change from 0 to 1, so a word with a bit that cannot return to 0 reads back
unequal and sets perr; a lock needs a matching CRC-24, else lkerr. -/
def State.profileOp (s : State) : State :=
  match s.rfe.prof with
  | none => s
  | some (.program i w) =>
    let r := s.profileWord i ||| w
    let s1 := State.syncRp { s with rfe := { s.rfe with otp := setAt r s.rfe.otp i, prof := none } }
    s1.setBit Reg.RFE_RPSTAT 20 (decide (r ≠ w))
  | some .lock =>
    let ok := s.profileCrcOk
    let s1 := State.syncRp { s with rfe := { s.rfe with otpLocked := ok, prof := none } }
    s1.setBit Reg.RFE_RPSTAT 19 (! ok)

/-- PROFILE_OP_DONE (R70). -/
def execProfileOpDone (s : State) : Host.Outcome State Fault Refusal := .next s.profileOp

end Sys2Proof.Machine
end

