-- ==== Sys2Proof/Machine/Slot.lean ====
section
/-! DEFINITION. The slot engine (chapter 05): ASN, hopping list, slotframes and walker, templates, the slot-program contract,
results and time synchronisation, and its commands. -/
namespace Sys2Proof.Machine

/-! ## Hopping (R114) -/

/-- The class of hopping-list entry e (R93). -/
def State.hopClass (s : State) (e : Nat) : Nat := fieldOf (s.phy.classmap.getD (e / 12) 0#24) (22 - 2 * (e % 12)) 2

/-! ## Slotframes and the walker (R115 to R119) -/

/-- The two words of cell i, as the walker's port reads them (R15, R116, R117). -/
def State.cellWords (s : State) (i : Nat) : Word × Word :=
  (s.radioWord ((s.reg Reg.SLOT_CTBASE).toNat + 2 * i), s.radioWord ((s.reg Reg.SLOT_CTBASE).toNat + 2 * i + 1))

/-- The type of a cell: 0 off, 1 transmit, 2 receive, 3 shared (R116). -/
def cellType (w1 : Word) : Nat := fieldOf w1 22 2

/-- Advertising cell. -/
def cellAdv (w1 : Word) : Bool := w1.getLsbD 21

/-- Transmissions of the cell request an acknowledgement. -/
def cellAck (w1 : Word) : Bool := w1.getLsbD 20

/-- Mode of the cell. -/
def cellMode (w1 : Word) : Nat := fieldOf w1 18 2

/-- Queue of the cell. -/
def cellQueue (w1 : Word) : Nat := fieldOf w1 8 5

/-- Neighbour of the cell. -/
def cellNbr (w1 : Word) : Nat := fieldOf w1 0 8

/-- The cell uses the Standard template. -/
def cellStd (w1 : Word) : Bool := w1.getLsbD 13

/-- What a search of one slotframe finds: a candidate's index, and whether two cells were out of order (R118). -/
def State.searchCells (s : State) (t : Nat) (i prev : Nat) : Nat → Option Nat × Bool
  | 0 => (none, false)
  | n + 1 =>
    let so := fieldOf (s.cellWords i).1 8 16
    if so < prev then (none, true)
    else if so = t then (some i, false)
    else if t < so then (none, false)
    else s.searchCells t (i + 1) so n

/-- Slotframe n is enabled (R115). -/
def State.sfEnabled (s : State) (n : Nat) : Bool :=
  (s.slot.sfLen.getD n 0#24).getLsbD 23 && decide (1 ≤ fieldOf (s.slot.sfLen.getD n 0#24) 0 16)

/-- The candidate of slotframe n for the slot with an ASN, and whether it is out of order or out of range (R115, R118). -/
def State.sfCandidate (s : State) (asn n : Nat) : Option NextCell × Bool :=
  if ! s.sfEnabled n then (none, false)
  else
    let base := fieldOf (s.slot.sfCells.getD n 0#24) 12 12
    let cnt := fieldOf (s.slot.sfCells.getD n 0#24) 0 12 + 1
    if 4096 < base + cnt then (none, true)
    else
      let r := s.searchCells (asn % fieldOf (s.slot.sfLen.getD n 0#24) 0 16) base 0 cnt
      (r.1.map fun i => { sf := n, cell := i, w0 := (s.cellWords i).1, w1 := (s.cellWords i).2, rx := false }, r.2)

/-- The candidates of the enabled slotframes, lowest number first. -/
def State.candidates (s : State) (asn : Nat) : List NextCell := (List.range 8).filterMap fun n => (s.sfCandidate asn n).1

/-- The CSMA-CA backoff of a queue (R119). -/
def State.backoff (s : State) (q : Nat) : Backoff := s.slot.csma.getD q {}

/-- The queue of a cell is eligible for its neighbour (R163). -/
def State.cellEligible (s : State) (w1 : Word) : Bool := s.qEligible (cellQueue w1) (cellNbr w1)

/-- A shared cell whose backoff has not expired (R119). -/
def State.backedOff (s : State) (w1 : Word) : Bool :=
  cellType w1 == 3 && ! cellAdv w1 && decide (0 < (s.backoff (cellQueue w1)).wait)

/-- The walker chooses a candidate to transmit in: rule 1 of R119. -/
def State.choosesTx (s : State) (c : NextCell) : Bool :=
  (cellType c.w1 == 1 || cellType c.w1 == 3) && (cellAdv c.w1 || s.cellEligible c.w1) && ! s.backedOff c.w1

/-- The walker chooses a candidate to receive in: rule 2 of R119. -/
def choosesRx (c : NextCell) : Bool := cellType c.w1 == 2 || cellType c.w1 == 3

/-- The walker's choice among candidates (R119). -/
def State.choose (s : State) (cs : List NextCell) : Option NextCell :=
  match cs.find? s.choosesTx with
  | some c => some c
  | none => (cs.find? choosesRx).map fun c => { c with rx := true }

/-- A shared candidate that is passed over counts in its queue's backoff (R119). -/
def State.passShared (s : State) (cs : List NextCell) : State :=
  cs.foldl (fun s c => if s.backedOff c.w1 && s.cellEligible c.w1 then
    { s with slot := { s.slot with csma := mapAt (fun b => { b with wait := b.wait - 1 }) s.slot.csma (cellQueue c.w1) } }
    else s) s

/-- The walker looks up the next slot (R118, R119): SLOT_NEXT0, SLOT_NEXT1 and source 51. -/
def State.lookup (s : State) : State :=
  let asn := (s.slot.asn + 1#40).toNat
  let cs := s.candidates asn
  let bad := (List.range 8).any fun n => (s.sfCandidate asn n).2
  let c := s.choose cs
  let s1 := if bad then s.flagRaise Reg.SLOT_STAT 3 55 else s
  let w := match c with
    | none => (0xC00000#24, 0#24)
    | some c =>
      let i := s.hopIndex asn (fieldOf c.w0 2 6)
      (BitVec.ofNat 24 (0x800000 + c.sf * 2 ^ 19 + c.cell),
        BitVec.ofNat 24 (b2n (s.cellEligible c.w1) * 0x800000 + i * 2 ^ 17 + s.hopEntry i))
  let s2 := (s1.setReg Reg.SLOT_NEXT0 w.1).setReg Reg.SLOT_NEXT1 w.2
  let s3 := { s2 with slot := { s2.slot with next := c } }
  (s3.passShared cs).raise 51

/-! ## Templates and the fit rule (R120 to R125) -/

/-- A template in ticks. -/
structure Template where
  /-- TxOffset. -/
  txOffset : Nat
  /-- Receive guard g. -/
  guard : Nat
  /-- TxAckDelay. -/
  ackDelay : Nat
  /-- Acknowledgement guard a. -/
  ackGuard : Nat
  /-- CCA offset and CCA time; none where no CCA is made. -/
  cca : Option (Nat × Nat)
  deriving DecidableEq, Repr

/-- SLOT_STDT0, SLOT_STDT1 or SLOT_STDT2: the reset value under Generation-1 behaviour (R300). -/
def State.stdt (s : State) (a : Nat) : Word := if s.gen1 then resetWord a else s.reg a

/-- The template of a cell (R120): a CCA in shared Standard cells while SLOT_CSMA.cca is 1. -/
def State.template (s : State) (w1 : Word) : Template :=
  if cellStd w1 then
    let t0 := s.stdt Reg.SLOT_STDT0
    let t1 := s.stdt Reg.SLOT_STDT1
    let t2 := s.stdt Reg.SLOT_STDT2
    { txOffset := fieldOf t0 12 12 * 200, guard := fieldOf t0 0 12 * 200
      ackDelay := fieldOf t1 12 12 * 200, ackGuard := fieldOf t1 0 12 * 200
      cca := if cellType w1 = 3 ∧ s.bit Reg.SLOT_CSMA 23 = true then some (fieldOf t2 12 12 * 200, fieldOf t2 0 12 * 200) else none }
  else { txOffset := 80000, guard := 4000, ackDelay := 38000, ackGuard := 2000, cca := none }

/-- The cell is skipped for its template (R121). -/
def State.templateBad (s : State) (w1 : Word) : Bool :=
  if cellStd w1 then decide ((s.reg Reg.TB_SLOTLEN).toNat < 2000000) else s.bit Reg.SLOT_CTL 20

/-- The planned acknowledgement in ticks (R125). -/
def State.ackPlan (s : State) (mode : Nat) (allQpsk : Bool) : Nat :=
  if mode = 2 ∧ allQpsk = true then 144000 else s.frameTicks mode (s.fld Reg.SLOT_ACKPLAN 0 11) 24

/-- The planned end of an exchange, measured from the edge (R125). -/
def State.exchangeEnd (s : State) (w1 : Word) (dur : Nat) (ack allQpsk : Bool) : Nat :=
  let t := s.template w1
  t.txOffset + dur + (if ack then t.ackDelay + s.ackPlan (cellMode w1) allQpsk else 0)

/-- The exchange fits its slot (R125). -/
def State.fits (s : State) (w1 : Word) (dur : Nat) (ack allQpsk : Bool) : Bool :=
  decide (s.exchangeEnd w1 dur ack allQpsk + 20000 ≤ s.tb.len)

/-! ## Time sources and widening (R135 to R139) -/

/-- The time source in use: 0, 1 or none (R135). -/
def State.timeSource (s : State) : Option Nat :=
  if s.slot.ts1 then (if s.bit (Reg.SLOT_TS_CFG 1) 23 then some 1 else none)
  else if s.bit (Reg.SLOT_TS_CFG 0) 23 then some 0 else none

/-- The time source that neighbour n is. -/
def State.sourceOf (s : State) (n : Nat) : Option Nat :=
  [0, 1].find? fun k => s.bit (Reg.SLOT_TS_CFG k) 23 && s.fld (Reg.SLOT_TS_CFG k) 0 8 == n

/-- The widening before its cap, in ticks (R139). -/
def State.rawWidening (s : State) : Nat :=
  if s.timeSource.isNone then 0
  else ceilDiv (s.slot.ea * s.fld Reg.SLOT_GW 16 8 + s.slot.es * s.fld Reg.SLOT_GW 8 8) (2 ^ 24) + (if s.slot.slept then 2 else 0)

/-- The cap of the widening (R139). -/
def State.wideningCap (s : State) (w1 : Word) : Nat :=
  min (s.fld Reg.SLOT_GW 0 8 * 2000) ((s.template w1).txOffset - 16000)

/-- The widening h (R139). -/
def State.widening (s : State) (w1 : Word) : Nat := min s.rawWidening (s.wideningCap w1)

/-- p of time source k in units of 0.625 ns (R137). -/
def State.propOf (s : State) (k : Nat) : Nat :=
  if s.bit (Reg.SLOT_TS_CFG k) 22 then s.fld (Reg.SLOT_TS_PROP k) 0 16 else 0

/-- A measurement from time source k with correction c in eighths of a nanosecond (R135, R138): source 0 comes back
into use; for the source in use the widening starts anew and, under hardware phase correction, c is added up and
recorded. -/
def State.measure (s : State) (k : Nat) (c : Int) : State :=
  let s1 := if k = 0 then { s with slot := { s.slot with ts1 := false } } else s
  let s2 := s1.setReg (Reg.SLOT_TS_AGE k) 0#24
  if s1.timeSource = some k then
    let s3 := { s2 with slot := { s2.slot with ea := 0, es := 0, slept := false } }
    if s3.bit Reg.SLOT_CTL 21 then
      let s4 := s3.setReg (Reg.SLOT_TS_CORR k) (wordOfInt (roundDiv c 8))
      { s4 with slot := { s4.slot with phAcc := s4.slot.phAcc + c } }
    else s3
  else s2

/-- The phase correction at a wrap tick (R138): the whole ticks go to TB_PHADJ, the rest stays. -/
def State.phaseCorrect (s : State) : State :=
  let whole := max (-65535) (min 65535 (s.slot.phAcc.tdiv 40))
  if s.bit Reg.SLOT_CTL 21 && decide (whole ≠ 0) then
    let s1 := s.setReg Reg.TB_PHADJ (BitVec.ofNat 24 (0x800000 + (wordOfInt (-whole)).toNat % 2 ^ 17))
    { s1 with slot := { s1.slot with phAcc := s1.slot.phAcc - 40 * whole } }
  else s

/-! ## Results (R130) -/

/-- What the outcome of a transmit cell is to the Hopper (R130). -/
def outcomeOf (status : Nat) (sent : Bool) : SlotOutcome :=
  if status = 1 then .delivered else if status = 0x50 ∨ (status = 2 ∧ sent = true) then .noAck else .notSent

/-- The CSMA-CA backoff of queue q after a transmission (R119; assumption 55): in a shared cell success returns the exponent to
its minimum, and a missing acknowledgement or a busy channel raises it and draws a wait; in a dedicated cell a success that empties
the queue returns it to its minimum. -/
def State.csmaAfter (s : State) (q : Nat) (shared good failed : Bool) : State :=
  let lo := s.fld Reg.SLOT_CSMA 0 4
  let hi := s.fld Reg.SLOT_CSMA 4 4
  if good && (shared || (s.hq q).frames.isEmpty) then
    { s with slot := { s.slot with csma := setAt { be := lo, wait := 0 } s.slot.csma q } }
  else if shared && failed then
    let be := min (max (s.backoff q).be lo + 1) (max hi lo)
    let r := s.drawFree
    { r.2 with slot := { r.2.slot with csma := setAt { be := be, wait := r.1 % 2 ^ be } r.2.slot.csma q } }
  else s

/-- The grant planned for the slot begins no earlier than t; an empty one is dropped (R129). -/
def State.trimGrant (s : State) (t : Nat) : State :=
  match s.rfe.grant with
  | none => s
  | some (a, e) => { s with rfe := { s.rfe with grant := if max a t < e then some (max a t, e) else none } }

/-- The receive of the sequencer on a chain ends. -/
def State.endRx (s : State) (chB : Bool) : State := s.dropRx fun r => ! r.direct && r.chB == chB

/-- The slot's operation ends with a final status (R130): SLOT_RES0 and SLOT_RES1 are written together, source 49 becomes
pending, and the outcome goes to the Hopper (R162, R164). A grant begins no earlier than 20 µs from now (R129). -/
def State.slotResult (s : State) (status : Nat) (cong busy : Bool := false) : State :=
  match s.slot.op with
  | none => s
  | some o =>
    let w := status * 65536 + b2n o.tx * 32768 + b2n o.sent * 16384 + b2n cong * 8192 + o.cell
    let s1 := (s.setReg Reg.SLOT_RES0 (BitVec.ofNat 24 w)).setReg Reg.SLOT_RES1 (BitVec.ofNat 24 s.slot.asn.toNat)
    let s2 := State.endRx { s1 with slot := { s1.slot with op := none } } o.chB
    let s3 := if o.tx && ! cellAdv o.w1 then s2.hopResult (cellQueue o.w1) (outcomeOf status o.sent) else s2
    let s4 := if cong then s3.congDefer (cellNbr o.w1) else s3
    let s5 := if o.tx && ! cellAdv o.w1 then
        s4.csmaAfter (cellQueue o.w1) (cellType o.w1 == 3) (status == 1) (status == 0x50 || busy)
      else s4
    (s5.trimGrant (s5.tb.phase + 4000)).raise 49

/-! ## The slot-program contract (R126 to R129, R140 to R142) -/

/-- The configuration of a cell's chains for its slot (R55, R56, R116): dual-channel without SY1 runs as single. -/
def State.setChains (s : State) (sel : Nat) : State :=
  let m := if sel = 0 then fieldOf s.rfe.chain 0 2 else sel - 1
  if m = 2 ∧ s.bit Reg.RFE_CTL 1 = false then
    let s1 := s.setBit Reg.RFE_STAT 3 true
    { s1 with rfe := { s1.rfe with mode := 0 } }
  else { s with rfe := { s.rfe with mode := m } }

/-- The slot that begins runs a cell (R121, R126, R383): a skipped cell runs nothing. -/
def State.runCell (s : State) (cell : Nat) (w0 w1 : Word) (rxOnly : Bool) : State :=
  if cellType w1 = 0 then s
  else if s.templateBad w1 then s.flagRaise Reg.SLOT_STAT 4 55
  else
    let s1 := s.setChains (fieldOf w1 16 2)
    let tx := (cellType w1 == 1 || cellType w1 == 3) && ! rxOnly && ! s.standbyPlan
    let i := s.hopIndex s.slot.asn.toNat (fieldOf w0 2 6)
    let ib := (i + s.fld Reg.SLOT_CTL 14 6) % max 1 s.slot.hopLen
    { s1 with slot := { s1.slot with
        op := some { cell := cell, w1 := w1, tx := tx, hop := i, chan := s.hopEntry i, chanB := s.hopEntry ib, chB := s.standbyPlan } } }

/-- The slot that begins runs the walker's choice. -/
def State.runChoice (s : State) (rxOnly : Bool) : State :=
  match s.slot.next with
  | none => s
  | some c => s.runCell c.cell c.w0 c.w1 (rxOnly || c.rx)

/-- The slot that begins runs the cell it was armed with: a shared cell that may not transmit now is a receive cell, and counts
in its queue's backoff (R116, R119). -/
def State.runShared (s : State) (c : NextCell) : State :=
  (s.passShared [c]).runCell c.cell c.w0 c.w1 (cellType c.w1 == 3 && ! s.choosesTx c)

/-- Coast mode (R141, R383). -/
def State.coasting (s : State) : Bool := s.bit Reg.SLOT_CTL 22 || s.standbyPlan

/-- What the slot that begins runs: the walker's choice in coast mode, whatever it was armed for, else what it was armed for, or the
default action (R126, R128, R142). -/
def State.runArmed (s : State) : State :=
  if s.coasting then s.runChoice false
  else match s.slot.armed with
  | some a =>
    match a.act with
    | 0 => s.runChoice false
    | 1 => s.runShared { sf := 0, cell := a.cell, w0 := a.words.1, w1 := a.words.2, rx := false }
    | 2 => s
    | _ => s.runChoice true
  | none =>
    match s.slot.next with
    | none => s
    | some c =>
      match fieldOf c.w1 14 2 with
      | 1 => s.runChoice false
      | 2 => s.runChoice true
      | _ => s

/-- The idle grant of the slot that begins (R129): only with an arm that asks for it, outside coast mode. -/
def State.planGrant (s : State) : State :=
  match s.slot.armed with
  | some a =>
    let st := (s.reg Reg.SLOT_GSTART).toNat
    let en := min (s.reg Reg.SLOT_GEND).toNat (s.tb.len - 10000)
    { s with rfe := { s.rfe with grant := if a.grant && ! s.coasting && decide (st < en) then some (st, en) else none } }
  | none => { s with rfe := { s.rfe with grant := none } }

/-- The slot that begins takes its operation, its chains' configuration (R56) and its grant; the arm window of the next slot opens. A
slot that begins during extrapolation runs nothing (R140). -/
def State.planSlot (s : State) : State :=
  let s0 := State.dropRx { s with slot := { s.slot with op := none } } fun r => ! r.direct
  let s1 := if s0.bit Reg.SLOT_CTL 23 then s0.runArmed.planGrant else s0
  let s2 := ((if s1.slot.op.isNone then s1.setChains 0 else s1).setBit Reg.SLOT_ARMSTAT 23 false).setBit Reg.SLOT_NEXT0 23 false
  { s2 with slot := { s2.slot with armed := none, closed := false, dflt := false, next := none, heard := false } }

/-- Arm deadline in ticks before the edge (SLOT_DEADLINE). -/
def State.deadline (s : State) : Nat := max 4000 (s.reg Reg.SLOT_DEADLINE).toNat

/-- An arm that lands now is in time (R127). -/
def State.armInTime (s : State) : Bool := ! s.slot.closed && decide (s.tb.phase + s.deadline < s.tb.len)

/-- SLOT_ARMSTAT.status. -/
def State.armStatus (s : State) (v : Nat) : State := s.setFld Reg.SLOT_ARMSTAT 0 8 v

/-- A write of SLOT_ARM by LK (R126, R127): LATE is discarded, an off cell is ILLEGAL and changes nothing, and an arm in
time ends coast mode (R141). -/
def State.wrArm (s : State) (v : Word) : State :=
  let w := s.cellWords (fieldOf v 0 12)
  if ! s.armInTime then (s.armStatus 5).flagRaise Reg.SLOT_STAT 2 50
  else if fieldOf v 22 2 = 1 ∧ cellType w.2 = 0 then s.armStatus 7
  else
    let s1 := ((s.armStatus 0).setBit Reg.SLOT_ARMSTAT 23 true).setBit Reg.SLOT_CTL 22 false
    { s1 with slot := { s1.slot with
        armed := some { act := fieldOf v 22 2, cell := fieldOf v 0 12, grant := v.getLsbD 21, words := w } } }

/-- SLOT_ARM (R126, R127). -/
def execSlotArm (m : Master) (v : Word) (s : State) : Host.Outcome State Fault Refusal :=
  .next (s.transfer m Reg.SLOT_ARM true fun s => s.wrArm v)

/-- The next slot has not been armed when its deadline passes (R128): its default action runs, and outside coast mode an overrun is
counted. A slot of R140 has its deadline behind it when Bedrock re-aligns, and none is counted for it. -/
def State.overrun (s : State) : State :=
  if s.coasting then s
  else
    let s1 := { s with slot := { s.slot with dflt := true } }
    let s2 := (s1.countReg Reg.SLOT_OVRCNT).flagRaise Reg.SLOT_STAT 1 50
    if s.slot.ovrRun then s2
    else State.logRequest { s2 with slot := { s2.slot with ovrRun := true } } 0x10 0 (s2.reg Reg.SLOT_OVRCNT) 0#24

/-- ARM_DEADLINE (R127, R128): the arm window of the next slot closes. -/
def execArmDeadline (s : State) : Host.Outcome State Fault Refusal :=
  if s.bit Reg.SLOT_CTL 23 && ! s.slot.closed then
    let s1 := s.advanceTo (s.tb.len - s.deadline)
    let s2 := { s1 with slot := { s1.slot with closed := true } }
    if s2.slot.armed.isSome then .next { s2 with slot := { s2.slot with ovrRun := false } } else .next s2.overrun
  else .next s

/-- A read of SLOT_RES0 (R130): SLOT_RES1 is latched for the master. -/
def State.rdResult (s : State) (m : Master) : Word × State :=
  (s.reg Reg.SLOT_RES0, s.setLatch m Reg.SLOT_RES1 (s.reg Reg.SLOT_RES1))

/-- RESULT_READ (R130). -/
def execResultRead (m : Master) (s : State) : Host.Outcome State Fault Refusal := 
  .next (s.transfer m Reg.SLOT_RES0 false fun s => State.answer (s.rdResult m))

/-- A read of SLOT_ASN0 (R112): bits 39:24 of the ASN are latched for the master. -/
def State.rdAsn (s : State) (m : Master) : Word × State :=
  (BitVec.ofNat 24 s.slot.asn.toNat, s.setLatch m Reg.SLOT_ASN1 (BitVec.ofNat 24 (s.slot.asn.toNat / 2 ^ 24)))

/-- ASN_READ (R112). -/
def execAsnRead (m : Master) (s : State) : Host.Outcome State Fault Refusal := 
  .next (s.transfer m Reg.SLOT_ASN0 false fun s => State.answer (s.rdAsn m))

/-- A write of SLOT_ASNSET1 by LK (R113). -/
def State.wrAsnSet1 (s : State) (v : Word) : State :=
  let s1 := s.storeReg Reg.SLOT_ASNSET1 v
  if v.getLsbD 23 then
    { s1 with slot := { s1.slot with asnReq := some (fieldOf v 0 16 * 2 ^ 24 + (s.reg Reg.SLOT_ASNSET0).toNat) } }
  else s1

/-- ASN_SET_REQUEST (R113). -/
def execAsnSetRequest (m : Master) (v : Word) (s : State) : Host.Outcome State Fault Refusal :=
  .next (s.transfer m Reg.SLOT_ASNSET1 true fun s => s.wrAsnSet1 v)

/-- HOP_LIST_COMMIT (R114). -/
def execHopListCommit (m : Master) (v : Word) (s : State) : Host.Outcome State Fault Refusal :=
  .next (s.transfer m Reg.SLOT_HOPCTL true fun s => s.storeReg Reg.SLOT_HOPCTL v)

/-- Coast mode begins (R141), with source 54. -/
def State.enterCoast (s : State) : State := if s.bit Reg.SLOT_CTL 22 then s else s.flagRaise Reg.SLOT_CTL 22 54

/-- A write of SLOT_CTL by LK: a coast of 1 begins coast mode, a coast of 0 is ignored (R141). -/
def State.wrSlotCtl (s : State) (v : Word) : State :=
  let s1 := (s.storeReg Reg.SLOT_CTL v).setBit Reg.SLOT_CTL 22 (s.bit Reg.SLOT_CTL 22)
  let s2 := if v.getLsbD 22 then s1.enterCoast else s1
  if v.getLsbD 23 then { s2 with cs := { s2.cs with asnValid := true } } else s2

/-- COAST_ENTER (R141). -/
def execCoastEnter (m : Master) (v : Word) (s : State) : Host.Outcome State Fault Refusal :=
  .next (s.transfer m Reg.SLOT_CTL true fun s => s.wrSlotCtl v)

/-- A write of SLOT_TSn_PROP by LK, which sets pv too (R137). -/
def State.wrTsProp (s : State) (n : Nat) (v : Word) : State :=
  (s.storeReg (Reg.SLOT_TS_PROP n) v).setBit (Reg.SLOT_TS_CFG n) 22 true

/-- A write of SLOT_LKBANK by LK (R143): sw = 1 sets pend. -/
def State.wrLkBank (s : State) (v : Word) : State :=
  let s1 := s.setFld Reg.SLOT_LKBANK 0 3 (fieldOf v 0 3)
  if v.getLsbD 21 then s1.setBit Reg.SLOT_LKBANK 22 true else s1

/-- BANK_SWITCH_REQUEST (R143). -/
def execBankSwitchRequest (m : Master) (v : Word) (s : State) : Host.Outcome State Fault Refusal :=
  .next (s.transfer m Reg.SLOT_LKBANK true fun s => s.wrLkBank v)

/-- TIME_SOURCE_FAILOVER (R135): time source 1 comes into use after time source 0 has supplied nothing for fo slots. -/
def execTimeSourceFailover (s : State) : Host.Outcome State Fault Refusal :=
  if s.bit (Reg.SLOT_TS_CFG 1) 23 && decide (s.fld Reg.SLOT_SYNCCFG 0 16 ≤ (s.reg (Reg.SLOT_TS_AGE 0)).toNat) then
    .next { s with slot := { s.slot with ts1 := true } }
  else .next s

end Sys2Proof.Machine
end

