-- ==== Sys2Proof/Machine/Bedrock.lean ====
section
/-! DEFINITION. Bedrock (chapter 02): the count and its shadows, compare channels and their arming, capture inputs,
extrapolation and the RTC measurement. What happens in a wrap tick is in Wrap.lean. -/
namespace Sys2Proof.Machine

/-! ## Count and phase (R31 to R36) -/

/-- A bit of TB_STAT sets, with source 56. -/
def State.tbFlag (s : State) (i : Nat) : State := s.flagRaise Reg.TB_STAT i 56

/-- A read of TB_CNT0 (R32). -/
def State.rdCount (s : State) (m : Master) : Word × State :=
  let c := s.tb.count.toNat
  (BitVec.ofNat 24 c,
    (s.setLatch m Reg.TB_CNT1 (BitVec.ofNat 24 (c / 2 ^ 24))).setLatch m Reg.TB_CNT2 (BitVec.ofNat 24 (c / 2 ^ 48)))

/-- TB_CNT0_READ (R32). -/
def execTbCnt0Read (m : Master) (s : State) : Host.Outcome State Fault Refusal := .next (s.transfer m Reg.TB_CNT0 false fun s => State.answer (s.rdCount m))

/-- A slot length is in the range of R34. -/
def slotLenOk (n : Int) : Bool := decide (500000 ≤ n) && decide (n ≤ 16000000)

/-- A write of TB_SLOTLEN (R34, R300). -/
def State.wrSlotLen (s : State) (v : Word) : State :=
  if slotLenOk v.toNat && (! s.gen1 || v == 2000000#24) then s.setReg Reg.TB_SLOTLEN v else s.tbFlag 0

/-- SLOT_LENGTH_WRITE (R34). -/
def execSlotLengthWrite (v : Word) (s : State) : Host.Outcome State Fault Refusal := .next (s.onBus (·.wrSlotLen v))

/-- A write of TB_PHADJ (R35). While SLOT_CTL.hwph is 1 no master may write it, and a write is ignored (R138; assumption 99). -/
def State.wrPhadj (s : State) (v : Word) : State :=
  if s.bit Reg.SLOT_CTL 21 then s else s.setReg Reg.TB_PHADJ ((v &&& 0x01FFFF#24) ||| 0x800000#24)

/-- PHASE_ADJUST_WRITE (R35). -/
def execPhaseAdjustWrite (v : Word) (s : State) : Host.Outcome State Fault Refusal := .next (s.onBus (·.wrPhadj v))

/-! ## Compare channels (R37 to R42) -/

/-- A channel is armed. -/
def State.armed (s : State) (n : Nat) : Bool := s.bit (Reg.TB_CHSTAT n) 23

/-- The active value of a slot-relative channel. -/
def State.scact (s : State) (n : Nat) : Nat := (s.reg (Reg.TB_SCACT n)).toNat

/-- The value of absolute channel n. -/
def State.acmp (s : State) (n : Nat) : Nat := ofWords [s.reg (Reg.TB_ACMP_0 n), s.reg (Reg.TB_ACMP_1 n), s.reg (Reg.TB_ACMP_2 n)]

/-- The count at which absolute channel n fires late, if its value had passed (R42). -/
def State.lateAt (s : State) (n : Nat) : Option Nat := s.tb.lateAt.getD n none

/-- Absolute channel n takes a count at which it fires late, or none. -/
def State.setLate (s : State) (n : Nat) (c : Option Nat) : State := { s with tb := { s.tb with lateAt := setAt c s.tb.lateAt n } }

/-- An event is raised on the fabric in the present tick (R44). -/
def State.raiseEvent (s : State) (e : FabricEvent) : State :=
  { s with tb := { s.tb with fabric := s.tb.fabric ++ [{ raised := s.tb.count.toNat, ev := e }] } }

/-- A channel fires (R37): fired is set, armed cleared, and its event raised on the fabric; late tells a past value (R42). A firing on
time leaves a late bit that an earlier firing set, until firmware clears it (assumption 100). -/
def State.fireChannel (s : State) (n : Nat) (late : Bool) : State :=
  let a := Reg.TB_CHSTAT n
  let s1 := ((s.setBit a 0 true).setBit a 23 false).setBit a 1 (late || s.bit a 1)
  State.raiseEvent (if 32 ≤ n then s1.setLate (n - 32) none else s1) (.channel n)

/-- Where an absolute value, loaded or armed when the count is c, lies at or below it, the channel fires late at c + 1 (R42). -/
def State.notePast (s : State) (n c : Nat) : State := s.setLate n (if s.acmp n ≤ c then some (c + 1) else none)

/-- A channel is armed (R37, R40, R42), in a tick in which the count to compare with is c. -/
def State.armChannel (s : State) (n c : Nat) : State :=
  if s.armed n then s
  else
    let s1 := s.setBit (Reg.TB_CHSTAT n) 23 true
    let s2 := { s1 with tb := { s1.tb with armedNow := s1.tb.armedNow ||| BitVec.ofNat 40 (2 ^ n) } }
    if 32 ≤ n then s2.notePast (n - 32) c else s2

/-- An armed channel's match tick is the present tick: it fires, a disarm that lands in it notwithstanding (R41). -/
def State.matchesNow (s : State) (n : Nat) : Bool :=
  s.armed n && ! s.tb.armedNow.getLsbD n &&
    (if 32 ≤ n then s.lateAt (n - 32) == some s.tb.count.toNat
        || ((s.lateAt (n - 32)).isNone && s.acmp (n - 32) == s.tb.count.toNat)
     else s.bit Reg.TB_CTL 0 && s.scact n == s.tb.phase)

/-- A channel that the wrap tick in progress armed is as it was before: the arm is cancelled, and a firing in this tick with it
(R41). -/
def State.cancelWrapped (s : State) (w : WrapArmed) : State :=
  let s1 := s.setReg (Reg.TB_CHSTAT w.ch) w.was
  let s2 := { s1 with tb := { s1.tb with
    fabric := s1.tb.fabric.filter fun e => ! (e == { raised := s1.tb.count.toNat, ev := .channel w.ch })
    wrapped := s1.tb.wrapped.filter fun x => x.ch != w.ch } }
  if 32 ≤ w.ch then s2.setLate (w.ch - 32) none else s2

/-- A channel is disarmed, and a wrap-tick arm of it cancelled, in the wrap tick also; a channel armed before fires in its own match
tick (R40, R41). -/
def State.disarmChannel (s : State) (n : Nat) : State :=
  let s1 := { s with tb := { s.tb with wrapArm := s.tb.wrapArm &&& ~~~ BitVec.ofNat 40 (2 ^ n) } }
  match s1.tb.wrapped.find? fun w => w.ch == n with
  | some w => s1.cancelWrapped w
  | none =>
    if s1.matchesNow n then s1.fireChannel n ((s1.lateAt (n - 32)).isSome && decide (32 ≤ n))
    else if s1.armed n then
      let s2 := s1.setBit (Reg.TB_CHSTAT n) 23 false
      if 32 ≤ n then s2.setLate (n - 32) none else s2
    else s1

/-- The channels that a commit word and a staged word choose (R40). -/
def chosen (v staged : Word) : List Nat :=
  ((List.range 24).filter fun i => v.getLsbD i) ++ (((List.range 16).filter fun i => staged.getLsbD i).map (· + 24))

/-- PRELOAD_WRITE (R38). -/
def State.wrScmp (s : State) (n : Nat) (v : Word) : State := (s.setReg (Reg.TB_SCMP n) v).setBit (Reg.TB_CHSTAT n) 22 true

/-- PRELOAD_WRITE (R38). -/
def execPreloadWrite (n : Fin 32) (v : Word) (s : State) : Host.Outcome State Fault Refusal := .next (s.onBus (·.wrScmp n.val v))

/-- ARM_STAGE (R40). -/
def execArmStage (m : Master) (v : Word) (s : State) : Host.Outcome State Fault Refusal :=
  .next (s.transfer m Reg.TB_ARMSETH true fun s => s.setLatch m Reg.TB_ARMSETH (v &&& 0x80FFFF#24))

/-- A write of TB_ARMSET (R40): the staged latch is used and cleared. -/
def State.wrArmSet (s : State) (m : Master) (v : Word) : State :=
  let st := s.latch m Reg.TB_ARMSETH
  let s1 := s.setLatch m Reg.TB_ARMSETH 0#24
  if st.getLsbD 23 then
    { s1 with tb := { s1.tb with wrapArm := (chosen v st).foldl (fun b n => b ||| BitVec.ofNat 40 (2 ^ n)) s1.tb.wrapArm } }
  else (chosen v st).foldl (fun s n => s.armChannel n s.tb.count.toNat) s1

/-- ARM_COMMIT (R40). -/
def execArmCommit (m : Master) (v : Word) (s : State) : Host.Outcome State Fault Refusal :=
  .next (s.transfer m Reg.TB_ARMSET true fun s => s.wrArmSet m v)

/-- DISARM_STAGE (R40). -/
def execDisarmStage (m : Master) (v : Word) (s : State) : Host.Outcome State Fault Refusal :=
  .next (s.transfer m Reg.TB_DISARMH true fun s => s.setLatch m Reg.TB_DISARMH (v &&& 0x00FFFF#24))

/-- ABSOLUTE_VALUE_STAGE (R42): the middle or the top word is staged for the master. -/
def execAbsoluteValueStage (m : Master) (n : Fin 8) (top : Bool) (v : Word) (s : State) : Host.Outcome State Fault Refusal :=
  let a := if top then Reg.TB_ACMP_2 n.val else Reg.TB_ACMP_1 n.val
  .next (s.transfer m a true fun s => s.setLatch m a v)

/-- A write of TB_ACMPn_0 (R42): the three words are loaded, the staged ones kept; an armed channel whose value lies at or
below the count will fire late. -/
def State.wrAcmp0 (s : State) (m : Master) (n : Nat) (v : Word) : State :=
  let s1 := (s.setReg (Reg.TB_ACMP_0 n) v).setReg (Reg.TB_ACMP_1 n) (s.latch m (Reg.TB_ACMP_1 n))
  let s2 := s1.setReg (Reg.TB_ACMP_2 n) (s.latch m (Reg.TB_ACMP_2 n))
  if s2.armed (32 + n) then s2.notePast n s2.tb.count.toNat else s2

/-- ABSOLUTE_VALUE_LOAD (R42). -/
def execAbsoluteValueLoad (m : Master) (n : Fin 8) (v : Word) (s : State) : Host.Outcome State Fault Refusal :=
  .next (s.transfer m (Reg.TB_ACMP_0 n.val) true fun s => s.wrAcmp0 m n.val v)

/-- SLOT_COMPARE_MATCH (R37, R38): the phase moves on to the active value of an armed channel, or stands at it, and the
channel fires. -/
def execSlotCompareMatch (n : Fin 32) (s : State) : Host.Outcome State Fault Refusal :=
  let v := s.scact n.val
  if s.bedrockRuns && s.bit Reg.TB_CTL 0 && s.armed n.val && decide (v < s.tb.len) then
    if s.tb.phase < v then .next ((s.advance (v - s.tb.phase)).fireChannel n.val false)
    else if s.matchesNow n.val then .next (s.fireChannel n.val false)
    else .next s
  else .next s

/-! ## Capture inputs (R46 to R48) -/

/-- A capture input changed. -/
def State.mapCap (s : State) (n : Nat) (f : CaptureState → CaptureState) : State :=
  { s with tb := { s.tb with caps := mapAt f s.tb.caps n } }

/-- A capture input. -/
def State.cap (s : State) (n : Nat) : CaptureState := s.tb.caps.getD n {}

/-- A capture is placed (R48): in the visible register if that is empty, else in the hold, overwriting a full one. -/
def State.placeCapture (s : State) (n : Nat) (v : BitVec 72) : State :=
  let c := s.cap n
  if c.visible.isNone then
    (s.mapCap n fun c => { c with visible := some v, used := true }).setBit (Reg.TB_CAPSTAT n) 1 true
  else
    let s1 := if c.hold.isSome then s.setBit (Reg.TB_CAPSTAT n) 0 true else s
    s1.mapCap n fun c => { c with hold := some v }

/-- The ticks from the captured instant to the tick of acceptance (R46). -/
def State.captureLag (s : State) (n : Nat) : Nat :=
  s.fld (Reg.TB_CAPCTL n) 14 4 * 2 ^ s.fld (Reg.TB_CAPCTL n) 18 3 + 2

/-- An edge is selected by TB_CAPCTLn.edge (R46, R47). -/
def State.edgeSelected (s : State) (n : Nat) (rising : Bool) : Bool :=
  match s.fld (Reg.TB_CAPCTL n) 21 2 with
  | 0 => rising
  | 1 => ! rising
  | 2 => true
  | _ => false

/-- An accepted edge of an enabled input (R46): every (psc + 1)-th selected one captures. -/
def State.captureEdge (s : State) (n : Nat) (rising : Bool) : State :=
  let s1 := s.mapCap n fun c => { c with level := rising }
  if ! s1.edgeSelected n rising then s1
  else
    let k := s1.fld (Reg.TB_CAPSTAT n) 8 8 + 1
    if s1.fld (Reg.TB_CAPCTL n) 6 8 < k then
      let s2 := (s1.setFld (Reg.TB_CAPSTAT n) 8 8 0).placeCapture n (s1.tb.count - BitVec.ofNat 72 (s1.captureLag n))
      s2.raiseEvent (.capture n)
    else s1.setFld (Reg.TB_CAPSTAT n) 8 8 k

/-- CAPTURE_EDGE (R46): a change of level of an enabled input with a source, outside deep sleep. -/
def execCaptureEdge (n : Fin 8) (rising : Bool) (s : State) : Host.Outcome State Fault Refusal :=
  if s.bedrockRuns && s.bit (Reg.TB_CAPCTL n.val) 23 && decide (s.fld (Reg.TB_CAPSRC n.val) 0 5 < 28)
      && (s.cap n.val).level != rising then
    .next (s.captureEdge n.val rising)
  else .next s

/-- A read of TB_CAPn_0 (R48): the visible value is read, the hold moves forward. -/
def State.rdCap (s : State) (m : Master) (n : Nat) : Word × State :=
  let c := s.cap n
  let r := match c.visible with
    | some v => (v.toNat, s)
    | none => if c.used then s.drawFree else (0, s)
  let s1 := (r.2.setLatch m (Reg.TB_CAP_1 n) (BitVec.ofNat 24 (r.1 / 2 ^ 24))).setLatch m (Reg.TB_CAP_2 n) (BitVec.ofNat 24 (r.1 / 2 ^ 48))
  let s2 := (s1.mapCap n fun c => { c with visible := c.hold, hold := none }).setBit (Reg.TB_CAPSTAT n) 1 c.hold.isSome
  (BitVec.ofNat 24 r.1, s2)

/-- CAPTURE_READ (R48). -/
def execCaptureRead (m : Master) (n : Fin 8) (s : State) : Host.Outcome State Fault Refusal :=
  .next (s.transfer m (Reg.TB_CAP_0 n.val) false fun s => State.answer (s.rdCap m n.val))

/-- A write of TB_CAPCTLn (R47): a rise of en clears the prescaler, and the first sample sets the reference level; the
reserved sources read a constant low level. -/
def State.wrCapCtl (s : State) (n : Nat) (v : Word) (level : Bool) : State :=
  let s1 := s.storeReg (Reg.TB_CAPCTL n) v
  if s1.bit (Reg.TB_CAPCTL n) 23 && ! s.bit (Reg.TB_CAPCTL n) 23 then
    (s1.setFld (Reg.TB_CAPSTAT n) 8 8 0).mapCap n fun c =>
      { c with level := level && decide (s.fld (Reg.TB_CAPSRC n) 0 5 < 28) }
  else s1

/-- CAPTURE_ENABLE (R47). -/
def execCaptureEnable (n : Fin 8) (v : Word) (level : Bool) (s : State) : Host.Outcome State Fault Refusal :=
  .next (s.onBus (·.wrCapCtl n.val v level))

/-! ## Extrapolation (R49 to R51) -/

/-- The increment for each RTC cycle in units of 2^-32 tick: TB_DSRATE, times 1 + TB_RATE × 2^-32 under the rate trim, rounded
to the nearest (R49). -/
def State.dsIncrement (s : State) : Nat :=
  let d := s.fld Reg.TB_DSRATE1 8 13 * 2 ^ 32 + s.fld Reg.TB_DSRATE1 0 8 * 2 ^ 24 + (s.reg Reg.TB_DSRATE0).toNat
  if s.bit Reg.TB_CTL 2 then
    (((d : Int) * (2 ^ 32 + signed 24 (s.reg Reg.TB_RATE).toNat) + 2 ^ 31) / 2 ^ 32).toNat
  else d

/-- Bedrock is carried forward by a number of RTC edges (R49): the count with its fraction, the phase with the wraps it
passes, and the ticks of extrapolation since the last measurement (R139). A slot that begins meanwhile takes TB_SLOTLEN as it then is;
a pending TB_PHADJ stays pending, for the first wrap tick after re-alignment (assumption 101). The PWM outputs go on where their
clock runs. -/
def State.extrapolate (s : State) (edges : Nat) : State :=
  let t := s.tb.acc.toNat + edges * s.tb.inc
  let adv := t / 2 ^ 32
  let p := s.tb.phase + adv
  let l := (s.reg Reg.TB_SLOTLEN).toNat
  let run := s.bit Reg.TB_CTL 0
  let wraps := if run && decide (s.tb.len ≤ p) then 1 + (p - s.tb.len) / l else 0
  let phase := if ! run then s.tb.phase else if wraps = 0 then p else (p - s.tb.len) % l
  { s with
    tb := { s.tb with
      count := s.tb.count + BitVec.ofNat 72 adv, acc := BitVec.ofNat 32 t, phase := phase
      len := if wraps = 0 then s.tb.len else l, wraps := s.tb.wraps + wraps }
    gpio := { s.gpio with pwm := s.pwmPassed adv }
    dali := { s.dali with tx := s.daliPassed adv }
    slot := { s.slot with es := s.slot.es + adv } }

/-- The RTC edges until the extrapolated count reaches the value of absolute channel n less TB_WAKELEAD, at least one
(R50). -/
def State.edgesToWake (s : State) (n : Nat) : Nat :=
  let target := (s.acmp n - (s.reg Reg.TB_WAKELEAD).toNat) * 2 ^ 32
  max 1 (ceilDiv (target - (s.tb.count.toNat * 2 ^ 32 + s.tb.acc.toNat)) s.tb.inc)

/-- A write of TB_RTCCAL (R52): k is stored, and start begins a measurement; one written while the time-base PLL is not locked is
ignored (assumption 102). -/
def State.wrRtcCal (s : State) (v : Word) : State :=
  let s1 := s.setReg Reg.TB_RTCCAL ((s.reg Reg.TB_RTCCAL &&& ~~~ (v &&& 0x400000#24) &&& 0xFFFFF0#24) ||| (v &&& 0xF#24))
  if v.getLsbD 23 && s.bit Reg.SYS_CLKSTAT 21 then s1.setBit Reg.TB_RTCCAL 23 true else s1

/-- RTC_CAL_START (R52): k is stored and a measurement begins where none runs. -/
def execRtcCalStart (v : Word) (s : State) : Host.Outcome State Fault Refusal := .next (s.onBus (·.wrRtcCal v))

/-- RTC_CAL_DONE (R52): the measured number of ticks is placed, start clears, done is set and source 57 becomes pending. The
measurement needs the time-base PLL. -/
def execRtcCalDone (ticks : BitVec 48) (s : State) : Host.Outcome State Fault Refusal :=
  if s.bit Reg.TB_RTCCAL 23 && s.bit Reg.SYS_CLKSTAT 21 then
    let s1 := (s.setReg Reg.TB_RTCRES0 (BitVec.ofNat 24 ticks.toNat)).setReg Reg.TB_RTCRES1 (BitVec.ofNat 24 (ticks.toNat / 2 ^ 24))
    .next ((s1.setBit Reg.TB_RTCCAL 23 false).flagRaise Reg.TB_RTCCAL 22 57)
  else .next s

end Sys2Proof.Machine
end

