-- ==== Sys2Proof/Machine/Gpio.lean ====
section
/-! DEFINITION. GPIO, the dimming PWM outputs and the ADC (chapter 17, R404, R414 to R420, R429 to R431), and their
commands. -/
namespace Sys2Proof.Machine

/-! ## Pads (R404, R429, R267) -/

/-- The Adit port holds a pad (R404). -/
def State.aditHolds (s : State) (n : Nat) : Bool := s.bit Reg.ADIT_CTL 23 && decide (n < 16)

/-- A CP3 operation of a core waits to be sent, or has been sent and not been answered (R236). -/
def State.aditAny (s : State) (st : Cp3State) : Bool := [s.lk, s.a0, s.a1].any fun k => k.cp3.any fun o => o.st == st

/-- ATRN: no command waits and at least one operation is outstanding, so that the logic may begin a response (R236). -/
def State.aditTrn (s : State) : Bool := ! s.aditAny .waiting && s.aditAny .sent

/-- The level of a pad that the Adit port holds, between two commands: AD is released, ACLK runs and is at a level that no rule fixes,
AVLD is 0, ATRN tells whether the logic may begin a response, and ARDY is the logic's (R234, R236). -/
def State.aditPad (s : State) (n : Nat) (ext : Bool) : Bool :=
  if n = 12 then decide (Config.freeValue s.fresh % 2 = 1)
  else if n = 13 then false
  else if n = 14 then s.aditTrn
  else ext

/-- What a driven pad shows, the open drain released for a 1. -/
def drivenLevel (dir out od ext : Bool) : Bool := if ! dir then ext else if od && out then ext else out

/-- The level of pad n: what it is driven to, by the safe level of R267 while a safe state is forced, else what the board puts
on it. -/
def State.padLevel (s : State) (n : Nat) : Bool :=
  let ext := s.gpio.ext.getLsbD n
  let od := s.bit (Reg.GPIO_CFG n) 21
  if s.bit Reg.SYS_CLKSTAT 17 then
    match s.fld (if n < 12 then Reg.SYS_GPSAFE0 else Reg.SYS_GPSAFE1) (2 * (n % 12)) 2 with
    | 0 => drivenLevel (s.gpio.kept.1.getLsbD n) (s.gpio.kept.2.getLsbD n) od ext
    | 1 => false
    | 2 => true
    | _ => ext
  else if s.aditHolds n then s.aditPad n ext
  else drivenLevel (s.bit Reg.GPIO_DIR n) (s.bit Reg.GPIO_OUT n) od ext

/-- GPIO_IN (R429). -/
def State.rdGpioIn (s : State) : Word :=
  BitVec.ofNat 24 ((List.range 24).foldl (fun a n => a + b2n (s.padLevel n) * 2 ^ n) 0)

/-- What the pads drive when a safe state is forced is kept (R267). -/
def State.keepPads (s : State) : State := { s with gpio := { s.gpio with kept := (s.reg Reg.GPIO_DIR, s.reg Reg.GPIO_OUT) } }

/-- GPIO_SET (R429). -/
def State.wrGpioSet (s : State) (v : Word) : State := s.setReg Reg.GPIO_OUT (s.reg Reg.GPIO_OUT ||| v)

/-- GPIO_SET (R429). -/
def execGpioSet (v : Word) (s : State) : Host.Outcome State Fault Refusal := .next (s.onBlock Reg.GPIO_SET (·.wrGpioSet v))

/-- A write of GPIO_CLR (R429). -/
def State.wrGpioClr (s : State) (v : Word) : State := s.setReg Reg.GPIO_OUT (s.reg Reg.GPIO_OUT &&& ~~~ v)

/-- GPIO_CLR (R429). -/
def execGpioClr (v : Word) (s : State) : Host.Outcome State Fault Refusal := .next (s.onBlock Reg.GPIO_CLR (·.wrGpioClr v))

/-- GPIO_EDGE (R263, R430): the board changes the level of pad n; a selected edge that the block or its wake logic sees sets its bit
of GPIO_EVT and makes source 116 + n div 3 pending. -/
def execGpioEdge (n : Fin 24) (rising : Bool) (s : State) : Host.Outcome State Fault Refusal :=
  let old := s.padLevel n.val
  let s1 := { s with gpio := { s.gpio with ext := withBit s.gpio.ext n.val rising } }
  let new := s1.padLevel n.val
  let evt := s.fld (Reg.GPIO_CFG n.val) 19 2
  if s.wakeLogic Base.GPIO 9 && old != new && (if new then evt.testBit 0 else evt.testBit 1) then .next (s1.flagRaise Reg.GPIO_EVT n.val (116 + n.val / 3))
  else .next s1

/-- The action of a pad on a Bedrock event (R431). -/
def State.padAct (s : State) (ch n : Nat) : State :=
  if s.fld (Reg.GPIO_CFG n) 10 6 = ch then
    match s.fld (Reg.GPIO_CFG n) 16 2 with
    | 1 => s.setBit Reg.GPIO_OUT n true
    | 2 => s.setBit Reg.GPIO_OUT n false
    | 3 => s.setBit Reg.GPIO_OUT n (! s.bit Reg.GPIO_OUT n)
    | _ => s
  else s

/-- A Bedrock event acts on the pads (R431), where the block's clock runs. -/
def State.gpioEvent (s : State) (ch : Nat) : State :=
  s.inBlock Base.GPIO fun s => (List.range 24).foldl (fun s n => s.padAct ch n) s

/-! ## PWM (R414 to R416) -/

/-- A PWM output changed. -/
def State.mapPwm (s : State) (n : Nat) (f : PwmState → PwmState) : State :=
  { s with gpio := { s.gpio with pwm := mapAt f s.gpio.pwm n } }

/-- A PWM output. -/
def State.pwm (s : State) (n : Nat) : PwmState := s.gpio.pwm.getD n {}

/-- A period of output n begins at a tick, with the values written before it (R414). -/
def State.pwmStart (s : State) (n at_ : Nat) : State :=
  s.mapPwm n fun p =>
    { p with start := at_, per := s.fld (Reg.GPIO_PWMPER n) 0 16, duty := s.fld (Reg.GPIO_PWMDUTY n) 0 16 }

/-- Ticks of a period of output n (R414). -/
def State.pwmTicks (s : State) (n : Nat) : Nat := max 2 (s.pwm n).per * 2 ^ s.fld (Reg.GPIO_PWMCTL n) 0 3

/-- The output is active (R414, R416), before its polarity. -/
def State.pwmActive (s : State) (n : Nat) : Bool :=
  if ! s.bit (Reg.GPIO_PWMCTL n) 23 then false
  else if s.bit (Reg.GPIO_PWMCTL n) 21 then (s.pwm n).level
  else decide ((s.tb.count.toNat - (s.pwm n).start) % s.pwmTicks n / 2 ^ s.fld (Reg.GPIO_PWMCTL n) 0 3 < (s.pwm n).duty)

/-- The level of pad PWMn (R414, R446): the output at its polarity, low where it is disabled at pol = 0. -/
def State.pwmPad (s : State) (n : Nat) : Bool := s.pwmActive n != s.bit (Reg.GPIO_PWMCTL n) 22

/-- A write of GPIO_PWMnCTL (R414): an output that is enabled begins a period. -/
def State.wrPwmCtl (s : State) (n : Nat) (v : Word) : State :=
  let s1 := s.storeReg (Reg.GPIO_PWMCTL n) v
  if s1.bit (Reg.GPIO_PWMCTL n) 23 && ! s.bit (Reg.GPIO_PWMCTL n) 23 then s1.pwmStart n s.tb.count.toNat else s1

/-- PWM_PERIOD_START (R414): the count of output n wraps; the ticks up to it pass, as far as the slot goes. -/
def execPwmPeriodStart (n : Fin 2) (s : State) : Host.Outcome State Fault Refusal :=
  if s.bedrockRuns && s.blockRuns (Reg.GPIO_PWMCTL 0) && s.bit (Reg.GPIO_PWMCTL n.val) 23 && ! s.bit (Reg.GPIO_PWMCTL n.val) 21 then
    let next := (s.pwm n.val).start + s.pwmTicks n.val
    .next ((s.advance (min (next - s.tb.count.toNat) (s.tb.len - 1 - s.tb.phase))).pwmStart n.val next)
  else .next s

/-- A Bedrock event, or the slot tick as channel 48, acts on output n (R415, R416). -/
def State.pwmAct (s : State) (ch n : Nat) : State :=
  let c := Reg.GPIO_PWMCTL n
  if s.bit c 21 then
    if ch < 48 ∧ s.fld c 8 6 = ch then s.mapPwm n fun p => { p with level := false }
    else if ch < 48 ∧ s.fld c 14 6 = ch then s.mapPwm n fun p => { p with level := true }
    else s
  else if s.bit c 20 && s.fld c 14 6 == ch then s.pwmStart n s.tb.count.toNat
  else s

/-- A Bedrock event acts on the PWM outputs, where their clock runs. -/
def State.pwmEvent (s : State) (ch : Nat) : State := s.inBlock (Reg.GPIO_PWMCTL 0) fun s => (s.pwmAct ch 0).pwmAct ch 1

/-! ## ADC (R417 to R420) -/

/-- The length of a sequence. -/
def State.adcLen (s : State) : Nat := s.fld Reg.ADC_CTL 8 4 + 1

/-- The channel of sequence entry i (R418). -/
def State.adcChannel (s : State) (i : Nat) : Nat := s.fld (Reg.ADC_SEQ (i / 6)) (20 - 4 * (i % 6)) 4

/-- The sequence names a reserved channel (R417). -/
def State.adcIllegal (s : State) : Bool := (List.range s.adcLen).any fun i => decide (12 ≤ s.adcChannel i)

/-- A start of a sequence (R417, R418): ignored with ovr while one or a calibration runs; a sequence that names a reserved
channel ends at once. -/
def State.adcStart (s : State) : State :=
  if ! s.bit Reg.ADC_CTL 23 then s
  else if s.adc.seq.isSome || s.adc.cal then s.setBit Reg.ADC_STAT 1 true
  else if s.adcIllegal then s
  else
    let s1 := (s.setBit Reg.ADC_CTL 22 true).setBit Reg.ADC_STAT 23 true
    { s1 with adc := { s1.adc with seq := some 0 } }

/-- A start of self-calibration (R419). -/
def State.adcCal (s : State) : State :=
  if ! s.bit Reg.ADC_CTL 23 then s
  else if s.adc.seq.isSome || s.adc.cal then s.setBit Reg.ADC_STAT 1 true
  else
    let s1 := (s.setBit Reg.ADC_CTL 21 true).setBit Reg.ADC_STAT 23 true
    { s1 with adc := { s1.adc with cal := true } }

/-- A write of ADC_CTL (R418, R419). -/
def State.wrAdcCtl (s : State) (v : Word) : State :=
  let s1 := s.setReg Reg.ADC_CTL ((s.reg Reg.ADC_CTL &&& 0x600000#24) ||| (v &&& 0x9FCF00#24))
  let s2 := if v.getLsbD 22 then s1.adcStart else s1
  if v.getLsbD 21 then s2.adcCal else s2

/-- ADC_SEQUENCE_START (R418). -/
def execAdcSequenceStart (v : Word) (s : State) : Host.Outcome State Fault Refusal := .next (s.onBlock Reg.ADC_CTL (·.wrAdcCtl v))

/-- ADC_CALIBRATE (R419). -/
def execAdcCalibrate (v : Word) (s : State) : Host.Outcome State Fault Refusal := .next (s.onBlock Reg.ADC_CTL (·.wrAdcCtl v))

/-- A Bedrock channel, 0–39 compare and 40–47 capture, starts a sequence (R418). -/
def State.adcEvent (s : State) (ch : Nat) : State :=
  s.inBlock Base.ADC fun s => if s.bit Reg.ADC_CTL 20 && s.fld Reg.ADC_CTL 14 6 == ch then s.adcStart else s

/-- A raw code corrected by ADC_CAL (R419). -/
def State.adcCorrect (s : State) (raw : Nat) : Nat :=
  let off := signed 12 (s.fld Reg.ADC_CAL 0 12)
  let v := (((raw : Int) - off) * (s.fld Reg.ADC_CAL 12 12 : Nat) + 1024).ediv 2048
  (max 0 (min 4095 v)).toNat

/-- A result lies outside the limits of ADC_THR (R420). -/
def State.adcOutside (s : State) (i c : Nat) : Bool :=
  s.fld Reg.ADC_THR 20 4 == i && (decide (c < s.fld Reg.ADC_THR 12 8 * 16) || decide (s.fld Reg.ADC_THR 0 12 < c))

/-- ADC_CONVERSION_DONE (R418 to R420): a corrected result is written; the last sets done and source 99. -/
def execAdcConversionDone (raw : BitVec 12) (s : State) : Host.Outcome State Fault Refusal :=
  .next (s.inBlock Base.ADC fun s =>
    match s.adc.seq with
    | none => s
    | some i =>
      let c := s.adcCorrect raw.toNat
      let s1 := s.setReg (Reg.ADC_RES i) (BitVec.ofNat 24 c)
      let s2 := if s.adcOutside i c then s1.flagRaise Reg.ADC_STAT 2 100 else s1
      if i + 1 < s.adcLen then { s2 with adc := { s2.adc with seq := some (i + 1) } }
      else
        let s3 := ((s2.setBit Reg.ADC_CTL 22 false).setBit Reg.ADC_STAT 23 false).flagRaise Reg.ADC_STAT 0 99
        { s3 with adc := { s3.adc with seq := none } })

/-- ADC_CALIBRATION_DONE (R419): off and gain from the sums of the 64 conversions of channel 10 and of channel 11; a value that
the field cannot hold is free. -/
def execAdcCalibrationDone (sum0 sum1 : BitVec 18) (s : State) : Host.Outcome State Fault Refusal :=
  if ! s.adc.cal || ! s.blockRuns Base.ADC then .next s
  else
    let m := sum0.toNat
    let d := sum1.toNat - m
    let off := (2 * m + 64) / 128
    let gain := if d = 0 then 4096 else (2 * (4193280 * 64) + d) / (2 * d)
    let r := s.drawFree
    let s1 := if off < 2048 ∧ gain < 4096 then s else r.2
    let o := if off < 2048 then off else r.1 % 4096
    let g := if gain < 4096 then gain else r.1 / 4096 % 4096
    let s2 := ((s1.setReg Reg.ADC_CAL (BitVec.ofNat 24 (g * 4096 + o))).setBit Reg.ADC_CTL 21 false).setBit Reg.ADC_STAT 23 false
    .next { s2 with adc := { s2.adc with cal := false } }

end Sys2Proof.Machine
end

