-- ==== Sys2Proof/Machine/CoreSample.lean ====
section
/-! DEFINITION. The Core Sample log (chapter 18): the search at start, the writing of entries with their hash chain, firmware
entries and the head, and its commands. -/
namespace Sys2Proof.Machine

/-- The address of log entry i (R439). -/
def entryAddr (i : Nat) : Nat := 0x288000 + 8 * (i % 4096)

/-- lap of an entry's word 0 (R439). -/
def State.lapAt (s : State) (i : Nat) : Nat := fieldOf (s.mem1 (entryAddr i)) 0 12

/-- The binary search of R442: the highest index, from lo on, whose lap equals that of entry 0, in k halving steps. -/
def State.newestFrom (s : State) (lo : Nat) : Nat → Nat
  | 0 => lo
  | k + 1 => s.newestFrom (if s.lapAt (lo + 2 ^ k) = s.lapAt 0 then lo + 2 ^ k else lo) k

/-- Words 6 and 7 of an entry. -/
def State.chainAt (s : State) (i : Nat) : List Word := s.memWords (entryAddr i + 6) 2

/-- CS_HEAD0, CS_HEAD1 and CS_HIDX describe entry i (R442, R444). -/
def State.setHead (s : State) (i lap : Nat) : State :=
  let c := s.chainAt i
  let s1 := (s.setReg Reg.CS_HEAD0 (c.getD 0 0#24)).setReg Reg.CS_HEAD1 (c.getD 1 0#24)
  let s2 := s1.setReg Reg.CS_HIDX (BitVec.ofNat 24 (lap * 4096 + i))
  { s2 with cs := { s2.cs with index := i, lap := lap } }

/-- The entry after the newest one (R442): its index and its lap. -/
def State.nextEntry (s : State) : Nat × Nat :=
  if s.cs.index = 4095 then (0, if s.cs.lap = 0xFFE then 0 else s.cs.lap + 1) else (s.cs.index + 1, s.cs.lap)

/-- Words 0–5 of an entry (R439). -/
def entryWords (code lap : Nat) (r : LogRequest) (d1 d2 : Word) : List Word :=
  [BitVec.ofNat 24 (code % 256 * 65536 + r.origin % 8 * 8192 + b2n r.tq * 4096 + lap % 4096), BitVec.ofNat 24 r.asn,
    BitVec.ofNat 24 (r.time / 2 ^ 24 % 256 * 65536 + r.asn / 2 ^ 24 % 65536), BitVec.ofNat 24 r.time, d1, d2]

/-- An entry is written after the newest one, extends the chain and becomes the head, with source 81 (R440, R441, R444). -/
def State.putEntry (s : State) (code : Nat) (r : LogRequest) (d1 d2 : Word) : State :=
  let e := s.nextEntry
  let ws := entryWords code e.2 r d1 d2
  let prev := s.chainAt s.cs.index
  ((s.setMemWords (entryAddr e.1) (ws ++ chainWords prev ws)).setHead e.1 e.2).raise 81

/-- A request is written whole: its entry and the CONT entries after it (R443). -/
def State.putRequest (s : State) (r : LogRequest) : State :=
  r.cont.foldl (fun s d => s.putEntry 0x7F r d.1 d.2) (s.putEntry r.code r r.d1 r.d2)

/-- The search and the check of R442: a torn entry counts as not written, and a TORN entry takes its place. GENESIS has no
entry before it, and starts from the identity digest (R441). -/
def State.logReady (s : State) : State :=
  if ! s.bit Reg.CS_STAT 22 then s
  else
    let i := s.newestFrom 0 12
    let lap := s.lapAt i
    let genesis := fieldOf (s.mem1 (entryAddr i)) 16 8 == 1
    let prev := if genesis then genesisPrev else s.chainAt (i + 4095)
    let s0 := s.setBit Reg.CS_STAT 22 false
    if chainWords prev (s.memWords (entryAddr i) 6) = s.chainAt i then s0.setHead i lap
    else
      let p := (i + 4095) % 4096
      let s1 := (s0.setHead p (s.lapAt p)).setBit Reg.CS_STAT 0 true
      s1.putRequest (s1.logEntry 0x03 0 (BitVec.ofNat 24 i) 0#24 [])

/-- ENTRY_WRITE (R444): after the search, the head request is written, ahead of it a LOST entry where requests were dropped. -/
def execEntryWrite (s : State) : Host.Outcome State Fault Refusal :=
  let s0 := s.logReady
  if 0 < s0.cs.lostSince then
    let s1 := s0.putRequest (s0.logEntry 0x04 0 (BitVec.ofNat 24 s0.cs.lostSince) 0#24 [])
    .next { s1 with cs := { s1.cs with lostSince := 0 } }
  else
    match s0.cs.queue with
    | [] => .next s0
    | r :: rest => .next (State.putRequest (State.syncLog { s0 with cs := { s0.cs with queue := rest } }) r)

/-- A read of CS_HEAD0 (R445): the other two words of the head are latched for the master. -/
def State.rdHead (s : State) (m : Master) : Word × State :=
  let s0 := s.logReady
  (s0.reg Reg.CS_HEAD0, (s0.setLatch m Reg.CS_HEAD1 (s0.reg Reg.CS_HEAD1)).setLatch m Reg.CS_HIDX (s0.reg Reg.CS_HIDX))

/-- HEAD_READ (R445). -/
def execHeadRead (m : Master) (s : State) : Host.Outcome State Fault Refusal :=
  .next (s.transfer m Reg.CS_HEAD0 false fun s => State.answer (s.rdHead m))

/-- The origin that a master's firmware entries carry (R439); none for a master without CS_FWCMD. -/
def logOrigin : Master → Option Nat
  | .lk => some 1
  | .a0 => some 2
  | .a1 => some 3
  | .dbg => some 6
  | _ => none

/-- A write of CS_FWCMD (R445): CS_FWSTAT of the master reads OK, ILLEGAL for a code below 0x80 or BUSY for a full queue. -/
def State.wrFwCmd (s : State) (m : Master) (v : Word) : State :=
  match logOrigin m with
  | none => s
  | some o =>
    if fieldOf v 16 8 < 0x80 then s.setLatch m Reg.CS_FWSTAT 0x000007#24
    else if s.cs.queue.length < 16 then
      (s.logRequest (fieldOf v 16 8) o (s.latch m Reg.CS_FWD0) (s.latch m Reg.CS_FWD1)).setLatch m Reg.CS_FWSTAT 0#24
    else s.setLatch m Reg.CS_FWSTAT 0x000003#24

/-- FIRMWARE_ENTRY (R445). -/
def execFirmwareEntry (m : Master) (v : Word) (s : State) : Host.Outcome State Fault Refusal :=
  .next (s.transfer m Reg.CS_FWCMD true (·.wrFwCmd m v))

end Sys2Proof.Machine
end

