-- ==== Sys2Proof/Machine/Rows.lean ====
section
/-! DEFINITION. Flash rows (chapter 12, R301 to R304, R312): the spare word, the check of every read, the read buffers, held banks and
execute-only regions. -/
namespace Sys2Proof.Machine

/-- What the spare word of a row that nothing has programmed reads as. -/
def spareUnlisted (scraps : List (Nat × Nat)) (r : Nat) : Word :=
  match scrapOf scraps (r / 2048) with
  | none => 0xFFFFFF#24
  | some n => Config.lostWord n (r + 0x1000000)

/-- The spare word of a row (R301). -/
def State.spareWord (s : State) (row : Nat) : Word := WordMap.get (spareUnlisted s.scraps) s.nvm.spare row

/-- The spare word of a row takes a value. -/
def State.setSpare (s : State) (row : Nat) (v : Word) : State :=
  { s with nvm := { s.nvm with spare := WordMap.set (spareUnlisted s.scraps) s.nvm.spare row v } }

/-- The row of a flash address. -/
def rowOf (a : Nat) : Nat := a / 64 * 64

/-- A row whose 65 words all read 0xFFFFFF (R302). -/
def State.rowBlank (s : State) (row : Nat) : Bool :=
  (s.memWords row 64).all (· == 0xFFFFFF#24) && s.spareWord row == 0xFFFFFF#24

/-- A row passes its check: it is blank, or its spare word holds the CRC-24 of its words (R302). -/
def State.rowOk (s : State) (row : Nat) : Bool :=
  s.rowBlank row || decide ((s.spareWord row).toNat = crc24 (s.memWords row 64))

/-- The bank of an address or row: 0 A, 1 B. -/
def bankOf (a : Nat) : Nat := a / 0x100000

/-- A program or an erase that is not suspended runs on a bank: its reads are held (R304). -/
def State.bankHeld (s : State) (bank : Nat) : Bool :=
  (match s.nvm.prog with
    | some p => bankOf p.addr == bank
    | none => false) ||
  (match s.nvm.er with
    | some e => ! e.susp && e.sector / 512 == bank
    | none => false)

/-- The row is in the read buffer of its bank (R303). -/
def State.inBuffer (s : State) (row : Nat) : Bool := s.nvm.buf.contains row

/-- A row that has passed its check goes into the read buffer of its bank, which keeps the two most recently checked (R303). -/
def State.buffer (s : State) (row : Nat) : State :=
  let b := bankOf row
  let own := (s.nvm.buf.filter fun r => bankOf r == b && r != row).take 1
  { s with nvm := { s.nvm with buf := row :: own ++ s.nvm.buf.filter fun r => bankOf r != b } }

/-- A row that changes leaves the read buffer (R303; assumption 122). -/
def State.unbuffer (s : State) (row : Nat) : State := { s with nvm := { s.nvm with buf := s.nvm.buf.filter (· != row) } }

/-- A read of a flash word by any path, of which a number of array reads disturb the row (R302, R303): a hit of the read buffer needs
none; none is answered where all four reads fail. -/
def State.flashWord (s : State) (a failed : Nat) : Option Word × State :=
  if s.inBuffer (rowOf a) then (some (s.mem1 a), s)
  else if ! s.rowOk (rowOf a) || decide (4 ≤ failed) then
    let s1 := s.setReg Reg.NVM_CRCADR (BitVec.ofNat 24 (rowOf a))
    (none, (s1.flagRaise Reg.NVM_STAT 18 79).logRequest 0x20 0 (BitVec.ofNat 24 (rowOf a)) 0#24)
  else (some (s.mem1 a), (if failed = 0 then s else s.countReg Reg.NVM_RRCNT).buffer (rowOf a))

/-- A sector lies in an execute-only region (R312). -/
def State.xoSector (s : State) (sector : Nat) : Bool :=
  (List.range 8).any fun n =>
    let c := s.fld (Reg.NVM_XO n) 0 12
    let f := s.fld (Reg.NVM_XO n) 12 12
    decide (f ≤ sector) && decide (sector < f + c) && decide (sector < 512)

/-- A read that an execute-only region refuses (R312). -/
def State.xoRead (s : State) (a : Nat) : State := (s.setReg Reg.NVM_XOADR (BitVec.ofNat 24 a)).setBit Reg.NVM_STAT 17 true


/-- The first of the n words from an address whose row fails its check, in address order, by its row; none where every row passes
(R302). -/
def State.firstBadRow (s : State) (a n : Nat) : Option Nat :=
  ((List.range ((n + 63 + a % 64) / 64)).map fun i => rowOf a + 64 * i).find? fun r => ! s.inBuffer r && ! s.rowOk r

end Sys2Proof.Machine
end

