-- ==== Sys2Proof/Machine/Ashlar.lean ====
section
/-! DEFINITION. The Ashlar (chapter 13): the mailbox and its commands, attestation, link keys, the owner, the debug lock, and
the random source. -/
namespace Sys2Proof.Machine

/-! ## What the enclave keeps -/

/-- A field of the Ashlar's state changes. -/
def State.mapAsh (s : State) (f : AshState → AshState) : State := { s with ash := f s.ash }

/-- A word of the Ashlar area of the journal (R348). -/
def State.ashJ (s : State) (k : Nat) : Word := s.mem1 (0x280400 + k)

/-- The Ashlar writes a word of its area, with its source 7. -/
def State.setAshJ (s : State) (k : Nat) (v : Word) : State := (s.setMem (0x280400 + k) v).raiseAsh 7

/-- ASH_INFO.own and dbg follow the key store. -/
def State.syncInfo (s : State) : State :=
  (s.setBit Reg.ASH_INFO 23 s.ash.owner.isSome).setFld Reg.ASH_INFO 21 2 s.debugState

/-- The digest of the owner key; 0 where none is registered (R334). -/
def State.ownerDigest (s : State) : List Nat :=
  match s.ash.owner with
  | some (n, e) => keyDigest n e
  | none => List.replicate 64 0

/-- The words that tell which slots are loaded (R334). -/
def State.slotMask (s : State) : Nat := (List.range 32).foldl (fun m i => if (s.ash.keys.getD i none).isSome then m + 2 ^ i else m) 0

/-- A recorded digest in 22 words, 0 where none is recorded (R335). -/
def digestWords (d : Option (List Nat)) : List Word := packOctets (d.getD (List.replicate 64 0))

/-- The 4 octets of a number, least significant first. -/
def low4 (n : Nat) : List Nat := (octetsOfNat 4 n).reverse

/-- The alert count goes up by one, saturating (R348). -/
def State.countAlert (s : State) : State :=
  if s.ashJ 7 = 0xFFFFFF#24 then s else s.setAshJ 7 (s.ashJ 7 + 1#24)

/-! ## The mailbox (R327 to R330) -/

/-- The code of a holder in ASH_CLAIM; 0 for a master that cannot hold the mailbox. -/
def holderCode : Master → Nat
  | .lk => 1
  | .a0 => 2
  | .a1 => 3
  | .dbg => 4
  | _ => 0

/-- The code of the present holder, 0 where the mailbox is free. -/
def State.holderField (s : State) : Nat := match s.ash.holder with
  | some m => holderCode m
  | none => 0

/-- A read of ASH_CLAIM (R327). -/
def State.rdClaim (s : State) (m : Master) : Word × State :=
  if s.ash.holder.isNone && holderCode m != 0 && ! (m == .dbg && s.debugLocked) then
    (BitVec.ofNat 24 (0x800000 + holderCode m * 256), s.mapAsh fun a => { a with holder := some m })
  else (BitVec.ofNat 24 (s.holderField * 256 + 3), s)

/-- MAILBOX_CLAIM (R327). -/
def execMailboxClaim (m : Master) (s : State) : Host.Outcome State Fault Refusal :=
  .next (s.transfer m Reg.ASH_CLAIM false fun s => State.answer (s.rdClaim m))

/-- A0 executes in the boot ROM (R313). -/
def State.a0InRom (s : State) : Bool := isRom s.a0.pc.toNat

/-- A write of ASH_CMD (R328): the holder starts a command, unless one runs. -/
def State.wrAshCmd (s : State) (m : Master) (v : Word) : State :=
  if s.ash.holder ≠ some m then s
  else if s.bit Reg.ASH_STAT 23 then s.setBit Reg.ASH_STAT 21 true
  else
    let r : AshRun := { code := fieldOf v 16 8, len := fieldOf v 0 10, master := m, rom := m == .a0 && s.a0InRom }
    let s1 := ((s.setBit Reg.ASH_STAT 23 true).setBit Reg.ASH_STAT 22 false).setBit Reg.ASH_STAT 21 false
    (s1.mapAsh fun a => { a with run := some r }).raiseAsh 0

/-- A write of ASH_REQn (R327, R328). -/
def State.wrAshReq (s : State) (m : Master) (n : Nat) (v : Word) : State :=
  if s.ash.holder = some m ∧ s.bit Reg.ASH_STAT 23 = false then s.setReg (Reg.ASH_REQ n) v else s

/-- The mailbox is released (R328): the response, a hash stream and a challenge go. -/
def State.freeMailbox (s : State) : State :=
  let s1 := s.resetRegs fun a => decide (Reg.ASH_RSP 0 ≤ a) && decide (a < Reg.ASH_RSP 512)
  s1.mapAsh fun a => { a with holder := none, stream := none, challenge := none, run := none }

/-- The running command's outcome is fixed (R329). -/
def State.fixOut (s : State) (o : Nat × List Word) : State :=
  s.mapAsh fun a => { a with run := a.run.map fun r => { r with out := some o } }

/-- The response is written, with length and final status in one tick (R328). -/
def State.respond (s : State) (o : Nat × List Word) : State :=
  let s1 := (List.range (min 512 o.2.length)).foldl (fun s i => s.setReg (Reg.ASH_RSP i) (o.2.getD i 0#24)) s
  let s2 := (s1.setFld Reg.ASH_STAT 0 8 o.1).setFld Reg.ASH_STAT 8 10 (min 512 o.2.length)
  ((s2.setBit Reg.ASH_STAT 23 false).setBit Reg.ASH_STAT 22 true |>.mapAsh fun a => { a with run := none }).raise 76

/-! ## Signatures and messages (R284, R332, R333) -/

/-- The n words of the request from word i. -/
def State.reqWords (s : State) (i n : Nat) : List Word := (List.range n).map fun k => s.reg (Reg.ASH_REQ (i + k))

/-- The 512 octets of 171 words (R332). -/
def octets512 (ws : List Word) : List Nat := (octetsOf ws).take 512

/-- A signature of 171 words over a message verifies against a key (R284). -/
def sigOk (key : Nat × Nat) (msg : List Nat) (sig : List Word) : Bool :=
  let x := natOfOctets (octets512 sig)
  decide (x < key.1) && pssVerify (sha512 msg) (octetsOfNat 512 (powMod key.1 24 x key.2 1))

/-- A signature verifies against the owner key. -/
def State.ownerSigOk (s : State) (msg : List Nat) (sig : List Word) : Bool :=
  match s.ash.owner with
  | some k => sigOk k msg sig
  | none => false

/-- n random words, as free values (R352). -/
def State.drawWords (s : State) : Nat → List Word × State
  | 0 => ([], s)
  | n + 1 =>
    let r := s.drawFree
    let rest := State.drawWords r.2 n
    (BitVec.ofNat 24 r.1 :: rest.1, rest.2)

/-- An outcome without a response. -/
abbrev AshOut := Nat × List Word × State

/-- The command fails with a status: nothing changes and its response is empty. -/
def State.ashFail (s : State) (status : Nat) : AshOut := (status, [], s)

/-- The first check that fails gives the status (R331); where none does, the command goes on. -/
def State.ashChecks (s : State) (cs : List (Bool × Nat)) (go : Unit → AshOut) : AshOut :=
  match cs.find? fun c => ! c.1 with
  | some c => s.ashFail c.2
  | none => go ()

/-! ## Checks on images (R335, R354, R355) -/

/-- Word k of the header of the image in a bank (R354). -/
def State.hdrWord (s : State) (bank k : Nat) : Word := s.mem1 (bank * 0x100000 + k)

/-- The octets of header words i to i + n − 1. -/
def State.hdrOctets (s : State) (bank i n : Nat) : List Nat := octetsOf (s.memWords (bank * 0x100000 + i) n)

/-- The length of the body of the image in a bank. -/
def State.bodyLen (s : State) (bank : Nat) : Nat := (s.hdrWord bank 4).toNat

/-- The magic, type, revision, format, signer, reserved words, body length, entry address and LK sections of a header of 256 words
are as R354 and R356 lay down; entry, where it is given, is the address that A0 starts at (R357). -/
def headerOk (h : List Word) (entry : Option Word) : Bool :=
  let w := fun k => h.getD k 0#24
  let b := (w 4).toNat
  let sec := fun k => decide ((w (k + 1)).toNat ≤ 16384) &&
    ((w (k + 1)).toNat == 0 || decide ((w k).toNat + (w (k + 1)).toNat ≤ b))
  fieldOf (w 1) 8 16 == 0x9740 && decide (fieldOf (w 1) 0 8 ≤ Config.siliconRevision.toNat) && fieldOf (w 2) 16 8 == 1
    && fieldOf (w 2) 3 13 == 0 && (fieldOf (w 2) 1 2 == 1 || fieldOf (w 2) 1 2 == 2)
    && decide (1 ≤ b) && decide (b ≤ 1048320) && decide ((w 5).toNat < 0x100000) && sec 6 && sec 8
    && ((List.range 31).all fun i => w (54 + i) == 0#24)
    && (match entry with
        | some e => w 5 == e
        | none => true)

/-- The header of the image in a bank. -/
def State.header (s : State) (bank : Nat) : List Word := s.memWords (bank * 0x100000) 256

/-- The binding of a header holds (R355, R357). -/
def boundOk (h : List Word) : Bool :=
  ! (h.getD 2 0#24).getLsbD 0 || (octetsOf ((h.drop 10).take 22)).take 64 == identityDigest

/-- The signer and the binding are allowed by the policy (R355). -/
def State.policyOk (s : State) (h : List Word) : Bool :=
  let w2 := h.getD 2 0#24
  (fieldOf w2 1 2 != 2 || s.ash.vnd) && (! s.ash.bnd || w2.getLsbD 0)

/-- The digest of the body of the image in a bank (R354). -/
def State.bodyDigest (s : State) (bank : Nat) : List Nat :=
  sha512 (octetsOf (s.memWords (bank * 0x100000 + 256) (s.bodyLen bank)))

/-- VERIFY_IMAGE checks the image of a bank (R335, R355): policy, owner, signature, then content. -/
def State.imageStatus (s : State) (bank : Nat) : Nat :=
  let h := s.header bank
  let signer := fieldOf (h.getD 2 0#24) 1 2
  let key := if signer = 2 then some (Config.vendorModulus, 65537) else s.ash.owner
  if ! s.policyOk h then 4
  else
    match key with
    | none => 0x41
    | some k =>
      if ! sigOk k (octetsOf (h.take 85)) (h.drop 85) then 9
      else if h.getD 0 0#24 == 0xB9F1A5#24 && headerOk h none && boundOk h
          && (octetsOf ((h.drop 32).take 22)).take 64 == s.bodyDigest bank then 0
      else 7

/-- A recorded body digest of a bank (R335). -/
def State.recordBody (s : State) (bank : Nat) (d : Option (List Nat)) : State :=
  s.mapAsh fun a => if bank = 0 then { a with digA := d } else { a with digB := d }

/-! ## Link keys and frame counters (R338 to R340) -/

/-- A slot's link key takes a value, or goes. -/
def State.setKey (s : State) (i : Nat) (k : Option LinkKey) : State := s.mapAsh fun a => { a with keys := setAt k a.keys i }

/-- The stored copy of a slot takes a value, or goes. -/
def State.setStored (s : State) (i : Nat) (k : Option LinkKey) : State := s.mapAsh fun a => { a with stored := setAt k a.stored i }

/-- Slots named by a mask are emptied with their stored copies. -/
def State.clearKeys (s : State) (mask : Nat) : State :=
  (List.range 32).foldl (fun s i => if mask / 2 ^ i % 2 = 1 then (s.setKey i none).setStored i none else s) s

/-- The stored envelope counter. -/
def State.envCounter (s : State) : Nat := (s.ashJ 3).toNat + fieldOf (s.ashJ 4) 0 8 * 2 ^ 24

/-- The frame-counter mark. -/
def State.mark (s : State) : Nat := fieldOf (s.ashJ 5) 0 16

/-- The content of an envelope's plaintext is valid (R338). -/
def envOk (p : List Nat) : Bool :=
  let o := fun k => p.getD k 0
  p.length == 48 && decide (o 0 < 32) && o 1 / 8 % 8 == 0 && o 1 % 8 != 0 && o 2 != 0 && (o 3 == 16 || o 3 == 32)
    && ((p.drop (8 + o 3)).take (32 - o 3)).all (· == 0) && (p.drop 40).take 8 == identityDigest.take 8

/-- The effects of an envelope after its commit point (R338). -/
def State.takeEnvelope (s : State) (p : List Nat) : State :=
  let o := fun k => p.getD k 0
  let c := natOfOctets ((p.drop 4).take 4).reverse
  let k : LinkKey := { key := (p.drop 8).take (o 3), idx := o 2, level := o 1 % 8 }
  let s1 := (s.setAshJ 3 (BitVec.ofNat 24 c)).setAshJ 4 (BitVec.ofNat 24 (c / 2 ^ 24))
  let s2 := if o 1 / 64 % 2 = 1 then
      State.setAshJ (s1.mapAsh fun a => { a with keys := (List.replicate 32 none) }) 5 0#24
    else s1
  (s2.setKey (o 0) (some k)).setStored (o 0) (if o 1 / 128 % 2 = 1 then some k else none)

/-- LOAD_LINK_KEY on an envelope of 342 words (R338), the owner and the KEK being there. -/
def State.loadEnvelope (s : State) (ws : List Word) : AshOut :=
  let ct := octets512 (ws.take 171)
  let p := oaepDecode (octetsOfNat 512 (powMod Config.identityModulus 4096 (natOfOctets ct) Config.identityPrivate 1))
  let q := p.getD []
  s.ashChecks [(s.ownerSigOk (2 :: ct) (ws.drop 171), 9),
      (p.isNone || q.length < 8 || decide (s.envCounter < natOfOctets ((q.drop 4).take 4).reverse), 0x42),
      (envOk q, 7), (! s.ash.tempOut, 4)]
    fun _ => (0, [BitVec.ofNat 24 (q.getD 0 0)], s.takeEnvelope q)

/-! ## APPLY_SEC (R347) -/

/-- The items of a SEC record take effect in order; the first that fails ends the command with its status. -/
def State.applySec (s : State) : Nat → List Word → AshOut
  | 0, _ => (0, [], s)
  | _ + 1, [] => (0, [], s)
  | n + 1, w :: ws =>
    let code := fieldOf w 12 12
    let len := fieldOf w 0 12
    if ws.length < len then (7, [], s)
    else if code = 1 ∧ len = 1 then
      let v := ws.headD 0#24
      State.applySec (s.mapAsh fun a => { a with vnd := v.getLsbD 0, bnd := v.getLsbD 1, nodbg := v.getLsbD 2 }) n (ws.drop 1)
    else if code = 2 ∧ len = 342 then
      let r := s.ashChecks [(s.ash.owner.isSome, 0x41), (! s.bit Reg.ASH_INFO 20, 0x48)] fun _ => s.loadEnvelope (ws.take 342)
      if r.1 = 0 then State.applySec r.2.2 n (ws.drop 342) else (r.1, [], r.2.2)
    else (7, [], s)

/-! ## Attestation (R336) -/

/-- Words 0–132 of an attestation report. -/
def State.reportWords (s : State) (nonce : List Word) : List Word :=
  let bs := s.reg Reg.SYS_BOOTSTAT
  let flags := b2n (s.bit Reg.NVM_STAT 15) * 32 + fieldOf bs 15 1 * 16 + fieldOf bs 13 1 * 8 + s.debugState * 2
    + b2n s.ash.owner.isSome
  [0xB9A7C5#24, BitVec.ofNat 24 (0x974000 + Config.siliconRevision.toNat), BitVec.ofNat 24 (0x010000 + flags),
    BitVec.ofNat 24 (s.profileFld 0 12 12 * 4096)]
  ++ packOctets identityDigest ++ packOctets s.ownerDigest ++ digestWords s.ash.digA ++ digestWords s.ash.digB
  ++ digestWords s.ash.digCfg
  ++ [s.reg Reg.CS_HEAD0, s.reg Reg.CS_HEAD1, s.reg Reg.CS_HIDX &&& 0x000FFF#24, s.ash.applied, s.ashJ 1, s.ashJ 2,
    BitVec.ofNat 24 s.slot.asn.toNat, BitVec.ofNat 24 (s.slot.asn.toNat / 2 ^ 24)]
  ++ packOctets ((octetsOf nonce).take 32)

/-- A signature with the identity private key over a message, with a salt of 64 octets (R284, R336). -/
def signWords (msg salt : List Nat) : List Word :=
  let em := pssEncode (sha512 msg) salt
  packOctets (octetsOfNat 512 (powMod Config.identityModulus 4096 (natOfOctets em) Config.identityPrivate 1))

/-- 64 octets of salt from the random source. -/
def State.drawSalt (s : State) : List Nat × State :=
  let r := s.drawWords 22
  ((octetsOf r.1).take 64, r.2)

/-! ## The commands (R331, R332) -/

/-- The message of the hash stream, which a command ends (R333). -/
def State.endStream (s : State) : State := s.mapAsh fun a => { a with stream := none }

/-- VERIFY_CONFIG and VERIFY_TOKEN (R333): the owner's signature over the stream, whose first octet lies in a range; rec tells
whether the digest is recorded as the configuration digest (R335). -/
def State.verifyStream (s : State) (lo hi : Nat) (rec_ : Bool) : AshOut :=
  let msg := s.ash.stream.getD []
  let s1 := s.endStream
  s1.ashChecks [(s.ash.owner.isSome, 0x41), (s.ash.stream.isSome, 0x47), (s.ownerSigOk msg (s.reqWords 0 171), 9),
      (! msg.isEmpty && decide (lo ≤ msg.headD 0) && decide (msg.headD 0 ≤ hi), 7)]
    fun _ => (0, packOctets (sha512 msg), if rec_ then s1.mapAsh fun a => { a with digCfg := some (sha512 msg) } else s1)

/-- The private-key checks of R331 and R345. -/
def State.healthy (s : State) : Bool := ! s.ash.eng.hf

/-- The KEK was rebuilt (R325). -/
def State.kekOk (s : State) : Bool := ! s.bit Reg.ASH_INFO 20

/-- A key from 172 words of the request (R332): the modulus, then e. -/
def State.reqKey (s : State) : Nat × Nat := (natOfOctets (octets512 (s.reqWords 0 171)), (s.reg (Reg.ASH_REQ 171)).toNat)

/-- TRANSFER_OWNER (R342). -/
def State.transferOwner (s : State) : AshOut :=
  let k := s.reqKey
  let d := keyDigest k.1 k.2
  let n := (s.ashJ 2).toNat + 1
  s.ashChecks [(s.ash.owner.isSome, 0x41), (s.ownerSigOk (1 :: identityDigest ++ d ++ low4 n) (s.reqWords 172 171), 9)]
    fun _ =>
      let s1 := (s.mapAsh fun a => { a with owner := some k, unlocked := false }).setAshJ 2 (BitVec.ofNat 24 n)
      let s2 := State.syncInfo (s1.clearKeys (2 ^ 32 - 1))
      (0, packOctets d, s2.logRequest 0x32 5 (BitVec.ofNat 24 n) ((packOctets (d.take 3)).headD 0#24))

/-- DEBUG_UNLOCK (R344). -/
def State.debugUnlock (s : State) : AshOut :=
  let n := (s.ashJ 6).toNat + 1
  let msg := 3 :: identityDigest ++ s.ash.challenge.getD [] ++ low4 n
  s.ashChecks [(! s.ash.nodbg, 4), (s.ash.owner.isSome, 0x41),
      (s.ash.challenge.isSome && s.ownerSigOk msg (s.reqWords 0 171), 9)]
    fun _ =>
      let s1 := (s.mapAsh fun a => { a with unlocked := true, challenge := none }).setAshJ 6 (BitVec.ofNat 24 n)
      (0, [], s1.syncInfo.logRequest 0x33 5 (BitVec.ofNat 24 n) 0#24)

/-- FCNT_RESERVE (R340). -/
def State.fcntReserve (s : State) : AshOut :=
  s.ashChecks [(decide (s.mark ≠ 0xFFFF), 4)] fun _ =>
    let b := s.mark * 65536
    (0, [BitVec.ofNat 24 b, BitVec.ofNat 24 (b / 2 ^ 24)], s.setAshJ 5 (BitVec.ofNat 24 (s.mark + 1)))

/-- FCNT_RAISE (R340). -/
def State.fcntRaise (s : State) : AshOut :=
  let v := (s.reg (Reg.ASH_REQ 0)).toNat + s.fld (Reg.ASH_REQ 1) 0 8 * 2 ^ 24
  let m := v / 65536 + 1
  s.ashChecks [(decide (m ≤ 0xFFFF), 4)] fun _ =>
    let n := max m s.mark
    (0, [BitVec.ofNat 24 n], s.setAshJ 5 (BitVec.ofNat 24 n))

/-- GET_INFO (R334). -/
def State.getInfo (s : State) : AshOut :=
  (0, [s.reg Reg.ASH_INFO] ++ packOctets identityDigest ++ packOctets s.ownerDigest
    ++ [s.ashJ 1, s.ashJ 2, BitVec.ofNat 24 s.envCounter, BitVec.ofNat 24 s.mark, BitVec.ofNat 24 s.slotMask,
        BitVec.ofNat 24 (s.slotMask / 2 ^ 24)], s)

/-- ATTEST (R336, R337). -/
def State.attest (s : State) : AshOut :=
  s.ashChecks [(s.kekOk, 0x48), (s.healthy, 0x44), (! s.ash.tempOut, 4)] fun _ =>
    let s1 := s.logReady
    let ws := s1.reportWords (s1.reqWords 0 11)
    let r := s1.drawSalt
    (0, ws ++ signWords (octetsOf ws) r.1, r.2)

/-- The read port receives an error from the image of a bank: the first of its rows that fails its check (R302, R323). -/
def State.imageBadRow (s : State) (bank : Nat) : Option Nat :=
  s.firstBadRow (bank * 0x100000) (256 + if s.bodyLen bank ≤ 1048320 then s.bodyLen bank else 0)

/-- VERIFY_IMAGE (R302, R335); an image that cannot be read is not valid (assumption 123). -/
def State.verifyImage (s0 : State) : AshOut :=
  let bank := (s0.reg (Reg.ASH_REQ 0)).toNat
  if 1 < bank then s0.ashFail 7
  else
    let bad := s0.imageBadRow bank
    let s := match bad with
      | some r => (s0.flashWord r 0).2
      | none => s0
    let own := s.imageStatus bank
    let st := if bad.isNone || own == 4 || own == 0x41 then own else 7
    if st = 0 then
      let d := s.bodyDigest bank
      (0, packOctets d ++ [s.hdrWord bank 3], s.recordBody bank (some d))
    else (st, [], s.recordBody bank none)

/-- The request length that a command takes: the least and the greatest (R332); none for a code that is not listed. -/
def ashLen : Nat → Option (Nat × Nat)
  | 0x01 | 0x10 | 0x42 | 0x50 => some (0, 0)
  | 0x02 | 0x03 | 0x13 | 0x14 => some (1, 1)
  | 0x11 => some (1, 512)
  | 0x12 | 0x31 | 0x51 => some (171, 171)
  | 0x15 => some (0, 512)
  | 0x20 => some (172, 172)
  | 0x21 => some (343, 343)
  | 0x30 => some (11, 11)
  | 0x40 => some (342, 342)
  | 0x41 | 0x43 => some (2, 2)
  | _ => none

/-- The issuer is allowed the command (R332, R335). -/
def State.ashAllowed (s : State) (r : AshRun) : Bool :=
  if r.code = 0x14 then r.rom
  else if r.code = 0x15 then r.rom && ! s.locked
  else if 0x20 ≤ r.code ∧ r.code ≠ 0x31 then r.master == .lk || r.master == .a0 || r.master == .a1
  else true

/-- What a command that passes checks 1 and 2 does (R332). -/
def State.ashCommand (s : State) (r : AshRun) : AshOut :=
  let w0 := s.reg (Reg.ASH_REQ 0)
  match r.code with
  | 0x01 => s.getInfo
  | 0x02 => (0, BitVec.ofNat 24 Config.certificate.length :: packOctets ((Config.certificate.drop (1500 * w0.toNat)).take 1500), s)
  | 0x03 =>
    s.ashChecks [(decide (1 ≤ w0.toNat) && decide (w0.toNat ≤ 512), 7), (s.healthy, 0x44)] fun _ =>
      let d := s.drawWords w0.toNat
      (0, d.1, d.2)
  | 0x10 => (0, [], s.mapAsh fun a => { a with stream := some [] })
  | 0x11 =>
    s.ashChecks [(s.ash.stream.isSome, 0x47)] fun _ =>
      (0, [], s.mapAsh fun a => { a with stream := a.stream.map (· ++ octetsOf (s.reqWords 0 r.len)) })
  | 0x12 => s.verifyStream 0x80 0xFF r.rom
  | 0x13 => s.verifyImage
  | 0x14 =>
    s.ashChecks [(decide ((s.ashJ 1).toNat ≤ w0.toNat), 4)] fun _ =>
      (0, [], (s.setAshJ 1 w0).mapAsh fun a => { a with applied := w0 })
  | 0x15 => s.applySec 512 (s.reqWords 0 r.len)
  | 0x20 =>
    s.ashChecks [(s.ash.owner.isNone, 0x40)] fun _ =>
      let k := s.reqKey
      (0, packOctets (keyDigest k.1 k.2), State.syncInfo (s.mapAsh fun a => { a with owner := some k }))
  | 0x21 => s.transferOwner
  | 0x30 => s.attest
  | 0x31 => s.verifyStream 0x10 0x7F false
  | 0x40 => s.ashChecks [(s.ash.owner.isSome, 0x41), (s.kekOk, 0x48)] fun _ => s.loadEnvelope (s.reqWords 0 342)
  | 0x41 => (0, [], s.clearKeys (w0.toNat + s.fld (Reg.ASH_REQ 1) 0 8 * 2 ^ 24))
  | 0x42 => s.fcntReserve
  | 0x43 => s.fcntRaise
  | 0x50 =>
    s.ashChecks [(s.healthy, 0x44)] fun _ =>
      let d := s.drawWords 11
      let os := (octetsOf d.1).take 32
      (0, packOctets os, d.2.mapAsh fun a => { a with challenge := some os })
  | 0x51 => s.debugUnlock
  | _ => s.ashFail 7

/-- The outcome of a command (R331): the code and the length first, then the issuer, then the command's own checks. -/
def State.ashOutcome (s : State) (r : AshRun) : AshOut :=
  let s0 := if r.code = 0x12 ∨ r.code = 0x31 then s.endStream else s
  match ashLen r.code with
  | none => s.ashFail 7
  | some (lo, hi) =>
    if r.len < lo ∨ hi < r.len then s0.ashFail 7
    else if ! s.ashAllowed r then s0.ashFail 4
    else s.ashCommand r

/-- The running command passes its commit point (R329): its effects happen and its outcome is fixed. -/
def State.ashCommit (s : State) : State :=
  match s.ash.run with
  | none => s
  | some r =>
    if r.out.isSome then s
    else
      let o := s.ashOutcome r
      o.2.2.fixOut (o.1, o.2.1)

/-- MAILBOX_RESPONSE (R328): the running command ends. -/
def execMailboxResponse (s : State) : Host.Outcome State Fault Refusal :=
  let s1 := s.ashCommit
  match s1.ash.run with
  | none => .next s1
  | some r => .next (s1.respond (r.out.getD (7, [])))

/-- The running command is withdrawn (R329): past tells whether it has passed its commit point. -/
def State.withdraw (s : State) (past : Bool) : State :=
  match s.ash.run with
  | none => s
  | some r => if past || r.out.isSome then s.ashCommit.raiseAsh 1 else (s.fixOut (2, [])).raiseAsh 1

/-- A write of ASH_CTL (R327 to R329). -/
def State.wrAshCtl (s : State) (m : Master) (v : Word) (past : Bool) : State :=
  if s.ash.holder ≠ some m then s
  else
    let s1 := if v.getLsbD 1 then s.withdraw past else s
    if v.getLsbD 0 && ! s1.bit Reg.ASH_STAT 23 then s1.freeMailbox else s1

/-- MAILBOX_RELEASE (R328). -/
def execMailboxRelease (m : Master) (v : Word) (past : Bool) (s : State) : Host.Outcome State Fault Refusal :=
  .next (s.transfer m Reg.ASH_CTL true (·.wrAshCtl m v past))

/-- WITHDRAW (R329). -/
def execWithdraw (m : Master) (v : Word) (past : Bool) (s : State) : Host.Outcome State Fault Refusal :=
  .next (s.transfer m Reg.ASH_CTL true (·.wrAshCtl m v past))

/-- A command that runs as its holder is reset ends with its final status (R9, R329, R330): its own where it is past its commit point,
ABORTED otherwise. -/
def State.endRun (s : State) : State :=
  match s.ash.run with
  | none => s
  | some r => (s.raiseAsh 1).respond (r.out.getD (2, []))

/-- A reset withdraws and releases a command and a claim of the masters it names (R330). -/
def State.dropClaim (s : State) (ms : List Master) : State :=
  match s.ash.holder with
  | none => s
  | some m =>
    if ms.contains m then s.endRun.freeMailbox else s

/-- A command with a code is written by a master, with a length (R328). -/
def State.startAsh (s : State) (m : Master) (code : Nat) (len : BitVec 10) : State :=
  s.transfer m Reg.ASH_CMD true (·.wrAshCmd m (BitVec.ofNat 24 (code * 65536 + len.toNat)))

/-- GET_INFO (R334): the command is started; its effect comes with its response. -/
def execGetInfo (m : Master) (len : BitVec 10) (s : State) : Host.Outcome State Fault Refusal := .next (s.startAsh m 0x01 len)

/-- GET_CERT (R332). -/
def execGetCert (m : Master) (len : BitVec 10) (s : State) : Host.Outcome State Fault Refusal := .next (s.startAsh m 0x02 len)

/-- RANDOM (R332). -/
def execRandom (m : Master) (len : BitVec 10) (s : State) : Host.Outcome State Fault Refusal := .next (s.startAsh m 0x03 len)

/-- HASH_START (R333). -/
def execHashStart (m : Master) (len : BitVec 10) (s : State) : Host.Outcome State Fault Refusal := .next (s.startAsh m 0x10 len)

/-- HASH_DATA (R333). -/
def execHashData (m : Master) (len : BitVec 10) (s : State) : Host.Outcome State Fault Refusal := .next (s.startAsh m 0x11 len)

/-- VERIFY_CONFIG (R333, R335). -/
def execVerifyConfig (m : Master) (len : BitVec 10) (s : State) : Host.Outcome State Fault Refusal :=
  .next (s.startAsh m 0x12 len)

/-- VERIFY_IMAGE (R335). -/
def execVerifyImage (m : Master) (len : BitVec 10) (s : State) : Host.Outcome State Fault Refusal :=
  .next (s.startAsh m 0x13 len)

/-- COMMIT_BOOT (R335). -/
def execCommitBoot (m : Master) (len : BitVec 10) (s : State) : Host.Outcome State Fault Refusal :=
  .next (s.startAsh m 0x14 len)

/-- APPLY_SEC (R347). -/
def execApplySec (m : Master) (len : BitVec 10) (s : State) : Host.Outcome State Fault Refusal := .next (s.startAsh m 0x15 len)

/-- REGISTER_OWNER (R341). -/
def execRegisterOwner (m : Master) (len : BitVec 10) (s : State) : Host.Outcome State Fault Refusal :=
  .next (s.startAsh m 0x20 len)

/-- TRANSFER_OWNER (R342). -/
def execTransferOwner (m : Master) (len : BitVec 10) (s : State) : Host.Outcome State Fault Refusal :=
  .next (s.startAsh m 0x21 len)

/-- ATTEST (R336). -/
def execAttest (m : Master) (len : BitVec 10) (s : State) : Host.Outcome State Fault Refusal := .next (s.startAsh m 0x30 len)

/-- VERIFY_TOKEN (R333). -/
def execVerifyToken (m : Master) (len : BitVec 10) (s : State) : Host.Outcome State Fault Refusal :=
  .next (s.startAsh m 0x31 len)

/-- LOAD_LINK_KEY (R338). -/
def execLoadLinkKey (m : Master) (len : BitVec 10) (s : State) : Host.Outcome State Fault Refusal :=
  .next (s.startAsh m 0x40 len)

/-- CLEAR_LINK_KEY (R338). -/
def execClearLinkKey (m : Master) (len : BitVec 10) (s : State) : Host.Outcome State Fault Refusal :=
  .next (s.startAsh m 0x41 len)

/-- FCNT_RESERVE (R340). -/
def execFcntReserve (m : Master) (len : BitVec 10) (s : State) : Host.Outcome State Fault Refusal :=
  .next (s.startAsh m 0x42 len)

/-- FCNT_RAISE (R340). -/
def execFcntRaise (m : Master) (len : BitVec 10) (s : State) : Host.Outcome State Fault Refusal :=
  .next (s.startAsh m 0x43 len)

/-- DEBUG_CHALLENGE (R344). -/
def execDebugChallenge (m : Master) (len : BitVec 10) (s : State) : Host.Outcome State Fault Refusal :=
  .next (s.startAsh m 0x50 len)

/-- DEBUG_UNLOCK (R344). -/
def execDebugUnlock (m : Master) (len : BitVec 10) (s : State) : Host.Outcome State Fault Refusal :=
  .next (s.startAsh m 0x51 len)

/-! ## Alarms and the random source (R345, R346, R352) -/

/-- An alert (R345): ASH_INFO.alert, source 77, a log entry with the alert count. -/
def State.ashAlert (s : State) (kind : Nat) : State :=
  let s1 := s.countAlert
  (s1.flagRaise Reg.ASH_INFO 19 77).logRequest 0x34 5 (BitVec.ofNat 24 kind) (s1.ashJ 7)

/-- TEMPERATURE_ALARM (R345). -/
def execTemperatureAlarm (s : State) : Host.Outcome State Fault Refusal :=
  if s.ash.tempOut then .next s
  else .next (((s.mapAsh fun a => { a with tempOut := true }).raiseAsh 10).ashAlert 2)

/-- DIE_TEMPERATURE_RETURN (R345). -/
def execDieTemperatureReturn (s : State) : Host.Outcome State Fault Refusal :=
  .next (s.mapAsh fun a => { a with tempOut := false })

/-- A glitch abandons a private-key operation that has not committed, and the RSA engine's operation (R346, R351). -/
def State.abandonPrivate (s : State) : State :=
  let s1 := match s.ash.run with
    | some r => if (r.code == 0x30 || r.code == 0x40) && r.out.isNone then s.fixOut (4, []) else s
    | none => s
  s1.mapAsh fun a => { a with eng := { a.eng with rsa := a.eng.rsa.map fun r => { r with res := none } } }

/-- HEALTH_TEST_FAIL (R352): the pool is emptied. -/
def execHealthTestFail (s : State) : Host.Outcome State Fault Refusal :=
  let s1 := s.mapAsh fun a => { a with eng := { a.eng with hf := true, avail := 0 } }
  .next ((s1.setBit Reg.ASH_INFO 17 true).raiseAsh 5)

/-- HEALTH_RECOVERED (R352). -/
def execHealthRecovered (s : State) : Host.Outcome State Fault Refusal :=
  .next (s.mapAsh fun a => { a with eng := { a.eng with hf := false } })

/-- RANDOM_DATA_READY (R352): a word joins the pool of 32, unless a health test has failed; source 4 at 16 words. -/
def execRandomDataReady (s : State) : Host.Outcome State Fault Refusal :=
  if s.ash.eng.hf || decide (32 ≤ s.ash.eng.avail) then .next s
  else
    let s1 := s.mapAsh fun a => { a with eng := { a.eng with avail := a.eng.avail + 1 } }
    .next (if s1.ash.eng.avail = 16 then s1.raiseAsh 4 else s1)

end Sys2Proof.Machine
end

