-- ==== Sys2Proof/Machine/Nvm.lean ====
section
/-! DEFINITION. Flash and journal (chapter 12): row reads with their check, execute-only regions, programs and erases with their
tickets, and journal operations. -/
namespace Sys2Proof.Machine

/-! ## A failed access of a core (R197, R199) -/

/-- A data access of a core has failed: it is taken as an imprecise fault at the next boundary (R199). An earlier one not yet
taken stays. -/
def State.postFault (s : State) (c : CoreId) (code : Nat) (efa eia : Word) : State :=
  let k := s.core c
  s.setCore c { k with fault := match k.fault with
    | some f => some f
    | none => some { code := code, efa := efa, eia := eia } }

/-- The data of a read, or a bus error, goes to the master. -/
def State.answerOr (r : Option Word × State) : State :=
  match r.1 with
  | some w => State.answer (w, { r.2 with sys := { r.2.sys with busErr := false } })
  | none => { r.2 with sys := { r.2.sys with busErr := true } }

/-! ## Tickets (R315, R316) -/

/-- Word 0 of a ticket. -/
def State.ticket0 (s : State) (t : Nat) : Word := s.mem1 (0x280040 + 2 * t)

/-- The serial number of a ticket. -/
def State.serial (s : State) (t : Nat) : Nat := (s.mem1 (0x280041 + 2 * t)).toNat

/-- The state of a ticket: 0 CLOSED, 1 OPEN, 2 SUSPENDED, 3 as OPEN. -/
def State.ticketState (s : State) (t : Nat) : Nat := fieldOf (s.ticket0 t) 22 2

/-- A ticket names a sector in state OPEN, SUSPENDED or 0b11. -/
def State.ticketNames (s : State) (t sector : Nat) : Bool := s.ticketState t != 0 && fieldOf (s.ticket0 t) 0 10 == sector

/-- A sector is HALF (R316). -/
def State.isHalf (s : State) (sector : Nat) : Bool := (List.range 64).any fun t => s.ticketNames t sector

/-- The ticket last taken, by its serial number; none where none was. -/
def State.lastTicket (s : State) : Option Nat :=
  (List.range 64).foldl (fun b t => if s.serial t = 0 then b else
    match b with
    | none => some t
    | some u => if s.serial u < s.serial t then some t else b) none

/-- The ticket that an erase takes (R315): the first CLOSED one from the one after the last taken. -/
def State.freeTicket (s : State) : Option Nat :=
  let from_ := match s.lastTicket with
    | none => 0
    | some t => t + 1
  ((List.range 64).map fun i => (from_ + i) % 64).find? fun t => s.ticketState t == 0

/-- A ticket takes a state and a sector. -/
def State.setTicket (s : State) (t st sector : Nat) : State :=
  s.setMem (0x280040 + 2 * t) (BitVec.ofNat 24 (st * 2 ^ 22 + sector % 1024))

/-- A ticket is taken for a sector (R315): the serial number first, then word 0 in state OPEN. -/
def State.takeTicket (s : State) (t sector : Nat) : State :=
  let n := match s.lastTicket with
    | none => 1
    | some u => s.serial u + 1
  (s.setMem (0x280041 + 2 * t) (BitVec.ofNat 24 n)).setTicket t 1 sector

/-- Every ticket that names a sector is closed, in ascending order (R316). -/
def State.closeTickets (s : State) (sector : Nat) : State :=
  (List.range 64).foldl (fun s t => if s.ticketNames t sector then s.setTicket t 0 sector else s) s

/-! ## Programs and erases (R305 to R311) -/

/-- The words of a sector are unconstrained from here on (R307). -/
def State.scrapSector (s : State) (sector : Nat) : State :=
  let inS := fun a => a / 2048 == sector
  { s with
    fresh := s.fresh + 1
    mem := WordMap.drop inS s.mem
    scraps := (sector, s.fresh) :: s.scraps.filter fun e => e.1 != sector
    nvm := { s.nvm with spare := WordMap.drop inS s.nvm.spare, buf := s.nvm.buf.filter fun r => ! inS r } }

/-- A sector is erased: all its words read 0xFFFFFF. -/
def State.blankSector (s : State) (sector : Nat) : State :=
  let inS := fun a => a / 2048 == sector
  { s with
    mem := WordMap.drop inS s.mem
    scraps := s.scraps.filter fun e => e.1 != sector
    nvm := { s.nvm with spare := WordMap.drop inS s.nvm.spare, buf := s.nvm.buf.filter fun r => ! inS r } }

/-- A program or erase of a bank clears the digest recorded for it (R335). -/
def State.touchBank (s : State) (bank : Nat) : State := s.recordBody bank none

/-- A row is programmed (R306). -/
def State.programRow (s : State) (row : Nat) (ws : List Word) : State :=
  ((s.setMemWords row ws).setSpare row (BitVec.ofNat 24 (crc24 ws))).unbuffer row

/-- A row whose program failed: its words are unconstrained, and it fails its check (R306, R314). -/
def State.spoilRow (s : State) (row : Nat) : State :=
  let r := s.drawWords 64
  let c := BitVec.ofNat 24 (crc24 r.1) ^^^ 1#24
  ((r.2.setMemWords row r.1).setSpare row (if c = 0xFFFFFF#24 then c ^^^ 2#24 else c)).unbuffer row

/-- NVM_STAT.busy and susp follow what runs. -/
def State.syncNvm (s : State) : State :=
  let run := s.nvm.prog.isSome || (match s.nvm.er with
    | some e => ! e.susp
    | none => false)
  let su := match s.nvm.er with
    | some e => e.susp
    | none => false
  let est := match s.nvm.er with
    | some e => if e.susp then BitVec.ofNat 24 (0x800000 + e.sector) else 0#24
    | none => 0#24
  ((s.setBit Reg.NVM_STAT 23 run).setBit Reg.NVM_STAT 22 su).setReg Reg.NVM_EST est

/-- An operation ends with a status (R309). -/
def State.nvmEnd (s : State) (status cid : Nat) : State :=
  (((s.syncNvm).setFld Reg.NVM_STAT 0 8 status).setFld Reg.NVM_STAT 20 2 cid).raise 78

/-- The NVM_STAT.cid of a master; none for one that issues no commands (R305, R309). -/
def nvmCid : Master → Option Nat
  | .lk => some 0
  | .a0 => some 1
  | .a1 => some 2
  | .dbg => some 3
  | _ => none

/-- An erase completes (R307, R316): tickets closed, the count incremented, wear reported, DONE. -/
def State.eraseDone (s : State) (e : NvmErase) : State :=
  let s1 := (s.blankSector e.sector).closeTickets e.sector
  let ca := 0x280800 + e.sector
  let n := (s1.mem1 ca).toNat
  let s2 := if n = 0xFFFFFF then s1 else s1.setMem ca (BitVec.ofNat 24 (n + 1))
  let s3 := if n + 1 = 200000 then (s2.setBit Reg.NVM_STAT 16 true).logRequest 0x21 0 (BitVec.ofNat 24 e.sector) 0#24 else s2
  State.nvmEnd { s3 with nvm := { s3.nvm with er := none } } 1 e.cid

/-- The checks of R305 for an op by a master: the status of the first that fails; none where all pass. -/
def State.nvmCheck (s : State) (m : Master) (op a : Nat) : Option Nat :=
  let sector := a / 2048
  let erRun := match s.nvm.er with
    | some e => ! e.susp
    | none => false
  let erSusp := match s.nvm.er with
    | some e => e.susp
    | none => false
  let stopping := match s.nvm.er with
    | some e => e.stopping.isSome
    | none => false
  let checks : List (Bool × Nat) :=
    [((op == 1 && a % 64 == 0) || (op == 2 && a % 2048 == 0) || op == 3 || op == 4, 7),
     ((op != 1 && op != 2) || (s.nvm.prog.isNone && ! erRun), 3), (op != 2 || ! erSusp, 3), (op != 4 || s.nvm.prog.isNone, 3),
     (op != 3 || (erRun && ! stopping), 7), (op != 4 || erSusp, 7),
     ((op != 1 && op != 2) || ! s.bit Reg.NVM_STAT 19, 0x40),
     ((op != 1 && op != 2) || ! s.xoSector sector || (m == .a0 && s.a0InRom), 4),
     (op != 1 || ! s.isHalf sector, 0x0A),
     (op != 2 || s.freeTicket.isSome, 0x43),
     (op != 1 || s.rowBlank a, 0x41)]
  (checks.find? fun c => ! c.1).map (·.2)

/-- The effect of an accepted operation. late tells for a suspend that the last verify has found the sector blank and the ticket
is CLOSED as it lands (R311). -/
def State.nvmRun (s : State) (op a cid : Nat) (late : Bool) : State :=
  match op with
  | 1 =>
    let p : NvmProg := { addr := a, words := (List.range 64).map fun i => s.reg (Reg.NVM_BUF i), cid := cid }
    State.syncNvm (State.touchBank { s with nvm := { s.nvm with prog := some p } } (bankOf a))
  | 2 =>
    let t := s.freeTicket.getD 0
    let s1 := (s.takeTicket t (a / 2048)).scrapSector (a / 2048)
    State.syncNvm (State.touchBank { s1 with nvm := { s1.nvm with er := some { sector := a / 2048, cid := cid, ticket := t } } } (bankOf a))
  | 3 =>
    match s.nvm.er with
    | none => s
    | some e =>
      if late && e.verify then (s.eraseDone e).nvmEnd 1 cid
      else { s with nvm := { s.nvm with er := some { e with stopping := some cid } } }
  | _ =>
    match s.nvm.er with
    | none => s
    | some e =>
      let s1 := s.setTicket e.ticket 1 e.sector
      State.nvmEnd { s1 with nvm := { s1.nvm with er := some { e with susp := false } } } 0 cid

/-- A write of NVM_CMD (R305). -/
def State.wrNvmCmd (s : State) (m : Master) (v : Word) (late : Bool) : State :=
  match nvmCid m with
  | none => s
  | some cid =>
    if fieldOf v 16 8 ≠ 0x97 then s
    else
      let op := fieldOf v 0 3
      let a := s.fld Reg.NVM_ADDR 0 21
      match s.nvmCheck m op a with
      | some st => s.nvmEnd st cid
      | none => s.nvmRun op a cid late

/-- PROGRAM (R305, R306). -/
def execProgram (m : Master) (v : Word) (s : State) : Host.Outcome State Fault Refusal :=
  .next (s.transfer m Reg.NVM_CMD true (·.wrNvmCmd m v false))

/-- ERASE (R305, R307). -/
def execErase (m : Master) (v : Word) (s : State) : Host.Outcome State Fault Refusal :=
  .next (s.transfer m Reg.NVM_CMD true (·.wrNvmCmd m v false))

/-- SUSPEND (R310, R311). -/
def execSuspend (m : Master) (v : Word) (late : Bool) (s : State) : Host.Outcome State Fault Refusal :=
  .next (s.transfer m Reg.NVM_CMD true (·.wrNvmCmd m v late))

/-- RESUME (R310). -/
def execResume (m : Master) (v : Word) (s : State) : Host.Outcome State Fault Refusal :=
  .next (s.transfer m Reg.NVM_CMD true (·.wrNvmCmd m v false))

/-- PROGRAM_COMPLETE (R306): DONE where every word has verified, else VERIFY. -/
def execProgramComplete (ok : Bool) (s : State) : Host.Outcome State Fault Refusal :=
  match s.nvm.prog with
  | none => .next s
  | some p =>
    let s1 := { s with nvm := { s.nvm with prog := none } }
    .next (if ok then (s1.programRow p.addr p.words).nvmEnd 1 p.cid else (s1.spoilRow p.addr).nvmEnd 0x42 p.cid)

/-- ERASE_PULSE_END (R307): from the 4th pulse on a blank verify follows. While the brown-out detector is asserted no pulse starts, and a
resumed erase waits (R314). -/
def execErasePulseEnd (s : State) : Host.Outcome State Fault Refusal :=
  match s.nvm.er with
  | none => .next s
  | some e =>
    if e.susp || e.verify || e.stopping.isSome || s.bit Reg.NVM_STAT 19 then .next s
    else
      let s1 := s.scrapSector e.sector
      .next { s1 with nvm := { s1.nvm with er := some { e with pulses := e.pulses + 1, verify := decide (4 ≤ e.pulses + 1) } } }

/-- BLANK_VERIFY_END (R307): a blank sector ends the erase with DONE, 32 pulses without one with VERIFY. -/
def execBlankVerifyEnd (blank : Bool) (s : State) : Host.Outcome State Fault Refusal :=
  match s.nvm.er with
  | none => .next s
  | some e =>
    if e.susp || ! e.verify || e.stopping.isSome then .next s
    else if blank then .next (s.eraseDone e)
    else if 32 ≤ e.pulses then .next (State.nvmEnd { s with nvm := { s.nvm with er := none } } 0x42 e.cid)
    else .next { s with nvm := { s.nvm with er := some { e with verify := false } } }

/-- SUSPEND_STOP (R310): the pulse has stopped, and the suspend ends with OK. -/
def execSuspendStop (s : State) : Host.Outcome State Fault Refusal :=
  match s.nvm.er with
  | none => .next s
  | some e =>
    match e.stopping with
    | none => .next s
    | some cid =>
      let s1 := (s.scrapSector e.sector).setTicket e.ticket 2 e.sector
      .next (State.nvmEnd { s1 with nvm := { s1.nvm with er := some { e with susp := true, stopping := none } } } 0 cid)

/-! ## Journal operations (R318 to R321) -/

/-- The offsets that an operation may write (R318). -/
def journalOpen (op off : Nat) : Bool :=
  if op = 3 then decide (0x100 ≤ off) && decide (off < 0x200)
  else (decide (0x200 ≤ off) && decide (off < 0x400)) || (decide (0x1000 ≤ off) && decide (off < 0x8000))

/-- The status of a journal command that is not begun (R319); none where it is. -/
def State.journalCheck (s : State) (m : Master) (v : Word) : Option Nat :=
  let op := fieldOf v 21 3
  let off := fieldOf v 0 16
  let n := fieldOf v 16 4 + 1
  if op = 0 ∨ 3 < op ∨ (op ≠ 2 ∧ 0x10000 < off + n) ∨ (op = 2 ∧ (off < 0xC0 ∨ 0x100 ≤ off)) then some 7
  else if s.nvm.jops.any fun j => j.master == m then some 3
  else if op ≠ 2 ∧ ((List.range n).all fun i => journalOpen op (off + i)) = false then some 4
  else none

/-- A journal operation of a master ends (R319): busy, status and source 80. -/
def State.journalEnd (s : State) (m : Master) (status : Nat) : State :=
  let busy := s.nvm.jops.any fun j => j.master == m
  (s.setLatch m Reg.NVM_JSTAT (BitVec.ofNat 24 (b2n busy * 0x800000 + status))).raise 80

/-- A write of NVM_JCMD (R319): the words are taken from the master's buffer as the command lands. -/
def State.wrJcmd (s : State) (m : Master) (v : Word) : State :=
  match nvmCid m with
  | none => s
  | some _ =>
    match s.journalCheck m v with
    | some st => s.journalEnd m st
    | none =>
      let op := fieldOf v 21 3
      let ws := if op = 2 then [] else (List.range (fieldOf v 16 4 + 1)).map fun i => s.latch m (Reg.NVM_JBUF i)
      let j : JournalOp := { master := m, op := op, off := fieldOf v 0 16, words := ws }
      let s1 := { s with nvm := { s.nvm with jops := s.nvm.jops ++ [j] } }
      s1.setLatch m Reg.NVM_JSTAT (0x800000#24 ||| (s.latch m Reg.NVM_JSTAT &&& 0xFF#24))

/-- JOURNAL_WRITE (R319). -/
def execJournalWrite (m : Master) (v : Word) (s : State) : Host.Outcome State Fault Refusal :=
  .next (s.transfer m Reg.NVM_JCMD true (·.wrJcmd m v))

/-- JOURNAL_INCREMENT (R319). -/
def execJournalIncrement (m : Master) (v : Word) (s : State) : Host.Outcome State Fault Refusal :=
  .next (s.transfer m Reg.NVM_JCMD true (·.wrJcmd m v))

/-- CALIBRATION_WRITE (R319, R321). -/
def execCalibrationWrite (m : Master) (v : Word) (s : State) : Host.Outcome State Fault Refusal :=
  .next (s.transfer m Reg.NVM_JCMD true (·.wrJcmd m v))

/-- Word 0 of the calibration set after a calibration write: fac clear and the count up by one, saturating (R321). -/
def calHeader (w : Word) : Word := BitVec.ofNat 24 (fieldOf w 16 8 * 65536 + min 0x7FFF (fieldOf w 0 15 + 1))

/-- The words of a journal operation are written in ascending order, as far as a number of them (R319 to R321); word 0 of the
calibration set is the controller's. -/
def State.journalPut (s : State) (j : JournalOp) (n : Nat) : State :=
  if j.op = 2 then
    let a := 0x280000 + j.off
    if n = 0 ∨ s.mem1 a = 0xFFFFFF#24 then s else s.setMem a (s.mem1 a + 1#24)
  else
    let ws := j.words.take n
    let s1 := s.setMemWords (0x280000 + j.off) ws
    if j.op = 3 ∧ n ≠ 0 then s1.setMem 0x280100 (calHeader (s.mem1 0x280100)) else s1

/-- JOURNAL_WRITE_DONE (R319): the oldest operation ends, with BOR where the brown-out detector was asserted as it started. -/
def execJournalWriteDone (s : State) : Host.Outcome State Fault Refusal :=
  match s.nvm.jops with
  | [] => .next s
  | j :: rest =>
    let s1 := { s with nvm := { s.nvm with jops := rest } }
    if s.bit Reg.NVM_STAT 19 then .next (s1.journalEnd j.master 0x40)
    else .next ((s1.journalPut j (max 1 j.words.length)).journalEnd j.master 1)

/-! ## The brown-out detector (R314) -/

/-- What a brown-out or a reset does to the flash operation in progress: a program leaves its row failing, an erase its ticket
as it stands; a suspended erase has no pulse. A suspend that was stopping the erase has its final status too, OK, since the erase has
stopped; the erase's own status follows (R9, R309; assumption 121). -/
def State.cutPulse (s : State) : Option Nat × State :=
  match s.nvm.prog with
  | some p => (some p.cid, State.syncNvm (State.spoilRow { s with nvm := { s.nvm with prog := none } } p.addr))
  | none =>
    match s.nvm.er with
    | some e =>
      if e.susp then (none, s)
      else
        let s1 := State.syncNvm (State.scrapSector { s with nvm := { s.nvm with er := none } } e.sector)
        (some e.cid, match e.stopping with
          | some cid => s1.nvmEnd 0 cid
          | none => s1)
    | none => (none, s)

/-- The journal operation in progress is cut after a number of its words (R320); the next ones find the detector asserted. -/
def State.cutJournal (s : State) (written : Nat) : State :=
  match s.nvm.jops with
  | [] => s
  | j :: rest => State.journalPut { s with nvm := { s.nvm with jops := rest } } j written |>.journalEnd j.master 0x40

/-- The brown-out detector asserts (R314). -/
def State.flashBrownOut (s : State) (written : Nat) : State :=
  if s.bit Reg.NVM_STAT 19 then s
  else
    let s1 := (s.setBit Reg.NVM_STAT 19 true).cutJournal written
    let r := s1.cutPulse
    match r.1 with
    | some cid => (r.2.nvmEnd 0x40 cid).raise 79
    | none => r.2

/-- FLASH_BROWN_OUT (R314, R320): written counts the words of the journal operation in progress that were still written. -/
def execFlashBrownOut (written : Nat) (s : State) : Host.Outcome State Fault Refusal := .next (s.flashBrownOut written)

/-- FLASH_BROWN_OUT_RELEASE (R314). -/
def execFlashBrownOutRelease (s : State) : Host.Outcome State Fault Refusal := .next (s.setBit Reg.NVM_STAT 19 false)

end Sys2Proof.Machine
end

