-- ==== Sys2Proof/Machine/Calendar.lean ====
section
/-! DEFINITION. Calendar arithmetic and stamps (R391, R392), the calendar set and the alarms (R394 to R397), and the supply of the
RTC domain (R400, R401). -/
namespace Sys2Proof.Machine

/-- Days in the 400 years that the calendar holds (R391). -/
def calendarDays : Nat := 146097

/-- The year in which a day since 1 January 2000 lies, and the day of that year. -/
def yearOf (y : Nat) (d : Nat) : Nat → Nat × Nat
  | 0 => (y, d)
  | n + 1 =>
    let l := if isLeap y then 366 else 365
    if d < l then (y, d) else yearOf (y + 1) (d - l) n

/-- The month and the day of the month, both from 1, of a day of a year. -/
def monthOf (y m d : Nat) : Nat → Nat × Nat
  | 0 => (m, d + 1)
  | n + 1 => if d < monthDays y m then (m, d + 1) else monthOf y (m + 1) (d - monthDays y m) n

/-- The calendar time of a number of seconds since 1 January 2000, which wraps after 2399 (R391). -/
def calendarOf (t sub : Nat) : Calendar :=
  let d := t / 86400 % calendarDays
  let r := t % 86400
  let y := yearOf 2000 d 400
  let m := monthOf y.1 1 y.2 11
  { sub := sub, sec := r % 60, min := r / 60 % 60, hour := r / 3600, day := m.2, mon := m.1, year := y.1 }

/-- The weekday, 0 Monday to 6 Sunday: 1 January 2000 was a Saturday (R391, R401). -/
def Calendar.wday (c : Calendar) : Nat := (c.days + 5) % 7

/-- The stamp of a calendar time (R392). -/
def Calendar.stamp (c : Calendar) : Word × Word :=
  (BitVec.ofNat 24 (c.day * 2 ^ 17 + c.hour * 2 ^ 12 + c.min * 2 ^ 6 + c.sec), BitVec.ofNat 24 (c.year * 16 + c.mon))

/-- The calendar time of a stamp (R392). -/
def stampTime (w0 w1 : Word) (sub : Nat) : Calendar :=
  { sub := sub, sec := fieldOf w0 0 6, min := fieldOf w0 6 6, hour := fieldOf w0 12 5, day := fieldOf w0 17 5
    mon := fieldOf w1 0 4, year := fieldOf w1 4 12 }

/-- Every field lies in its range, and the day in its month (R391, R394). -/
def Calendar.valid (c : Calendar) : Bool :=
  decide (c.sub < 32768) && decide (c.sec < 60) && decide (c.min < 60) && decide (c.hour < 24) && decide (1 ≤ c.mon)
    && decide (c.mon ≤ 12) && decide (2000 ≤ c.year) && decide (c.year ≤ 2399) && decide (1 ≤ c.day)
    && decide (c.day ≤ monthDays c.year c.mon)

/-- The calendar takes a value. -/
def State.setCal (s : State) (c : Calendar) : State := { s with rtc := { s.rtc with cal := c } }

/-- A bit of RTC_STAT sets, with source 106 (R239). -/
def State.rtcFlag (s : State) (i : Nat) : State := s.flagRaise Reg.RTC_STAT i 106

/-! ## Alarms (R395 to R397) -/

/-- An alarm is armed. -/
def State.alArmed (s : State) (n : Nat) : Bool := s.bit (Reg.RTC_ALN1 n) 23

/-- An alarm is periodic. -/
def State.alPeriodic (s : State) (n : Nat) : Bool := s.bit (Reg.RTC_ALCTL n) 22

/-- The stamp A of an alarm, in seconds. -/
def State.alBase (s : State) (n : Nat) : Nat := (stampTime (s.reg (Reg.RTC_ALT0 n)) (s.reg (Reg.RTC_ALT1 n)) 0).seconds

/-- The period of an alarm; 0 acts as 1. -/
def State.alPeriod (s : State) (n : Nat) : Nat := max 1 (s.reg (Reg.RTC_ALP n)).toNat

/-- The next occurrence N of an alarm, in seconds. -/
def State.alNext (s : State) (n : Nat) : Nat := (stampTime (s.reg (Reg.RTC_ALN0 n)) (s.reg (Reg.RTC_ALN1 n)) 0).seconds

/-- An alarm's next occurrence takes a value, and the alarm is armed. -/
def State.setNext (s : State) (n t : Nat) : State :=
  let w := (calendarOf t 0).stamp
  (s.setReg (Reg.RTC_ALN0 n) w.1).setReg (Reg.RTC_ALN1 n) (w.2 ||| 0x800000#24)

/-- The smallest occurrence at or after the calendar's time (R395). -/
def State.alOccurrence (s : State) (n : Nat) : Nat :=
  let a := s.alBase n
  let t := s.rtc.cal.seconds + (if s.rtc.cal.sub = 0 then 0 else 1)
  if ! s.alPeriodic n || decide (t ≤ a) then a else a + ceilDiv (t - a) (s.alPeriod n) * s.alPeriod n

/-- An alarm fires (R396): fired, source 102 + n; a one-shot alarm is disarmed, a periodic one goes on to its next occurrence. -/
def State.alFire (s : State) (n : Nat) : State :=
  let s1 := (s.setBit Reg.RTC_ALSTAT n true).raise (102 + n)
  if s.alPeriodic n then s1.setNext n (s.alNext n + s.alPeriod n)
  else (s1.setBit (Reg.RTC_ALCTL n) 23 false).setBit (Reg.RTC_ALN1 n) 23 false

/-- An alarm is armed, or its next occurrence formed anew at an applied set (R395, R397): an occurrence that lies at or before
the calendar's time fires at once, with skip where it lies before; occurrences passed over set skip. -/
def State.alEdge (s : State) (n : Nat) : State :=
  let was := s.alArmed n
  let old := s.alNext n
  let s1 := s.setNext n (s.alOccurrence n)
  let now := s.rtc.cal.seconds
  let nx := s1.alNext n
  let passed := was && s.alPeriodic n && decide (old < nx)
  let s2 := if passed then s1.setBit Reg.RTC_ALSTAT (4 + n) true else s1
  if nx < now ∨ (nx = now) ∧ (s.rtc.cal.sub = 0 ∨ s.alPeriodic n = false) then
    let late := decide (nx < now) || s.rtc.cal.sub != 0
    (if late then s2.setBit Reg.RTC_ALSTAT (4 + n) true else s2).alFire n
  else s2

/-- The armed alarms that the calendar has reached fire (R396). -/
def State.alReached (s : State) : State :=
  [0, 1, 2, 3].foldl (fun s n => if s.alArmed n && s.alNext n == s.rtc.cal.seconds then s.alFire n else s) s

/-! ## Supply (R400, R401) -/

/-- The domain switches over to VBK (R400): bk and the count, and the stamp of the first switch-over. -/
def State.toVbk (s : State) : State :=
  if s.rtc.onVbk then s
  else
    let s1 := { s with rtc := { s.rtc with onVbk := true } }
    let s2 := (s1.countReg Reg.RTC_SWCNT).rtcFlag 19
    if s2.bit Reg.RTC_SWTS1 23 then s2
    else
      let w := s2.rtc.cal.stamp
      (s2.setReg Reg.RTC_SWTS0 w.1).setReg Reg.RTC_SWTS1 (w.2 ||| 0x800000#24)

/-- The domain switches back to VDD (R400). -/
def State.toVdd (s : State) : State := { s with rtc := { s.rtc with onVbk := false } }

/-- A register of the RTC block. -/
def isRtcReg (a : Nat) : Bool := decide (0xF03000 ≤ a) && decide (a < 0xF04000)

end Sys2Proof.Machine
end

