-- ==== Sys2Proof/Machine/Reset.lean ====
section
/-! DEFINITION. Restarts of the cores and the four reset classes (R26 to R30, R201, R205, R330, R468), and their commands. -/
namespace Sys2Proof.Machine

/-! ## Cores -/

/-- The base of the active link RAM bank (R143). -/
def State.lkBase (s : State) : Nat := 0xD00000 + s.fld Reg.SLOT_LKBANK 23 1 * 0x4000

/-- A core after a reset that reaches it (R205). -/
def freshCore (pc ivb : Nat) (r : RunState) : CoreState := { pc := BitVec.ofNat 24 pc, ivb := BitVec.ofNat 24 ivb, run := r }

/-- LK at word 0 of the active bank (R205). -/
def State.freshLk (s : State) (r : RunState) : CoreState :=
  { freshCore s.lkBase (s.lkBase + 0x3F00) r with noClock := s.lk.noClock }

/-- A0 or A1 at the start of the boot ROM (R205); a wait under R268 ends at the reset, one in deep sleep does not. -/
def State.freshApp (s : State) (k : CoreState) (r : RunState) : CoreState :=
  { freshCore 0xE00000 0xE07F00 r with noClock := k.noClock && s.asleep }

/-- LK has been released since the last power or system reset (R469). -/
def State.lkReleased (s : State) : Bool := s.bit Reg.SYS_CORECTL 0

/-- LK restarts as after a link reset (R26, R143, R201, R330, R468): a bank switch that waits is forgotten, its sources end, its mailbox
claim goes, and coast mode begins. -/
def State.restartLk (s : State) (r : RunState) : State :=
  let s1 := { (s.setBit Reg.SLOT_LKBANK 22 false) with lk := s.freshLk (if s.lkReleased then r else .held) }
  ((s1.clearActive 0).dropClaim [.lk]).enterCoast

/-- A1 as it is released (R469): the boot ROM code that it runs jumps to SYS_A1ENT, or waits in `wfi` where that is 0. -/
def State.releasedA1 (s : State) : CoreState :=
  let k := s.freshApp s.a1 .run
  if s.reg Reg.SYS_A1ENT = 0#24 then { k with run := .wfi } else { k with pc := s.reg Reg.SYS_A1ENT }

/-- A write of SYS_CORECTL (R469). -/
def State.wrCorectl (s : State) (v : Word) : State :=
  let s1 := if v.getLsbD 1 && ! s.bit Reg.SYS_CORECTL 1 then
      { (s.setBit Reg.SYS_CORECTL 1 true) with a1 := s.releasedA1 }
    else s
  if v.getLsbD 0 && ! s1.bit Reg.SYS_CORECTL 0 then
    let s2 := s1.setBit Reg.SYS_CORECTL 0 true
    { s2 with lk := s2.freshLk .run }
  else s1

/-! ## What a reset reaches (R26) -/

/-- What of a flash operation any reset ends (R314). -/
def State.resetFlash (s : State) : State :=
  let r := s.cutPulse
  let s1 := match r.1 with
    | some cid => (r.2.nvmEnd 0x40 cid).raise 79
    | none => r.2
  State.syncNvm { s1 with nvm := { s1.nvm with er := none } }

/-- What any reset ends of the journal operations (R320): of the one in progress a free number of words is still written, and none of those
behind it; each has its final status (assumption 125). -/
def State.resetJournal (s : State) : State :=
  match s.nvm.jops with
  | [] => s
  | j :: rest =>
    let r := s.drawFree
    let s1 := State.journalPut { r.2 with nvm := { r.2.nvm with jops := [] } } j (r.1 % (max 1 j.words.length + 1))
    (j :: rest).foldl (fun t j => t.journalEnd j.master 0x40) s1

/-- A register that keeps its value through a power or system reset: the RTC block, SYS_OFFSTAT and the recorded causes
(R26, R276). -/
def keptReg (a : Nat) : Bool := isRtcReg a || a == Reg.SYS_OFFSTAT || a == Reg.SYS_RSTCAUSE

/-- The part with everything that a power or system reset reaches at its reset value (R26): memory, the journal, the configuration memory, the OTP words, the
key store, the RTC domain, the levels at the pins and the failed 32 kHz clock are kept, and no core runs. Generation-1
behaviour is sampled anew at the release (R299). A debug reset keeps the probe attached and the bits of its cores (R438). -/
def State.cleared (s : State) (keepDbg : Bool) : State :=
  let regs := WordMap.drop (fun a => ! (keptReg a || (keepDbg && decide (0xF13000 ≤ a) && decide (a < 0xF14000)))) s.regs
  let s1 : State :=
    { pending := s.pending, fresh := s.fresh, regs := regs
      latches := WordMap.drop (fun k => ! isRtcReg (k % 0x1000000)) s.latches
      mem := s.mem, losses := s.losses, scraps := s.scraps
      lk := freshCore 0xD00000 0xD03F00 .held, a0 := freshCore 0xE00000 0xE07F00 .held
      a1 := freshCore 0xE00000 0xE07F00 .held, ashc := { run := .held }
      sys := { inReset := s.sys.inReset, pinLow := s.sys.pinLow, vddLow := s.sys.vddLow, x32Fail := s.sys.x32Fail
               power := s.sys.power, rdata := s.sys.rdata, busErr := s.sys.busErr }
      nvm := { spare := s.nvm.spare }
      rtc := s.rtc
      rfe := { otp := s.rfe.otp, otpLocked := s.rfe.otpLocked }
      ash := { stored := s.ash.stored, owner := s.ash.owner, tempOut := s.ash.tempOut }
      gpio := { ext := s.gpio.ext }, nor := s.nor
      dbg := if keepDbg then s.dbg else {} }
  s1.setBit Reg.SYS_CLKSTAT 16 (! s.sys.x32Fail)

/-- SRAM and link RAM lose their contents (R26). -/
def State.loseAll (s : State) : State := (List.range 9).foldl State.loseRegion s

/-- A reset of a class takes hold (R26, R27). -/
def State.takeReset (s : State) (c : ResetClass) (keepDbg : Bool) : State :=
  let s1 := s.resetFlash.resetJournal
  let s0 := { s1 with sys := { s1.sys with inReset := some c } }
  match c with
  | .link => s0.restartLk .held
  | .application =>
    let s1 := { (s0.setBit Reg.SYS_CORECTL 1 false) with a0 := s0.freshApp s0.a0 .held, a1 := s0.freshApp s0.a1 .held }
    let s2 := ((s1.clearActive 1).clearActive 2).dropClaim [.a0, .a1]
    { s2 with sys := { s2.sys with wdCount := 0, wdDiv := 0 }, hl := { s2.hl with wait := [], dali := none }, upd := {} }
  | .system => s0.cleared keepDbg
  | .power => (s0.cleared false).loseAll

/-- The width of a reset class. -/
def ResetClass.width : ResetClass → Nat
  | .link => 0
  | .application => 1
  | .system => 2
  | .power => 3

/-- A cause is registered (R27, R254): its bit of SYS_RSTCAUSE is set, the Ashlar's source 14 tells of the request, and the reset takes hold unless one of the same class or a
wider one is in progress. A power reset clears the bits recorded before it. -/
def State.registerCause (s : State) (c : ResetClass) (causes : Nat) (keepDbg : Bool) : State :=
  let held := match s.sys.inReset with
    | none => false
    | some c' => decide (c.width ≤ c'.width)
  let old := if c = .power ∧ held = false then 0#24 else s.reg Reg.SYS_RSTCAUSE
  let s1 := (s.setReg Reg.SYS_RSTCAUSE (old ||| BitVec.ofNat 24 causes)).raiseAsh 14
  if held then s1 else s1.takeReset c keepDbg

/-- A write of SYS_RSTCTL (R30): with the key, the widest class asked for. -/
def State.wrRstctl (s : State) (v : Word) : State :=
  if fieldOf v 8 16 ≠ 0x9740 ∨ fieldOf v 0 3 = 0 then s
  else
    let causes := fieldOf v 2 1 * 32 + fieldOf v 1 1 * 16 + fieldOf v 0 1 * 8
    s.registerCause (if v.getLsbD 2 then .system else if v.getLsbD 1 then .application else .link) causes false

/-- SYSTEM_RESET_REQUEST (R30). -/
def execSystemResetRequest (v : Word) (s : State) : Host.Outcome State Fault Refusal := .next (s.onBus (·.wrRstctl v))

/-- APPLICATION_RESET_REQUEST (R30). -/
def execApplicationResetRequest (v : Word) (s : State) : Host.Outcome State Fault Refusal := .next (s.onBus (·.wrRstctl v))

/-- LINK_RESET_REQUEST (R30). -/
def execLinkResetRequest (v : Word) (s : State) : Host.Outcome State Fault Refusal := .next (s.onBus (·.wrRstctl v))

/-- The part starts with a power reset from off-with-RTC (R276). -/
def State.startFromOff (s : State) : State :=
  let s1 := { s with sys := { s.sys with power := .on, inReset := none } }
  (s1.setBit Reg.SYS_OFFSTAT 0 true).registerCause .power 1 false

/-- RESET_PIN (R27, R276): RESET_N is held low; it ends off-with-RTC. -/
def execResetPin (s : State) : Host.Outcome State Fault Refusal :=
  let s1 := { s with sys := { s.sys with pinLow := true } }
  if s.sys.power = .off then .next (s1.startFromOff.registerCause .system 4 false)
  else .next (s1.registerCause .system 4 false)

/-- Generation-1 behaviour is selected (R299, R300). -/
def State.selectGen1 (s : State) : State :=
  let s1 := ((s.setBit Reg.SLOT_CTL 20 true).setBit Reg.HOP_CTL 22 true).setBit Reg.INT_CTL 23 true
  (s1.setBit Reg.SYS_BOOTSTAT 13 true).setReg Reg.TB_SLOTLEN 2000000#24

/-- The enclave starts (R325, R338): the KEK is rebuilt or not, and the persistent link keys are loaded. -/
def State.startAshlar (s : State) (kekOk : Bool) : State :=
  let s1 := s.mapAsh fun a => { a with keys := if kekOk then a.stored else List.replicate 32 none }
  let s2 := if kekOk then s1.raiseAsh 6 else (s1.setBit Reg.ASH_INFO 20 true).logRequest 0x30 5 0#24 0#24
  { s2.syncInfo with ashc := { s2.ashc with run := .run } }

/-- The power mode after the release of a reset: a power or system reset leaves the part on, a narrower one in deep sleep begins the
exit. -/
def State.powerAfter (s : State) (c : ResetClass) : PowerMode :=
  match c with
  | .power => .on
  | .system => .on
  | _ => if s.sys.power == .deepSleep then .exiting else s.sys.power

/-- The reset in progress is released (R27, R205, R299, R325): compatHigh is the level of the COMPAT pad, and kekOk tells whether the
KEK was rebuilt. A power reset waits for VDD, and off-with-RTC for what ends it. -/
def State.releaseReset (s : State) (compatHigh kekOk : Bool) : State :=
  match s.sys.inReset with
  | none => s
  | some c =>
    if s.sys.vddLow || s.sys.power == .off then s
    else
      let s1 := { s with sys := { s.sys with inReset := none, pinLow := false, power := s.powerAfter c } }
      match c with
      | .link => { s1 with lk := { s1.lk with run := if s1.lkReleased then .run else .held } }
      | .application => { s1 with a0 := { s1.a0 with run := .run } }
      | _ =>
        let s2 := { s1 with a0 := { s1.a0 with run := .run } }
        let s3 := if compatHigh then (s2.setBit Reg.SYS_BOOTSTAT 12 true).selectGen1 else s2
        s3.startAshlar kekOk

/-- RESET_RELEASE (R27). -/
def execResetRelease (compatHigh kekOk : Bool) (s : State) : Host.Outcome State Fault Refusal :=
  .next (s.releaseReset compatHigh kekOk)

/-! ## Supplies (R277, R278, R452) -/

/-- VDD falls below the brown-out level (R278, R400): a power reset begins, and the RTC domain goes over to VBK. -/
def State.brownOut (s : State) : State :=
  let s1 := { s.toVbk with sys := { s.toVbk.sys with vddLow := true } }
  if s.sys.power = .off then s1 else s1.registerCause .power 2 false

/-- BROWN_OUT (R278). -/
def execBrownOut (s : State) : Host.Outcome State Fault Refusal := .next s.brownOut

/-- VDD is absent: with the power reset of the brown-out the part is in off-with-RTC (R271; assumption 107). -/
def State.vddAbsent (s : State) : State := { s.brownOut with sys := { s.brownOut.sys with power := .off } }

/-- BACKUP_SWITCH_OVER (R271, R400): it comes with a power reset of the rest of the part, which the RTC domain alone outlasts. -/
def execBackupSwitchOver (s : State) : Host.Outcome State Fault Refusal := .next s.vddAbsent

/-- BACKUP_SWITCH_BACK (R400). -/
def execBackupSwitchBack (s : State) : Host.Outcome State Fault Refusal := .next s.toVdd

/-- POWER_UP (R278, R452): VDD rises above the release level; the power reset is released where RESET_N is high. Off-with-RTC
ends with a power reset (R276). -/
def execPowerUp (resetNHigh compatHigh kekOk : Bool) (s : State) : Host.Outcome State Fault Refusal :=
  let s1 := { s.toVdd with sys := { s.toVdd.sys with vddLow := false, pinLow := ! resetNHigh } }
  let s2 := if s.sys.power = .off then s1.startFromOff else s1
  if s2.sys.inReset = some .power ∧ resetNHigh = true then .next (s2.releaseReset compatHigh kekOk) else .next s2

/-- RTC_DOMAIN_LOSS (R401): the domain starts as at its first power-up. -/
def execRtcDomainLoss (s : State) : Host.Outcome State Fault Refusal :=
  let s1 := s.resetRegs isRtcReg
  let s2 := { s1 with rtc := { onVbk := s1.rtc.onVbk }, latches := WordMap.drop (fun k => isRtcReg (k % 0x1000000)) s1.latches }
  .next ((s2.setReg Reg.SYS_OFFSTAT 0#24).raise 106)

/-- VDD_WARNING (R278): VDD is below the warning level. -/
def execVddWarning (s : State) : Host.Outcome State Fault Refusal :=
  if s.bit Reg.SYS_SUPCTL 9 && ! s.bit Reg.SYS_SUPSTAT 1 then
    .next ((s.setBit Reg.SYS_SUPSTAT 1 true).flagRaise Reg.SYS_SUPSTAT 0 83)
  else .next s

/-- VDD_WARNING_RELEASE (R278). -/
def execVddWarningRelease (s : State) : Host.Outcome State Fault Refusal := .next (s.setBit Reg.SYS_SUPSTAT 1 false)

/-! ## Watchdog (R29) -/

/-- The watchdog's count and divider restart. -/
def State.wdRestart (s : State) : State := { s with sys := { s.sys with wdCount := 0, wdDiv := 0 } }

/-- A write of SYS_WDKICK. -/
def State.wrWdkick (s : State) (v : Word) : State := if v = 0x00A5C3#24 then s.wdRestart else s

/-- WATCHDOG_KICK (R29). -/
def execWatchdogKick (v : Word) (s : State) : Host.Outcome State Fault Refusal := .next (s.onBus (·.wrWdkick v))

/-- A write of SYS_WDCTL (R29): the one that sets en starts the count. -/
def State.wrWdctl (s : State) (v : Word) : State :=
  let s1 := s.storeReg Reg.SYS_WDCTL v
  if s1.bit Reg.SYS_WDCTL 23 && ! s.bit Reg.SYS_WDCTL 23 then s1.wdRestart else s1

/-- WATCHDOG_ENABLE (R29). -/
def execWatchdogEnable (v : Word) (s : State) : Host.Outcome State Fault Refusal := .next (s.onBus (·.wrWdctl v))

/-- The watchdog counts: it is enabled, also while a link or an application reset is in progress, and no debug halt holds it under wdf
(R26, R29, R436); a power or system reset has cleared its enable. -/
def State.wdRuns (s : State) : Bool :=
  s.bit Reg.SYS_WDCTL 23
    && ! (s.bit Reg.DBG_CTL 20 && (s.lk.dbgHalt || s.a0.dbgHalt || s.a1.dbgHalt))

/-- RTC cycles of the watchdog's timeout (R29). -/
def State.wdTimeout (s : State) : Nat := (s.fld Reg.SYS_WDCTL 0 12 + 1) * 512

/-- RTC cycles pass at the watchdog; the last one before its timeout is not passed here. -/
def State.wdPass (s : State) (n : Nat) : State :=
  if s.wdRuns then
    let c := min (s.sys.wdCount * 512 + s.sys.wdDiv + n) (s.wdTimeout - 1)
    { s with sys := { s.sys with wdCount := c / 512, wdDiv := c % 512 } }
  else s

/-- WATCHDOG_TIMEOUT (R29): the count reaches the timeout and raises the reset of its class. -/
def execWatchdogTimeout (s : State) : Host.Outcome State Fault Refusal :=
  if s.wdRuns then
    .next (s.wdRestart.registerCause (if s.bit Reg.SYS_WDCTL 22 then .system else .application) 64 false)
  else .next s

/-- GLITCH (R345, R346): gap is the time since the last glitch in milliseconds. The fourth within 60 s asks for a system
reset. -/
def execGlitch (gap : Nat) (s : State) : Host.Outcome State Fault Refusal :=
  let g := (gap :: s.ash.gaps).take 3
  let s1 := ((s.abandonPrivate.mapAsh fun a => { a with gaps := g }).raiseAsh 9).ashAlert 1
  if g.length = 3 ∧ g.foldl (· + ·) 0 ≤ 60000 ∧ 3 ≤ s.ash.gaps.length then .next (s1.registerCause .system 256 false)
  else .next s1

end Sys2Proof.Machine
end

