-- ==== Sys2Proof/Machine/Rtc.lean ====
section
/-! DEFINITION. The real-time clock (chapter 16): seconds, trim, shadows, sets and alarms, and its commands. -/
namespace Sys2Proof.Machine

/-! ## Seconds and trim (R391, R396, R403) -/

/-- What alarms that fire do to the part that is off with RTC (R276, R398): one enabled for it starts the part. f fires them, with the
fired bits of those that fired before put back behind it. -/
def State.firing (s : State) (f : State → State) : State :=
  let old := s.reg Reg.RTC_ALSTAT &&& 0xF#24
  let t := f (s.setFld Reg.RTC_ALSTAT 0 4 0)
  let new := t.fld Reg.RTC_ALSTAT 0 4
  let u := t.setReg Reg.RTC_ALSTAT (t.reg Reg.RTC_ALSTAT ||| old)
  if s.sys.power == .off && [0, 1, 2, 3].any fun n => new.testBit n && s.bit (Reg.RTC_ALCTL n) 21 then u.startFromOff else u

/-- The second advances, with a subsecond (R391, R396): source 107, and the alarms that are due. -/
def State.nextSecond (s : State) (sub : Nat) : State :=
  ((s.setCal (calendarOf (s.rtc.cal.seconds + 1) sub)).raise 107).firing State.alReached

/-- The trim t; none is applied on the RC (R399, R403). -/
def State.rtcTrim (s : State) : Int := if s.sys.x32Fail then 0 else signed 16 (s.fld Reg.RTC_TRIM 0 16)

/-- n RTC edges pass at the trim accumulator and the watchdog, none of them a carry or a borrow. -/
def State.rtcEdges (s : State) (n : Nat) : State :=
  let s1 := { s with rtc := { s.rtc with acc := s.rtc.acc + BitVec.ofInt 24 (n * s.rtcTrim) } }
  s1.wdPass n

/-- RTC_SECOND (R391): the edges to the wrap of the subsecond pass, and the second advances. -/
def execRtcSecond (s : State) : Host.Outcome State Fault Refusal :=
  .next ((s.rtcEdges (32768 - s.rtc.cal.sub)).nextSecond 0)

/-- The edges until the trim accumulator carries or borrows, the edge of it included. -/
def State.trimEdges (s : State) : Nat :=
  if 0 < s.rtcTrim then ceilDiv (2 ^ 24 - s.rtc.acc.toNat) s.rtcTrim.natAbs else s.rtc.acc.toNat / s.rtcTrim.natAbs + 1

/-- RTC_TRIM_CARRY (R403): the edges up to the carry or the borrow pass in the second in progress, and the subsecond steps by 2 or
holds in that edge; a second that the step passes over advances the calendar. -/
def execRtcTrimCarry (s : State) : Host.Outcome State Fault Refusal :=
  let t := s.rtcTrim
  let sub := s.rtc.cal.sub + s.trimEdges - 1
  if t = 0 ∨ 32768 ≤ sub then .next s
  else
    let s1 := s.rtcEdges s.trimEdges
    let new := if 0 < t then sub + 2 else sub
    if new < 32768 then .next (s1.setCal { s1.rtc.cal with sub := new }) else .next (s1.nextSecond (new - 32768))

/-! ## Shadows (R393) -/

/-- A master that has a shadow of the calendar. -/
def hasShadow : Master → Bool
  | .lk | .a0 | .a1 | .dbg => true
  | _ => false

/-- The calendar registers as they read at present. -/
def State.calWord (s : State) (a : Nat) : Word :=
  let c := s.rtc.cal
  BitVec.ofNat 24 (if a = Reg.RTC_SUBSEC then c.sub else if a = Reg.RTC_SEC then c.sec else if a = Reg.RTC_MIN then c.min
    else if a = Reg.RTC_HOUR then c.hour else if a = Reg.RTC_DAY then c.wday * 256 + c.day
    else if a = Reg.RTC_MON then c.mon else c.year)

/-- The calendar registers. -/
def calRegs : List Nat :=
  [Reg.RTC_SUBSEC, Reg.RTC_SEC, Reg.RTC_MIN, Reg.RTC_HOUR, Reg.RTC_DAY, Reg.RTC_MON, Reg.RTC_YEAR]

/-- A master's shadow is frozen. -/
def State.isFrozen (s : State) (m : Master) : Bool := s.rtc.frozen.contains m.index

/-- A master's shadow is released. -/
def State.thaw (s : State) (m : Master) : State := { s with rtc := { s.rtc with frozen := s.rtc.frozen.filter (· != m.index) } }

/-- A read of a calendar register by a master (R393). -/
def State.rdCal (s : State) (m : Master) (a : Nat) : Word × State :=
  if ! hasShadow m then (s.calWord a, s)
  else if a = Reg.RTC_SUBSEC then
    let s1 := calRegs.foldl (fun s a => s.setLatch m a (s.calWord a)) s
    (s.calWord a, { s1 with rtc := { s1.rtc with frozen := m.index :: s1.rtc.frozen.filter (· != m.index) } })
  else if s.isFrozen m then (s.latch m a, if a = Reg.RTC_YEAR then s.thaw m else s)
  else (s.calWord a, s)

/-- CALENDAR_FREEZE (R393). -/
def execCalendarFreeze (m : Master) (s : State) : Host.Outcome State Fault Refusal :=
  .next (s.transfer m Reg.RTC_SUBSEC false fun s => State.answer (s.rdCal m Reg.RTC_SUBSEC))

/-- CALENDAR_RELEASE (R393). -/
def execCalendarRelease (m : Master) (s : State) : Host.Outcome State Fault Refusal :=
  .next (s.transfer m Reg.RTC_YEAR false fun s => State.answer (s.rdCal m Reg.RTC_YEAR))

/-- SHADOW_STALE (R393). -/
def execShadowStale (m : Master) (s : State) : Host.Outcome State Fault Refusal :=
  if s.isFrozen m then .next ((s.thaw m).rtcFlag 20) else .next s

/-! ## Setting the calendar (R394) -/

/-- A write of RTC_SETCTL: a set is requested, or refused with serr. -/
def State.wrSetCtl (s : State) (v : Word) : State :=
  let s1 := s.setFld Reg.RTC_SETCTL 0 15 (fieldOf v 0 15)
  if ! v.getLsbD 23 then s1
  else
    let c := stampTime (s.reg Reg.RTC_SETT0) (s.reg Reg.RTC_SETT1) (fieldOf v 0 15)
    if c.valid then { (s1.setBit Reg.RTC_SETCTL 23 true) with rtc := { s1.rtc with set := some c } }
    else
      let s2 := (s1.setBit Reg.RTC_SETCTL 23 false).setBit Reg.RTC_STAT 18 true
      { s2 with rtc := { s2.rtc with set := none } }

/-- CALENDAR_SET_REQUEST (R394). -/
def execCalendarSetRequest (v : Word) (s : State) : Host.Outcome State Fault Refusal := .next (s.onBus (·.wrSetCtl v))

/-- CALENDAR_SET (R394, R395, R397): at the RTC edge the calendar takes the set time, and every armed alarm is formed anew. -/
def execCalendarSet (s : State) : Host.Outcome State Fault Refusal :=
  match s.rtc.set with
  | none => .next s
  | some c =>
    let s1 := (s.rtcEdges 1).setBit Reg.RTC_SETCTL 23 false
    let s2 := { s1 with rtc := { s1.rtc with cal := c, set := none } }
    .next (s2.firing fun s => [0, 1, 2, 3].foldl (fun s n => if s.alArmed n then s.alEdge n else s) s)

/-! ## Alarms (R395, R396) -/

/-- A write of RTC_ALnCTL: a stamp that a set would refuse makes a write that enables the alarm ignored. -/
def State.wrAlCtl (s : State) (n : Nat) (v : Word) : State :=
  let a := Reg.RTC_ALCTL n
  if v.getLsbD 23 && ! s.bit a 23 && ! (stampTime (s.reg (Reg.RTC_ALT0 n)) (s.reg (Reg.RTC_ALT1 n)) 0).valid then
    s.setBit Reg.RTC_STAT 18 true
  else
    let s1 := s.storeReg a v
    if s1.bit a 23 then s1 else s1.setBit (Reg.RTC_ALN1 n) 23 false

/-- A write of RTC_ALnT0, RTC_ALnT1 or RTC_ALnP, ignored while the alarm is enabled. -/
def State.wrAlTime (s : State) (n a : Nat) (v : Word) : State := if s.bit (Reg.RTC_ALCTL n) 23 then s else s.storeReg a v

/-- ALARM_ENABLE (R395). -/
def execAlarmEnable (n : Fin 4) (v : Word) (s : State) : Host.Outcome State Fault Refusal := .next (s.onBus (·.wrAlCtl n.val v))

/-- ALARM_ARM (R395, R397): an enabled alarm is armed at the RTC edge. -/
def execAlarmArm (n : Fin 4) (s : State) : Host.Outcome State Fault Refusal :=
  if s.bit (Reg.RTC_ALCTL n.val) 23 && ! s.alArmed n.val then .next (s.firing (·.alEdge n.val))
  else .next s

/-- ALARM_FIRE (R396): the calendar reaches the next occurrence of an armed alarm, which is that of the next second. -/
def execAlarmFire (n : Fin 4) (s : State) : Host.Outcome State Fault Refusal :=
  if s.alArmed n.val && s.alNext n.val == (calendarOf (s.rtc.cal.seconds + 1) 0).seconds then
    .next ((s.rtcEdges (32768 - s.rtc.cal.sub)).nextSecond 0)
  else .next s

/-! ## Flags (R399, R400, R402) -/

/-- A write of RTC_STAT: osf stays while the 32 kHz clock is failed, and lost takes logd with it. -/
def State.wrRtcStat (s : State) (v : Word) : State :=
  let v1 := if s.sys.x32Fail then withBit v 23 false else v
  let s1 := s.storeReg Reg.RTC_STAT v1
  if v.getLsbD 22 then s1.setBit Reg.RTC_STAT 21 false else s1

/-- LOSS_CLEAR (R402). -/
def execLossClear (v : Word) (s : State) : Host.Outcome State Fault Refusal := .next (s.onBus (·.wrRtcStat v))

/-- A write of RTC_SWTS1: a 1 to v clears both words. -/
def State.wrSwts1 (s : State) (v : Word) : State :=
  if v.getLsbD 23 then (s.setReg Reg.RTC_SWTS0 0#24).setReg Reg.RTC_SWTS1 0#24 else s

/-- SWITCH_OVER_STAMP_CLEAR (R400). -/
def execSwitchOverStampClear (v : Word) (s : State) : Host.Outcome State Fault Refusal := .next (s.onBus (·.wrSwts1 v))

end Sys2Proof.Machine
end

