-- ==== Sys2Proof/Machine/Phy.lean ====
section
/-! DEFINITION. The physical layer (chapter 04): the loading store, loading tables and their proposals, headers, metadata and
survey samples. -/
namespace Sys2Proof.Machine

/-! ## The loading store (R98) -/

/-- The store is in use. -/
def State.lsOn (s : State) : Bool := s.bit Reg.PHY_LSCTL 0 && ! s.bit Reg.PHY_LSCTL 23

/-- The address of word i of the store. -/
def State.lsAddr (s : State) (i : Nat) : Nat := (s.reg Reg.PHY_LSBASE).toNat + i

/-- Word i of the store, as the radio datapath's port reads it (R11, R98). -/
def State.lsWord (s : State) (i : Nat) : Word := s.radioWord (s.lsAddr i)

/-- Word i of the store takes a value; outside SRAM the write ends with a bus error (R11, R15, R98). -/
def State.setLsWord (s : State) (i : Nat) (v : Word) : State := s.sramStore (s.lsAddr i) v

/-- Words of the store from word i take the words of a list. -/
def State.setLsWords (s : State) (i : Nat) (ws : List Word) : State := s.sramStores (s.lsAddr i) ws

/-- The index of word w of the entry of neighbour n. -/
def lsEntry (n w : Nat) : Nat := 64 + 64 * n + w

/-- Octet k of a group of octets from word i of the store. -/
def State.lsOctet (s : State) (i k : Nat) : Nat := octetOf (s.lsWord (i + k / 3)) (k % 3)

/-- Octet k of a group of octets from word i of the store takes a value. -/
def State.setLsOctet (s : State) (i k v : Nat) : State :=
  s.setLsWord (i + k / 3) (withOctet (s.lsWord (i + k / 3)) (k % 3) v)

/-- The number of survey samples of a class. -/
def State.surveyCount (s : State) (c : Nat) : Nat := fieldOf (s.lsWord (32 + c)) 0 8

/-- The tag in force for a class of neighbour n. -/
def State.tagInForce (s : State) (n c : Nat) : Nat := fieldOf (s.lsWord (lsEntry n 15)) (21 - 3 * c) 3

/-- A proposal of neighbour n is pending with a class and tag (R100). -/
def State.proposalIs (s : State) (n c tag : Nat) : Bool :=
  let w := s.lsWord (lsEntry n 15)
  w.getLsbD 11 && fieldOf w 9 2 == c && fieldOf w 6 3 == tag

/-! ## Loading tables (R88 to R92, R102, R103) -/

/-- The table that a sender uses (R102). -/
structure TxTable where
  /-- Tag, 0 for the bare table. -/
  tag : Nat
  /-- Class c of the entry in the neighbour's class map, whose fail and fb count. -/
  cls : Nat
  /-- The class of the header: c where the map is held, 0 otherwise. -/
  hcls : Nat
  /-- Rate 3/4. -/
  rate : Bool
  /-- Table words. -/
  tab : List Word
  deriving DecidableEq, Repr

/-- The bare table. -/
def bareTable (c hc : Nat) : TxTable := { tag := 0, cls := c, hcls := hc, rate := false, tab := [] }

/-- The table for a unicast Seam frame to neighbour n on hopping-list entry e (R102). -/
def State.txTable (s : State) (n e : Nat) : TxTable :=
  if ! s.lsOn then bareTable 0 0
  else
    let st := s.lsWord (lsEntry n 58)
    let c := fieldOf (s.lsWord (lsEntry n (52 + e / 12))) (22 - 2 * (e % 12)) 2
    let tag := fieldOf (s.nbrWord n 12) (21 - 3 * c) 3
    if st.getLsbD 2 = false then bareTable c 0
    else if st.getLsbD (14 - c) || tag == 0 then bareTable c c
    else { tag := tag, cls := c, hcls := c, rate := (s.nbrWord n 12).getLsbD (11 - c), tab := s.memWords (s.nbrAddr n (3 * c)) 3 }

/-- Data bits a symbol of a table choice. -/
def TxTable.d (t : TxTable) : Nat := if t.tag = 0 then 24 else tableD t.tab t.rate

/-- fail and fb of a class of neighbour n after an acknowledgement came or did not (R102). -/
def State.noteAck (s : State) (n c : Nat) (came : Bool) : State :=
  if ! s.lsOn then s
  else
    let w := s.lsWord (lsEntry n 58)
    let f := fieldOf w (9 - 2 * c) 2 + 1
    let w1 := if came then withField w (9 - 2 * c) 2 0 else withField w (9 - 2 * c) 2 (min 3 f)
    s.setLsWord (lsEntry n 58) (if ! came && decide (2 ≤ f) then withBit w1 (14 - c) true else w1)

/-- nbr and nv of a header to neighbour n (R102): peer and piv of the store. -/
def State.headerNbr (s : State) (n : Nat) : Nat × Bool :=
  let w := s.lsWord (lsEntry n 58)
  if s.lsOn then (fieldOf w 16 8, w.getLsbD 15) else (0, false)

/-- The scrambler seed of a frame (R87). -/
def State.txSeed (s : State) : Nat := s.slot.asn.toNat % 127 + 1

/-- The long-form header of a frame to a neighbour under a table (R85, R87, R102); one to no neighbour in particular carries no
index (assumption 118). -/
def State.seamHeader (s : State) (len : Nat) (t : TxTable) (dst : Option Nat) : Nat :=
  let p := (dst.map s.headerNbr).getD (0, false)
  longHeader len t.rate t.tag t.hcls s.txSeed p.1 p.2

/-- What the Seam acknowledgement element of neighbour n updates (R101, R102): peer and piv, and an advertised table,
whose class loses its fallback. -/
def State.noteElement (s : State) (n : Nat) (a : AckInfo) : State :=
  let s1 := match a.idx with
    | some k =>
      if s.lsOn then s.setLsWord (lsEntry n 58) (withBit (withField (s.lsWord (lsEntry n 58)) 16 8 k) 15 true) else s
    | none => s
  match a.table with
  | some (rate, tag, c, tab) =>
    let w := withBit (withField (s1.nbrWord n 12) (21 - 3 * c) 3 tag) (11 - c) rate
    let s2 := (s1.sramStores (s1.nbrAddr n (3 * c)) tab).setNbrWord n 12 w
    if s2.lsOn then
      s2.setLsWord (lsEntry n 58) (withBit (withField (s2.lsWord (lsEntry n 58)) (9 - 2 * c) 2 0) (14 - c) false)
    else s2
  | none => s1

/-! ## Headers (R103) -/

/-- The table that a long Seam header names: 0 bare, 1 in force, 2 the proposal; none for TAGMISS (R103). -/
def State.rxTable (s : State) (raw : Nat) : Option Nat :=
  let tag := rawField raw 12 3
  let c := rawField raw 15 2
  if tag = 0 then some 0
  else
    match seamNbr raw with
    | none => none
    | some n =>
      if ! s.lsOn then none
      else if s.tagInForce n c = tag then some 1
      else if s.proposalIs n c tag then some 2
      else none

/-- The words of the table that R103 has chosen. -/
def State.rxTableWords (s : State) (raw table : Nat) : List Word :=
  let n := rawField raw 24 8
  match table with
  | 1 => (List.range 3).map fun i => s.lsWord (lsEntry n (3 * rawField raw 15 2 + i))
  | 2 => (List.range 3).map fun i => s.lsWord (lsEntry n (12 + i))
  | _ => []

/-! ## Metadata (R96, R107 to R110) -/

/-- A timestamp in eighths of a tick, corrected by a delay. -/
def stampOf (t : BitVec 72) (f : BitVec 3) (d : Int) : Nat := ((t.toNat * 8 + f.toNat : Nat) + d).toNat

/-- Diversity is in force. -/
def State.diversity (s : State) : Bool := s.rfe.mode == 1

/-- The SNR vector of a frame in 0.25 dB steps from the powers of its data carriers (R96): in diversity the sum of both chains; none
where it is not valid, and none on a channel that has no class (assumption 112). -/
def State.snrVector (s : State) (r : PhyRx) (m : RxSync) : Option (List Nat) :=
  let c := s.hopClass r.hop
  if r.mode ≠ 0 ∧ r.hop < 64 ∧ s.lsOn = true ∧ 8 ≤ s.surveyCount c then
    let opt := fieldOf s.phy.ofdm 4 2
    some ((List.range 24).map fun k =>
      let a := groupPower (r.mode == 2) opt m.sigA k
      let b := groupPower (r.mode == 2) opt m.sigB k
      snrSteps (if s.diversity then a + b else if r.chB then b else a) (s.lsOctet (8 * c) k))
  else none

/-- What a reception latches at its sync point (R77, R78, R107, R108): the chains in receive give their RSSI, the others 511. -/
def State.latchRx (s : State) (r : PhyRx) (m : RxSync) (short : Bool) : PhyRx :=
  { r with
    stage := .synced, short := short, sync := stampOf m.t m.f (-s.extDelay)
    coded := if s.fskWord then fieldOf s.phy.fsk 9 2 != 0 else m.coded
    rssiA := if r.chB && ! s.diversity then 511 else rssiOf m.powA
    rssiB := if r.chB || s.diversity then rssiOf m.powB else 511
    cfo := m.cfo, snr := s.snrVector r m }

/-- Word 6 of the metadata (R109). -/
def metaWord6 (mode : Nat) (short : Bool) (raw : Nat) : Nat :=
  if mode = 2 then (if short then 0x800000 + rawField raw 0 10 else rawField raw 11 23) else 0

/-- The chain that decodes: B in dual-channel on chain B, or in MR-FSK diversity with the higher RSSI at preamble qualification
(R109). -/
def State.decodesB (s : State) (r : PhyRx) : Bool := if s.diversity && r.mode == 0 then r.decB else r.chB

/-- The metadata block of a frame whose header has passed (R109), its status given. -/
def State.metadata (s : State) (r : PhyRx) (h : RxHeader) (status len : Nat) : List Word :=
  let w0 := status % 256 * 2 ^ 16 + r.mode % 4 * 2 ^ 14 + b2n (s.decodesB r) * 2 ^ 13
    + b2n (s.diversity && r.mode != 0) * 2 ^ 12 + b2n r.snr.isSome * 2 ^ 11 + len % 2048
  let t := r.sync / 8
  [BitVec.ofNat 24 w0, BitVec.ofNat 24 (r.rssiA * 2 ^ 15 + r.rssiB * 2 ^ 6)] ++ toWords 3 t
    ++ [BitVec.ofNat 24 (r.sync % 8 * 2 ^ 21 + r.chan % 256), BitVec.ofNat 24 (metaWord6 r.mode r.short h.raw.toNat),
        wordOfInt r.cfo]
    ++ packOctets (r.snr.getD (List.replicate 24 0))

/-- PHY_RXA or PHY_RXB, which shows the latest frame of the chain that decodes (R110). -/
def State.rxRegs (s : State) (r : PhyRx) : Nat := if s.decodesB r then Reg.PHY_RXB 0 else Reg.PHY_RXA 0

/-! ## After a good frame (R97, R103) -/

/-- fcount, the promotion of a proposal and the SNR averages after a good long-form Seam frame (R97, R98, R103). -/
def State.noteSeamFrame (s : State) (r : PhyRx) : State :=
  match seamNbr r.raw with
  | none => s
  | some n =>
    if ! s.lsOn then s
    else
      let tag := rawField r.raw 12 3
      let c := rawField r.raw 15 2
      let i := lsEntry n 15
      let s1 := if tag ≠ 0 then s.setLsWord i (withField (s.lsWord i) 0 5 (min 16 (fieldOf (s.lsWord i) 0 5 + 1))) else s
      let s2 := if r.table = 2 ∧ s1.proposalIs n c tag = true then
          let tab := (List.range 3).map fun k => s1.lsWord (lsEntry n (12 + k))
          let w := withBit (withField (s1.lsWord i) (21 - 3 * c) 3 tag) 11 false
          (s1.setLsWords (lsEntry n (3 * c)) tab).setLsWord i w
        else s1
      if (r.md.getD 0 0#24).getLsbD 11 then
        let k := s2.hopClass r.hop
        let cnt := fieldOf (s2.lsWord (lsEntry n (48 + k))) 0 12
        let x := octetsOf (r.md.drop 8)
        let s3 := (List.range 24).foldl (fun s j =>
          let v := if cnt = 0 then x.getD j 0 else (7 * s.lsOctet (lsEntry n (16 + 8 * k)) j + x.getD j 0 + 4) / 8
          s.setLsOctet (lsEntry n (16 + 8 * k)) j v) s2
        s3.setLsWord (lsEntry n (48 + k)) (BitVec.ofNat 24 (min 4095 (cnt + 1)))
      else s2

/-! ## Survey (R94, R95) -/

/-- A noise average after a sample x: stored directly where it is the first (R95). -/
def noiseAvg (first : Bool) (avg x : Nat) : Nat := if first then x else (15 * avg + x + 8) / 16

/-- A survey sample of entry e updates the store from the powers of the 24 groups (R95): the class of its channel, and the channel's
wideband noise, whose x is the mean of the powers. -/
def State.surveySample (s : State) (e : Nat) (powers : List Nat) : State :=
  let c := s.hopClass e
  let cnt := s.surveyCount c
  let s1 := (List.range 24).foldl (fun s k =>
    s.setLsOctet (8 * c) k (noiseAvg (cnt == 0) (s.lsOctet (8 * c) k) (noiseUnit (powers.getD k 0) 1))) s
  let s2 := s1.setLsWord (32 + c) (BitVec.ofNat 24 (min 255 (cnt + 1)))
  let w := s2.lsOctet 36 e
  s2.setLsOctet 36 e (noiseAvg (w == 0) w (noiseUnit ((List.range 24).foldl (fun n k => n + powers.getD k 0) 0) 24))

/-- Four FFT windows of 96 µs, in ticks (R94). -/
def surveyTicks : Nat := 76800

/-- A chain is in receive for survey samples on the channel it is tuned to (R55, R94): its path is neither OFF nor busy, and its
synthesiser is locked; chain B in diversity and dual-channel alone. -/
def State.surveyChain (s : State) (chB : Bool) : Bool :=
  let p1 := chB && s.rfe.mode == 2
  (! chB || s.rfe.mode == 1 || s.rfe.mode == 2) && (s.path p1 == 1 || s.path p1 == 4) && s.syLocked p1

/-- The channel that a chain is tuned to. -/
def State.chainChan (s : State) (chB : Bool) : Nat := if chB && s.rfe.mode == 2 then s.rfe.chan1 else s.rfe.chan0

/-- SURVEY_SAMPLE_DONE (R94, R95): a sample of 384 µs, begun in a grant that no step and no direct command occupies, ends at least
2 µs before the grant does, with a chain in receive throughout; the next one begins behind it. A channel that stands in no entry of
the hopping list has no class, and its sample changes nothing (assumption 112). -/
def execSurveySampleDone (chB : Bool) (powers : List Nat) (s0 : State) : Host.Outcome State Fault Refusal :=
  let s := s0.advanceCount ((if chB then s0.phy.svyB else s0.phy.svyA) + surveyTicks)
  if s0.bit Reg.PHY_CTL 0 && s0.bit Reg.PHY_LSCTL 1 && s0.lsOn && s0.granted && s0.rfe.direct.isNone && s0.rfe.step.isNone
      && s0.surveyChain chB && s0.bedrockRuns && decide (s.tb.phase + 400 ≤ s.gend)
      && decide ((if chB then s0.phy.svyB else s0.phy.svyA) + surveyTicks ≤ s.tb.count.toNat) then
    let s1 := { s with phy := if chB then { s.phy with svyB := s.tb.count.toNat } else { s.phy with svyA := s.tb.count.toNat } }
    match s1.entryOf (s1.chainChan chB) with
    | some e => .next (s1.surveySample e powers)
    | none => .next s1
  else .next s0

/-- LOADING_STORE_INIT (R98): the write that sets init. -/
def execLoadingStoreInit (v : Word) (s : State) : Host.Outcome State Fault Refusal :=
  .next (s.onBlock Reg.PHY_LSCTL fun s => s.storeReg Reg.PHY_LSCTL v)

/-- LOADING_STORE_INIT_DONE (R98): every word of the store is 0, init falls and source 62 becomes pending. -/
def execLoadingStoreInitDone (s : State) : Host.Outcome State Fault Refusal :=
  if s.bit Reg.PHY_LSCTL 23 then
    .next (((s.setLsWords 0 (List.replicate 16448 0#24)).setBit Reg.PHY_LSCTL 23 false).raise 62)
  else .next s

/-! ## Proposals (R100) -/

/-- PHY_PSTAT.status. -/
def State.propStatus (s : State) (v : Nat) : State := s.setFld Reg.PHY_PSTAT 0 8 v

/-- A write of PHY_PROPOSE (R100): ILLEGAL, BUSY, or the proposal is being written. -/
def State.wrPropose (s : State) (v : Word) : State :=
  let tab := (List.range 3).map fun i => s.reg (Reg.PHY_PTAB i)
  if tableIllegal tab || ! s.bit Reg.PHY_LSCTL 0 then s.propStatus 7
  else if s.phy.prop.isSome then s.propStatus 3
  else
    let s1 := (s.propStatus 0).setBit Reg.PHY_PSTAT 23 true
    { s1 with phy := { s1.phy with
        prop := some { nbr := fieldOf v 0 8, cls := fieldOf v 8 2, rate := v.getLsbD 10, tag := 0, tab := tab } } }

/-- PROPOSE (R100). -/
def execPropose (v : Word) (s : State) : Host.Outcome State Fault Refusal :=
  .next (s.onBlock Reg.PHY_PROPOSE fun s => s.wrPropose v)

/-- The tag after one, in the cycle 1 to 7. -/
def nextTag (t : Nat) : Nat := if t = 7 then 1 else t + 1

/-- The tag for a new proposal: the next after the last allocated one, skipping the tag in force (R100). -/
def State.newTag (s : State) (n c : Nat) : Nat :=
  let last := ((s.phy.tags.find? fun e => e.1 == 4 * n + c).map (·.2)).getD 0
  let t := nextTag last
  if t = s.tagInForce n c then nextTag t else t

/-- PROPOSAL_WRITTEN (R100): the tag is allocated, the entry written, and source 61 becomes pending; the proposal waits while the
store is not in use (R98). -/
def execProposalWritten (s : State) : Host.Outcome State Fault Refusal :=
  match if s.lsOn then s.phy.prop else none with
  | none => .next s
  | some p =>
    let tag := s.newTag p.nbr p.cls
    let i := lsEntry p.nbr 15
    let w := withField (withField (s.lsWord i) 5 1 (b2n p.rate)) 6 6 (32 + p.cls * 8 + tag)
    let s1 := (s.setLsWords (lsEntry p.nbr 12) p.tab).setLsWord i w
    let s2 := (s1.setFld Reg.PHY_PSTAT 8 3 tag).setBit Reg.PHY_PSTAT 23 false
    .next (State.raise { s2 with phy := { s2.phy with
      prop := none, tags := (4 * p.nbr + p.cls, tag) :: s2.phy.tags.filter fun e => e.1 != 4 * p.nbr + p.cls } } 61)

end Sys2Proof.Machine
end

