-- ==== Sys2Proof/Machine/Sequencer.lean ====
section
/-! DEFINITION. The sequencer: what it does at its fixed offsets in a slot, for transmissions, receptions and
acknowledgements (chapters 03, 04 and 05), and what the front end and the physical layer report to it. -/
namespace Sys2Proof.Machine

/-! ## Helpers -/

/-- The operation of the slot in progress changed. -/
def State.mapOp (s : State) (f : SlotOp → SlotOp) : State :=
  { s with slot := { s.slot with op := s.slot.op.map f } }

/-- The receptions on a chain changed. -/
def State.mapRx (s : State) (chB : Bool) (f : PhyRx → PhyRx) : State :=
  { s with phy := { s.phy with rx := s.phy.rx.map fun r => if r.chB = chB then f r else r } }

/-- The reception on a chain. -/
def State.rxOn (s : State) (chB : Bool) : Option PhyRx := s.phy.rx.find? fun r => r.chB == chB

/-- The sequencer's reception on the chain of the operation. -/
def State.opRx (s : State) (o : SlotOp) : Option PhyRx := s.phy.rx.find? fun r => r.chB == o.chB && ! r.direct

/-- The reception has gone past its sync point. -/
def PhyRx.pastSync (r : PhyRx) : Bool := r.stage == .synced || r.stage == .header

/-- The FCS of a frame to send has two octets (R111). -/
def State.txFcs2 (s : State) (mode : Nat) : Bool := mode == 0 && s.phy.fsk.getLsbD 12

/-- The frame goes to the broadcast address, or to none. -/
def SlotOp.isBc (o : SlotOp) : Bool :=
  match (macHdr (o.psdu.getD [])).dst with
  | some a => a.length == 2 && natOfLow a == 0xFFFF
  | none => true

/-- The frame that an operation sends asks for an acknowledgement: not a beacon, not a broadcast frame (R116, R134,
R150). -/
def SlotOp.asksAck (o : SlotOp) : Bool := cellAck o.w1 && ! cellAdv o.w1 && ! o.isBc

/-- The neighbour that an operation sends to; none for a beacon or a broadcast frame. -/
def SlotOp.to (o : SlotOp) : Option Nat := if cellAdv o.w1 || o.isBc then none else some (cellNbr o.w1)

/-- The table under which an operation sends (R91, R102). -/
def State.opTable (s : State) (o : SlotOp) : TxTable :=
  match if cellMode o.w1 = 2 then o.to else none with
  | some n => s.txTable n o.hop
  | none => bareTable 0 0

/-- The frame that an operation sends: its PSDU with the FCS, and in Seam its header (R85, R87, R111). -/
def State.opFrame (s : State) (o : SlotOp) : AirFrame :=
  let mode := cellMode o.w1
  let t := s.opTable o
  let os := o.psdu.getD []
  let psdu := os ++ fcsOf (s.txFcs2 mode) os
  { mode := mode, short := false, hdr := if mode = 2 then s.seamHeader psdu.length t o.to else 0, psdu := psdu
    tab := if t.tag = 0 then [] else t.tab, rate := t.rate, seed := s.txSeed }

/-- The octets of the PSDU that an operation sends, FCS included. -/
def State.psduLen (s : State) (o : SlotOp) : Nat :=
  (o.psdu.getD []).length + fcsLen (s.txFcs2 (cellMode o.w1))

/-- The beacon at SLOT_EBTMPL with the slot's ASN in its place (R134). -/
def State.beacon (s : State) : List Nat :=
  let a := s.slot.ebtmpl.toNat
  let n := fieldOf (s.radioWord a) 0 11
  let off := fieldOf (s.radioWord (a + 1)) 0 11
  let os := (octetsOf (s.radioWords (a + 2) (ceilDiv n 3))).take n
  os.take off ++ (toWordsLow 5 s.slot.asn.toNat).take (n - off) ++ os.drop (off + 5)
where
  /-- The n octets of a number, the least significant first. -/
  toWordsLow (n v : Nat) : List Nat := (octetsOfNat n v).reverse

/-- The status with which an empty window closes: HDR_FAIL where a header has failed in it, else EMPTY (R123, R130). -/
def SlotOp.emptyStatus (o : SlotOp) : Nat := if o.hdrFail then 0x42 else 0x51

/-! ## The retune step (R59, R62, R163) -/

/-- The head frame of the cell's queue, or the beacon, for a transmit cell (R134, R163). -/
def State.loadFrame (s : State) (o : SlotOp) : State :=
  if ! o.tx then s
  else if cellAdv o.w1 then s.mapOp fun o => { o with psdu := some s.beacon }
  else
    let r := s.handOver (cellQueue o.w1)
    r.2.mapOp fun o => { o with psdu := r.1 }

/-- A tune of a synthesiser by the sequencer cannot be attempted: its path is OFF, or its calibration is invalid (R59, R62). -/
def State.tuneBarred (s : State) (sy1 : Bool) : Bool := s.path sy1 == 0 || ! s.syValid sy1

/-- The first step of the sequencer, 8 ticks after the edge: a reserved mode is ILLEGAL, a path that is OFF or a
synthesiser without a calibration LOCK_FAIL, a channel outside both bands ILLEGAL, of SY1 too in dual-channel; otherwise SY0, and in
dual-channel SY1, are retuned and the head frame is moved (R54, R59, R62, R116, R163). It does not happen while the slot engine, the
front end or the physical layer is gated, and the slot's result is then not defined (R265; assumption 114). -/
def State.sequencerStep (s : State) : State :=
  match s.slot.op with
  | none => s
  | some o =>
    let dual := s.rfe.mode == 2
    if o.stage ≠ .planned ∨ (s.gateOpen Base.SLOT && s.gateOpen Base.RFE && s.gateOpen Base.PHY) = false then s
    else if cellMode o.w1 = 3 then s.slotResult 7
    else if s.tuneBarred false || (dual && s.tuneBarred true) then
      State.slotResult (if o.tx then s.txNotBegun 0x40 false else s) 0x40
    else if ! s.tunable o.chan || (dual && ! s.tunable o.chanB) then s.slotResult 7
    else
      let s1 := (s.mapOp fun o => { o with stage := .tuning }).settle false o.chan false
      (if dual then s1.settle true o.chanB false else s1).loadFrame o

/-! ## Locks (R58, R59) -/

/-- LOCK_DETECTED (R58): 60 µs after the settling began, or 20 µs later for each re-check, the path goes to IDLE, locked; a direct tune
ends with OK, and a held command goes on. -/
def execLockDetected (sy1 : Bool) (rechecks : Fin 3) (s0 : State) : Host.Outcome State Fault Refusal :=
  if s0.path sy1 == 3 then
    let s := s0.advanceCount (s0.since sy1 + 12000 + 4000 * rechecks.val)
    let s1 := ((s.setPath sy1 1).setBit Reg.RFE_SYSTAT (lockBit sy1) true).setTune sy1 none
    let s2 := if sy1 then s1 else { s1 with rfe := { s1.rfe with settled := s1.tb.count.toNat } }
    match s2.rfe.direct with
    | some d => .next (if d.op = 1 ∧ d.sy1 = sy1 then s2.directEnd 0 else s2.directProceed).startStep
    | none => .next s2.startStep
  else .next s0

/-- LOCK_TIMEOUT (R59): 100 µs after the settling began the path returns to IDLE, lockf and source 60 are set, the calibration is invalid,
and the party that asked hears LOCK_FAIL: the direct command, or the slot, for a tune of either synthesiser. -/
def execLockTimeout (sy1 : Bool) (s0 : State) : Host.Outcome State Fault Refusal :=
  if s0.path sy1 == 3 then
    let s := s0.advanceCount (s0.since sy1 + 20000)
    let direct := ((s.tuneOf sy1).map (·.2)).getD false
    let s1 := ((s.setPath sy1 1).setTune sy1 none).flagRaise Reg.RFE_STAT 1 60
    let s2 := s1.setSyValid sy1 false
    if direct then
      let sends := (s2.rfe.direct.map fun d => d.op == 3 || d.op == 4).getD false
      .next (State.directEnd (if sends then s2.txNotBegun 0x40 true else s2) 0x40)
    else
      let sends := (s2.slot.op.map (·.tx)).getD false
      .next (State.slotResult (if sends then s2.txNotBegun 0x40 false else s2) 0x40)
  else .next s0

/-! ## The front end as a whole (R58, R60) -/

/-- What runs in the slot ends when the front end goes to OFF: a frame on the air ABORTED, an acknowledgement on the air
as a frame received; a window that is over closes (assumption 19). -/
def State.cutSlot (s : State) : State :=
  match s.slot.op with
  | none => s
  | some o =>
    match o.stage with
    | .sending => s.slotResult 2
    | .ackSending => s.slotResult 1
    | .receiving => if o.late then s.slotResult o.emptyStatus else s
    | _ => s

/-- Both paths go to OFF: locks are lost, what runs ends, with or without a ramp-down, and an open direct command ends with ABORTED
(R58, R60, R64). -/
def State.rfeOff (s : State) (ramp : Bool) : State :=
  let s1 := (s.endTx 2 ramp).setPath false 0
  let s2 := (s1.setPath true 0).setBit Reg.RFE_SYSTAT 21 false
  let s3 := (s2.setBit Reg.RFE_SYSTAT 23 false).dropRx fun _ => true
  let s4 := { s3 with rfe := { s3.rfe with bias0 := false, bias1 := false, tune0 := none, tune1 := none, step := none } }
  let s5 := if s4.rfe.direct.isSome then s4.directEnd 2 else s4
  s5.cutSlot

/-- The forced OFF of R60: both paths OFF at once, forced set, both calibrations invalid, no background result. -/
def State.rfeForcedOff (s : State) : State :=
  let s1 := (s.rfeOff false).flagRaise Reg.RFE_STAT 2 60
  let s2 := (s1.setSyValid false false).setSyValid true false
  { s2 with rfe := { s2.rfe with bg := List.replicate 4 {} } }

/-- A write of RFE_CTL (R58): a rise of en, or of sy1en, begins the bias start of the path, unless the outputs are forced
safe (R60, R267); a fall of en takes both paths to OFF, a fall of sy1en path 1 at once, leaving a direct command or a reception on SY1
open (assumption 108). -/
def State.wrRfeCtl (s : State) (v : Word) : State :=
  let s1 := s.storeReg Reg.RFE_CTL v
  let en := s1.bit Reg.RFE_CTL 0
  let sy1 := en && s1.bit Reg.RFE_CTL 1
  let old := s.bit Reg.RFE_CTL 0
  let oldSy1 := old && s.bit Reg.RFE_CTL 1
  if ! en then (if old then s1.rfeOff true else s1)
  else
    let s2 := if oldSy1 && ! sy1 then ((s1.setPath true 0).setBit Reg.RFE_SYSTAT 23 false).setTune true none else s1
    if s.bit Reg.SYS_CLKSTAT 17 then s2
    else
      let s3 := if old then s2 else (((s2.bgFirst 0).bgFirst 1).bgFirst 2).bgFirst 3
      { s3 with rfe := { s3.rfe with bias0 := s3.rfe.bias0 || ! old, bias1 := sy1 && (s3.rfe.bias1 || ! oldSy1) } }

/-- FRONT_END_ENABLE (R58). -/
def execFrontEndEnable (v : Word) (s : State) : Host.Outcome State Fault Refusal :=
  .next (s.onBlock Reg.RFE_CTL fun s => s.wrRfeCtl v)

/-- FRONT_END_DISABLE (R58). -/
def execFrontEndDisable (v : Word) (s : State) : Host.Outcome State Fault Refusal :=
  .next (s.onBlock Reg.RFE_CTL fun s => s.wrRfeCtl v)

/-! ## Grants and held commands (R62 to R65, R129) -/

/-- GRANT_START (R62, R63, R129): the planned grant opens once the slot's exchange is over: source 59 becomes pending, the
temperature is sampled and the first due step that fits begins. -/
def execGrantStart (temp : BitVec 8) (s : State) : Host.Outcome State Fault Refusal :=
  match s.rfe.grant, s.slot.op with
  | some (a, e), none =>
    let s0 := s.advanceTo a
    let s1 := (s0.setReg Reg.RFE_GEND (BitVec.ofNat 24 e)).flagRaise Reg.RFE_GRANT 0 59
    .next (State.tempSample { s1 with rfe := { s1.rfe with grant := none } } temp).startStep
  | _, _ => .next s

/-- GRANT_END (R63, R64): the grant closes; a direct receive or cw ends with DONE, one that is still held too (assumption 115). -/
def execGrantEnd (s : State) : Host.Outcome State Fault Refusal :=
  if ! s.granted then .next s
  else
    let s1 := (s.advanceTo s.gend).setBit Reg.RFE_GRANT 0 false
    match s1.rfe.direct with
    | some d =>
      if d.op = 2 then .next ((s1.setPath d.sy1 1).directEnd 1)
      else if d.op = 4 then .next (((s1.endTx 1).setPath false 1).directEnd 1)
      else .next s1
    | none => .next s1

/-- HELD_COMMAND_START (R65): the start comes when the synthesiser is locked and DWS has come, and no calibration step
runs; a lock after DWE ends the command with LATE_SYNTH. The phase moves on to DWS where it lies before it. -/
def execHeldCommandStart (env : AirEnv) (s : State) : Host.Outcome State Fault Refusal :=
  match s.rfe.direct with
  | some d =>
    if d.held && d.op != 1 && s.syLocked d.sy1 && s.path d.sy1 == 1 && s.rfe.step.isNone then
      if s.dwe < s.tb.phase then .next (State.directEnd (if d.op = 2 then s else s.txNotBegun 6 true) 6)
      else .next ((s.advanceTo s.dws).directStart d env)
    else .next s
  | none => .next s

/-! ## Transmissions (R122, R125, R67 to R73) -/

/-- The edge of the slot in progress: the count at its wrap tick. -/
def State.edge (s : State) : Nat := s.tb.count.toNat - s.tb.phase

/-- The phase at which the PA ramp begins (R122). -/
def State.rampStart (s : State) (w1 : Word) : Nat := (s.template w1).txOffset - s.rampTicks

/-- SEQUENCER_TX_START (R122): the lock, the legality, the fit and the regulatory checks, then the ramp; the sync point falls s after
the first symbol. In a cell with CCA a busy channel keeps the transmission back (R119, R120; assumption 55). -/
def State.txStart (s0 : State) (o : SlotOp) (env : AirEnv) : State :=
  let s := s0.advanceTo (s0.rampStart o.w1)
  let mode := cellMode o.w1
  let t := s.opTable o
  let dur := s.frameTicks mode (s.psduLen o) t.d
  let qpsk := mode == 2 && t.tag != 0 && tableQpsk t.tab
  let c : TxCheck := { g := o.chan, bw := s.bandwidth mode, air := dur + 2 * s.rampTicks, cw := false, ack := false
                       room := s.tb.count.toNat - s.rfe.settled }
  if ! (s.syLocked false && s.path false == 1) then (s.txNotBegun 6 false).slotResult 6
  else if s.txModeIllegal mode || (t.tag != 0 && tableIllegal t.tab) then s.slotResult 7
  else if ! s.fits o.w1 dur o.asksAck qpsk then s.slotResult 0x52
  else if (s.template o.w1).cca.isSome && ! cellAdv o.w1 && env.cca then s.slotResult 4 false true
  else
    let r := s.startTx c false (signed 6 (s.fld Reg.RFE_PMAX 0 6)) o.asksAck 0 0 env
    if r.1 then
      let first := s.edge + (s.template o.w1).txOffset
      let s1 := r.2.mapTx fun x => { x with sync := 8 * first + s.syncEighths mode false, frame := some (s.opFrame o) }
      (s1.mapOp fun o => { o with stage := .sending, dur := dur, cls := t.cls, tag := t.tag, allQpsk := qpsk, txEnd := first + dur }).trimGrant
        (s.exchangeEnd o.w1 dur o.asksAck qpsk + 4000)
    else r.2.slotResult 4

/-- SEQUENCER_TX_START (R122). -/
def execSequencerTxStart (env : AirEnv) (s : State) : Host.Outcome State Fault Refusal :=
  match s.slot.op with
  | some o => if o.tx && o.stage == .tuning && o.psdu.isSome then .next (s.txStart o env) else .next s
  | none => .next s

/-- NOFRAME_DEADLINE (R130): the Hopper has given no frame by +370 µs. -/
def execNoframeDeadline (s : State) : Host.Outcome State Fault Refusal :=
  match s.slot.op with
  | some o => if o.tx && o.stage == .tuning && o.psdu.isNone then .next ((s.advanceTo 74000).slotResult 0x53) else .next s
  | none => .next s

/-- TX_FRAME_END (R58): the last symbol has left the DAC. A direct transmit ends with DONE; a sent acknowledgement ends
its slot; a frame of the slot ends it, or the wait for its acknowledgement begins. -/
def State.txFrameEnd (s : State) (x : AirTx) : State :=
  let s1 := s.endTx 1
  if x.direct then (s1.setPath false 1).directEnd 1
  else if x.ack then (s1.setPath false 1).slotResult 1
  else
    match s1.slot.op with
    | none => s1.setPath false 1
    | some o =>
      let s2 := s1.mapOp fun o => { o with sent := true, tsync := x.sync }
      if o.asksAck then
        let s3 := (s2.setPath false 6).mapOp fun o => { o with stage := .ackWait }
        if s3.bit Reg.PHY_CTL 0 then s3.openRx (cellMode o.w1) o.chan o.hop false o.chB true else s3
      else (s2.setPath false 1).slotResult 1

/-- TX_FRAME_END (R58): the count moves on to the end of the last symbol. A cw has no frame that ends. -/
def execTxFrameEnd (s : State) : Host.Outcome State Fault Refusal :=
  match s.rfe.tx with
  | some x => if x.air = 0 then .next s else .next ((s.advanceCount (x.start + x.air - s.rampTicks)).txFrameEnd x)
  | none => .next s

/-- TURN_DONE (R58): the path enters the transmission that waits, in the tick of its ramp, or RX; the first valid sample of an
acknowledgement comes half its guard before its expected first symbol (R124). -/
def execTurnDone (s : State) : Host.Outcome State Fault Refusal :=
  if s.path false == 6 then
    match s.rfe.tx, s.slot.op with
    | some t, _ => .next ((s.advanceCount t.start).setPath false 5)
    | none, some o =>
      let m := s.template o.w1
      .next ((if o.stage = .ackWait then s.advanceCount (o.txEnd + m.ackDelay - m.ackGuard / 2) else s).setPath false 4)
    | none, none => .next (s.setPath false 4)
  else .next s

/-! ## Receptions (R74, R106, R108, R111, R123) -/

/-- RECEIVE_WINDOW_OPEN (R123, R139): the receive command, 8 µs before the first valid sample, the window widened by h. -/
def State.rxWindow (s0 : State) (o : SlotOp) : State :=
  let mode := cellMode o.w1
  let t := s0.template o.w1
  let h := s0.widening o.w1
  let s := s0.advanceTo (t.txOffset - t.guard / 2 - h - 1600)
  if s.rxModeIllegal mode then s.slotResult 7
  else
    let s1 := if s0.timeSource.isSome && decide (s0.wideningCap o.w1 ≤ s0.rawWidening) then s.flagRaise Reg.SLOT_STAT 5 52 else s
    let s2 := (s1.setPath false 4).mapOp fun o => { o with stage := .receiving, h := h }
    let dual := s.rfe.mode == 2 && s.path true == 1 && s.syLocked true
    let s3 := if dual then s2.setPath true 4 else s2
    if ! s3.bit Reg.PHY_CTL 0 then s3
    else
      let s4 := s3.openRx mode o.chan o.hop false o.chB false
      if dual && ! o.chB then s4.openRx mode o.chanB ((o.hop + s.fld Reg.SLOT_CTL 14 6) % max 1 s.slot.hopLen) false true false else s4

/-- RECEIVE_WINDOW_OPEN (R123). -/
def execReceiveWindowOpen (s : State) : Host.Outcome State Fault Refusal :=
  match s.slot.op with
  | some o =>
    if ! o.tx && o.stage == .tuning && s.path false == 1 && s.syLocked false then .next (s.rxWindow o) else .next s
  | none => .next s

/-- PREAMBLE_DETECT (R57, R74, R94, R106, R109): with the mean powers of both chains, of which the higher one decodes in MR-FSK
diversity. A blanked chain detects none, and a detection discards the survey sample that it overlaps. -/
def execPreambleDetect (chB : Bool) (powA powB : Nat) (s : State) : Host.Outcome State Fault Refusal :=
  if s.bit Reg.PHY_CTL 0 && ! s.blanked chB then
    let s1 := s.mapRx chB fun r =>
      if r.stage = .search then { r with stage := .preamble, decB := decide (rssiOf powA < rssiOf powB) } else r
    .next (if (s.rxOn chB).isNone then
      { s1 with phy := if chB then { s1.phy with svyB := s.tb.count.toNat } else { s1.phy with svyA := s.tb.count.toNat } } else s1)
  else .next s

/-- The window of the other chain in dual-channel closes too, where its reception has not come far enough (R123). -/
def State.closeOther (s : State) (o : SlotOp) (p : PhyRx → Bool) : State :=
  s.dropRx fun r => ! r.direct && r.chB != o.chB && ! p r

/-- The detection time t_det of R123 in ticks: 48 µs, in MR-FSK 32 symbol periods at the symbol rate of R76. -/
def State.detectTicks (s : State) (mode : Nat) : Nat :=
  if mode = 0 then 32 * 200000 / ([50, 100, 150, 200, 100, 150, 200] : List Nat).getD (fieldOf s.phy.fsk 0 3) 50 else 9600

/-- The phase at which no preamble closes a receive window (R123). -/
def State.preambleBy (s : State) (o : SlotOp) : Nat :=
  let t := s.template o.w1
  t.txOffset + t.guard / 2 + o.h + s.detectTicks (cellMode o.w1)

/-- The phase at which no sync point closes a receive window (R123). -/
def State.syncBy (s : State) (o : SlotOp) : Nat :=
  let t := s.template o.w1
  t.txOffset + s.syncOffset (cellMode o.w1) false + t.guard / 2 + o.h

/-- PREAMBLE_DEADLINE (R123): no preamble by the deadline closes the window. -/
def execPreambleDeadline (s0 : State) : Host.Outcome State Fault Refusal :=
  match s0.slot.op with
  | some o =>
    if o.stage = .receiving then
      let s := (s0.advanceTo (s0.preambleBy o)).closeOther o fun r => r.stage != .search
      match s.opRx o with
      | some r => if r.stage = .search then .next (s.slotResult o.emptyStatus) else .next s
      | none => .next (s.slotResult o.emptyStatus)
    else .next s0
  | none => .next s0

/-- SYNC_DEADLINE (R123): no sync point by the deadline closes the window; a frame whose sync point came is received to
its end. -/
def execSyncDeadline (s0 : State) : Host.Outcome State Fault Refusal :=
  match s0.slot.op with
  | some o =>
    if o.stage = .receiving then
      let s := (s0.advanceTo (s0.syncBy o)).closeOther o PhyRx.pastSync
      match s.opRx o with
      | some r => if r.pastSync then .next (s.mapOp fun o => { o with late := true }) else .next (s.slotResult o.emptyStatus)
      | none => .next (s.slotResult o.emptyStatus)
    else .next s0
  | none => .next s0

/-- The sync word of PHY_SYNCW1.swhi:PHY_SYNCW0 (R78, R84). -/
def State.syncWord (s : State) : Nat := s.fld Reg.PHY_SYNCW1 0 8 * 2 ^ 24 + (s.reg Reg.PHY_SYNCW0).toNat

/-- What a sync word makes of a reception (R78, R84, R92, R106): a match in the plain or in the short form, or none. In Seam and under a
programmable word the bits decide, in MR-FSK otherwise the standard's SFD, and in MR-OFDM there is no word. -/
def State.syncMatches (s : State) (r : PhyRx) (m : RxSync) : Option Bool :=
  let t := s.fld Reg.PHY_SYNCW1 16 3
  match r.mode with
  | 0 =>
    let e := if s.fskWord then hamming m.bits.toNat s.syncWord s.fskSyncBits else m.sfdErr
    if e ≤ (if s.fskWord then t else min t 2) then some false else none
  | 1 => some false
  | _ =>
    if hamming m.bits.toNat (syncBits s.syncWord false) 32 ≤ t then some false
    else if r.forAck && decide (hamming m.bits.toNat (syncBits s.syncWord true) 32 ≤ t) then some true
    else none

/-- SYNC_WORD_MATCH (R57, R106 to R108): the sync point, at which the measurements are latched, or a mismatch that is counted and returns
the receiver to its search. -/
def execSyncWordMatch (chB : Bool) (m : RxSync) (s0 : State) : Host.Outcome State Fault Refusal :=
  match s0.rxOn chB with
  | some r =>
    if r.stage = .preamble ∧ s0.blanked chB = false then
      let s := s0.advanceCount m.t.toNat
      match s.syncMatches r m with
      | some short => .next (s.mapRx chB fun r => s.latchRx r m short)
      | none => .next ((s.mapRx chB fun r => { r with stage := .search }).countReg Reg.PHY_CNTSYNC)
    else .next s0
  | none => .next s0

/-- A frame ends at its header: the receiver searches on, and a window whose sync deadline has passed closes with HDR_FAIL (R106,
R123), also where the frame was dropped for its mode-switch bit (assumption 52). -/
def State.headerDrop (s : State) (chB : Bool) : State :=
  let s1 := s.mapRx chB fun r => { r with stage := .search }
  match s1.slot.op, s1.rxOn chB with
  | some o, some r =>
    if r.direct || o.chB != chB then s1
    else
      let s2 := s1.mapOp fun o => { o with hdrFail := true }
      if o.late && o.stage == .receiving then s2.slotResult 0x42 else s2
  | _, _ => s1

/-- The PSDU length that a header gives. -/
def rxLen (r : PhyRx) (h : RxHeader) : Nat :=
  if r.mode = 2 then rawField h.raw.toNat 0 (if r.short then 6 else 11) else h.len.toNat

/-- What R103 and the mode make of a frame whose header has passed: its table and its duration after the sync point. -/
def State.rxTail (s : State) (r : PhyRx) (h : RxHeader) (table : Nat) : Nat :=
  let len := rxLen r h
  match r.mode with
  | 2 =>
    if r.short then 72000
    else
      let d := if table = 0 then 24 else tableD (s.rxTableWords h.raw.toNat table) (natBit h.raw.toNat 11)
      48000 + ceilDiv (8 * len + 6) d * 24000
  | m => s.frameTicksIn m len 24 r.coded h.mcs.toNat - s.syncOffset m false

/-- A header has passed its checks (R103, R108, R110, R144, R145): the measurements of the sync point are committed and shown, and the
Hopper takes the frame or rejects it. A Seam header that names no table ends the frame with TAGMISS. -/
def State.headerPassed (s : State) (r : PhyRx) (h : RxHeader) : State :=
  let raw := h.raw.toNat
  let len := rxLen r h
  let table := if r.mode = 2 ∧ r.short = false then s.rxTable raw else some 0
  let fcs2 := r.mode == 0 && h.fcs2
  let fr := s.drawFree
  let status := if table.isNone then 0x41 else fr.1
  let md := s.metadata r h status len
  let s1 := (fr.2.setRegs (s.rxRegs r) md).raise 63
  match table with
  | none =>
    let s2 := s1.countReg Reg.PHY_CNTTAG
    let s3 := s2.mapRx r.chB fun r => { r with stage := .search }
    match s3.slot.op with
    | some o => if r.direct || o.chB != r.chB || r.forAck then s3 else s3.slotResult 0x41
    | none => s3
  | some tb =>
    let a := if r.forAck || s1.standby then (none, s1) else s1.acceptFrame (h.mac.map BitVec.toNat) (len - fcsLen fcs2)
    let qpsk := r.mode == 2 && tb != 0 && tableQpsk (s1.rxTableWords raw tb)
    a.2.mapRx r.chB fun r => { r with stage := .header, raw := raw, len := len, fcs2 := fcs2, table := tb, allQpsk := qpsk
                                      tail := s1.rxTail r h tb, md := md, cells := a.1.getD [], taken := a.1.isSome }

/-- HEADER_RECEIVED (R57, R77, R79, R85, R92, R108): a header that fails its checks is counted and drops the frame; a blanked chain
receives none. -/
def execHeaderReceived (chB : Bool) (h : RxHeader) (s : State) : Host.Outcome State Fault Refusal :=
  match s.rxOn chB with
  | some r =>
    if r.stage ≠ .synced ∨ s.blanked chB = true then .next s
    else
      let ok := match r.mode with
        | 0 => h.phrOk
        | 1 => h.phrOk && decide (ofdmRate (fieldOf s.phy.ofdm 4 2) h.mcs.toNat ≠ 0)
        | _ => seamHeaderOk r.short h.raw.toNat
      if r.mode == 0 && h.phrOk && h.ms then .next ((s.countReg Reg.PHY_CNTMS).headerDrop chB)
      else if ok then .next (s.headerPassed r h)
      else .next ((s.countReg Reg.PHY_CNTHDR).headerDrop chB)
  | none => .next s

/-- Air evidence of the active unit (R383): counted, never delivered. -/
def State.airEvidence (s : State) : State :=
  let s1 := s.countReg Reg.TW_CNTAIR
  { s1 with tw := { s1.tw with air := true, airFlt := true } }

/-- The arrival offset δ of a frame of the slot's cell in units of 0.625 ns (R136). -/
def State.arrival (s : State) (o : SlotOp) (r : PhyRx) : Int :=
  (r.sync : Int) - (8 * (s.edge + (s.template o.w1).txOffset) + s.syncEighths r.mode r.short : Nat)

/-- The neighbour that a received frame comes from: the one its Seam header names, else the one its source address
resolves to (R135). -/
def State.frameSource (s : State) (r : PhyRx) (os : List Nat) : Option Nat :=
  if r.mode = 2 then (if r.short then none else seamNbr r.raw) else s.resolve (macHdr os).src

/-- A good frame of the slot's cell measures the time source it comes from (R136, R138). -/
def State.measureFrame (s : State) (o : SlotOp) (r : PhyRx) (src : Option Nat) : State :=
  match src.bind s.sourceOf with
  | none => s
  | some k => s.measure k (5 * (s.arrival o r - (s.propOf k : Nat)))

/-- No acknowledgement has come (R102, R124): NOACK, and in Seam the fallback counts. -/
def State.noAck (s : State) (o : SlotOp) : State :=
  (if cellMode o.w1 = 2 then s.noteAck (cellNbr o.w1) o.cls false else s).slotResult 0x50

/-- The slot's operation goes on after the frame of its chain has ended: the result of a frame that is not good, the
acknowledgement that is due, with its time correction (R124, R136), or DONE (R130). -/
def State.afterFrame (s : State) (o : SlotOp) (r : PhyRx) (src : Option Nat) (os : List Nat) (good ackDue : Bool) : State :=
  if r.forAck then (if good then s else s.noAck o)
  else if ! good then s.slotResult 8
  else if ackDue then
    let corr := roundDiv (-5 * s.arrival o r) 8
    (s.endRx o.chB).mapOp fun o => { o with
      stage := .ackDue, src := src, allQpsk := r.allQpsk, rxEnd := r.sync + 8 * r.tail, corr := corr, mhr := mhr
      seed := rawField r.raw 17 7 }
  else s.slotResult 1
where
  /-- The MAC header of the acknowledgement. -/
  mhr : List Nat := ackMhr (macHdr os) (s.fld Reg.HOP_PAN 0 16)

/-- FRAME_END (R111): the FCS, then the delivery to the Hopper, the updates of R97 and R103 and the measurement of R136; the
registers of R110 take the status. A frame that the Hopper has rejected is not good (R144). In the standby role a good frame is air
evidence only. -/
def State.frameEnd (s0 : State) (r : PhyRx) (psdu : List Nat) : State :=
  let s := s0.advanceCount ((r.sync + 7) / 8 + r.tail)
  let good := fcsGood r.fcs2 psdu
  let os := psdu.take (psdu.length - fcsLen r.fcs2)
  let src := s.frameSource r os
  let h := macHdr os
  let own := (s.slot.op.map fun o => ! r.direct && o.chB == r.chB && o.stage == .receiving).getD false
  let ackDue := good && r.taken && h.ar && h.kind != 0 && own
  let s1 := if good then s else s.countReg Reg.PHY_CNTFCS
  let md := setAt (withField (r.md.getD 0 0#24) 16 8 (if good then 1 else 8)) r.md 0
  let s1' := s1.setReg (s.rxRegs r) (md.getD 0 0#24)
  let s2 := if r.mode = 2 ∧ r.short = false ∧ good = true ∧ r.forAck = false then s1'.noteSeamFrame r else s1'
  let s3 := if ! r.taken then s2
    else if good || s2.bit Reg.PHY_CTL 1 then s2.deliver r.cells md (! good) src ackDue os
    else s2.freeFrame { cells := r.cells, olen := 0 }
  let s4 := if s3.standby && good && (h.src.map s3.isOwn).getD false then s3.airEvidence else s3
  let s4' := if s4.standby && good && (h.dst.map s4.isOwn).getD false then { s4 with slot := { s4.slot with heard := true } } else s4
  let s5 := s4'.mapRx r.chB fun r => { r with stage := .search, taken := false, cells := [] }
  match s5.slot.op with
  | none => s5
  | some o =>
    if r.direct || o.chB != r.chB then s5
    else
      let s6 := if good && (r.taken || s5.standby) && ! r.forAck then s5.measureFrame o r src else s5
      s6.afterFrame o r src os (good && (r.taken || r.forAck || s.standby)) ackDue

/-- FRAME_END (R111). -/
def execFrameEnd (chB : Bool) (psdu : List Octet) (s : State) : Host.Outcome State Fault Refusal :=
  match s.rxOn chB with
  | some r => if r.stage = .header then .next (s.frameEnd r (psdu.map BitVec.toNat)) else .next s
  | none => .next s

/-- RX_STOP (R58): a receive that has ended leaves RX for IDLE. -/
def execRxStop (p1 : Bool) (s : State) : Host.Outcome State Fault Refusal :=
  let busy := (s.slot.op.map fun o => o.stage == .receiving || o.stage == .ackWait || o.stage == .ackDue).getD false
  if s.path p1 == 4 && ! busy && s.rfe.direct.isNone then .next (s.setPath p1 1).startStep else .next s

/-! ## Acknowledgements (R92, R101, R102, R124, R125, R132 to R138) -/

/-- The table of the pending proposal for the neighbour that a received frame came from: rate, tag, class and words (R101). -/
def State.ackTable (s : State) (o : SlotOp) : Option (Bool × Nat × Nat × List Word) :=
  match o.src with
  | none => none
  | some n =>
    let w := s.lsWord (lsEntry n 15)
    if s.lsOn && w.getLsbD 11 then
      some (w.getLsbD 5, fieldOf w 6 3, fieldOf w 9 2, (List.range 3).map fun i => s.lsWord (lsEntry n (12 + i)))
    else none

/-- What the acknowledgement of a received frame tells (R101, R132, R133, R136, R161). -/
def State.ackTells (s : State) (o : SlotOp) : AckInfo :=
  { idx := o.src, cong := o.cong.getD false, table := s.ackTable o, corr := some o.corr, nack := o.nack }

/-- The PSDU of the acknowledgement of a received frame: MAC header, elements and FCS (R111, R132). -/
def State.ackPsdu (s : State) (o : SlotOp) : List Nat :=
  let os := o.mhr ++ ackElements (cellStd o.w1) (s.ackTells o)
  os ++ fcsOf (s.txFcs2 (cellMode o.w1)) os

/-- The acknowledgement of a received frame as it is sent: in Seam in short form where R92 allows it, scrambled with the seed of the
received frame, else in long form under the bare table. -/
def State.ackFrame (s : State) (o : SlotOp) : AirFrame :=
  let mode := cellMode o.w1
  let psdu := s.ackPsdu o
  let short := mode == 2 && s.bit Reg.PHY_CTL 4 && o.allQpsk && decide (psdu.length ≤ 35)
  { mode := mode, short := short, psdu := psdu, tab := [], rate := short, seed := if short then o.seed else s.txSeed
    hdr := if mode ≠ 2 then 0 else if short then shortHeader psdu.length else s.seamHeader psdu.length (bareTable 0 0) o.src }

/-- The count in eighths of a tick at which the first symbol of the acknowledgement begins (R124). -/
def State.ackFirst (s : State) (o : SlotOp) : Nat := o.rxEnd + 8 * (s.template o.w1).ackDelay

/-- ACK_TX_START (R124, R125): TURN begins 12 µs before the ramp. An acknowledgement that would end too late is withheld with ackcut; a
refused one is not sent; otherwise the path turns and sends it, its sync point exactly TxAckDelay + s_ack after the received end. -/
def State.ackStart (s0 : State) (o : SlotOp) (env : AirEnv) : State :=
  let s := s0.advanceCount (s0.ackFirst o / 8 - s0.rampTicks - 2400)
  let mode := cellMode o.w1
  let f := s.ackFrame o
  let dur := if f.short then 144000 else s.frameTicks mode f.psdu.length 24
  let stop := (s.ackFirst o + 7) / 8 + dur
  let c : TxCheck := { g := o.chan, bw := s.bandwidth mode, air := dur + 2 * s.rampTicks, cw := false, ack := true, room := 0 }
  if s.edge + s.tb.len < stop + 10000 then (s.flagRaise Reg.SLOT_STAT 6 55).slotResult 1
  else if ! s.syLocked false || s.txModeIllegal mode then s.slotResult 1
  else
    let r := s.startTx c false (signed 6 (s.fld Reg.RFE_PMAX 0 6)) false 2400 0 env
    if r.1 then
      let s1 := r.2.mapTx fun x => { x with sync := s.ackFirst o + s.syncEighths mode f.short, frame := some f }
      (s1.setPath false 6).mapOp fun o => { o with stage := .ackSending, short := f.short }
    else r.2.slotResult 1

/-- ACK_TX_START (R124). -/
def execAckTxStart (env : AirEnv) (s : State) : Host.Outcome State Fault Refusal :=
  match s.slot.op with
  | some o => if o.stage = .ackDue then .next (s.ackStart o env) else .next s
  | none => .next s

/-- The propagation to time source k measured by a round trip (R137): half the round trip in units of 0.625 ns, 0 where it
is negative. -/
def State.measureProp (s : State) (k : Nat) (trip : Int) : State :=
  (s.setFld (Reg.SLOT_TS_PROP k) 0 16 (min 65535 (trip.toNat / 2))).setBit (Reg.SLOT_TS_CFG k) 22 true

/-- The round trip of an exchange in units of 0.625 ns (R137). -/
def State.roundTrip (s : State) (o : SlotOp) (n : Nat) (short : Bool) : Int :=
  let mode := cellMode o.w1
  let known := 8 * o.dur - s.syncEighths mode false + 8 * (s.template o.w1).ackDelay + s.syncEighths mode short
  (n : Int) - o.tsync - (known : Nat)

/-- A good acknowledgement (R102, R137, R138): fallback, elements, propagation, correction, and the result DONE. -/
def State.ackReceived (s : State) (o : SlotOp) (r : PhyRx) (a : AckInfo) : State :=
  let nb := cellNbr o.w1
  let s0 := if r.mode = 2 ∧ r.short = false then s.noteSeamFrame r else s
  let s1 := if cellMode o.w1 = 2 then s0.noteAck nb o.cls true else s0
  let s2 := s1.noteElement nb a
  let s3 := match s2.sourceOf nb with
    | none => s2
    | some k =>
      let m := s2.measureProp k (s2.roundTrip o r.sync r.short)
      match a.corr with
      | none => m
      | some c => m.measure k (8 * c + 5 * (m.propOf k : Nat))
  s3.slotResult 1 a.cong

/-- A standby unit hears an acknowledgement after a frame addressed to the pair: air evidence where its FCS is good (R383). -/
def State.hearAck (s : State) (ps : List Nat) : State :=
  if s.standby && s.slot.heard && (fcsGood false ps || fcsGood true ps) then
    State.airEvidence { s with slot := { s.slot with heard := false } }
  else s

/-- ACK_RECEIVED (R102, R111): the acknowledgement whose header has passed ends with a good FCS; with a bad one no acknowledgement has
arrived. In the standby role it may be air evidence (R383). -/
def execAckReceived (psdu : List Octet) (s : State) : Host.Outcome State Fault Refusal :=
  let ps := psdu.map BitVec.toNat
  match s.slot.op with
  | some o =>
    match if o.stage = .ackWait then s.opRx o else none with
    | some r =>
      if r.stage ≠ .header then .next s
      else
        let s1 := s.advanceCount ((r.sync + 7) / 8 + r.tail)
        if ! fcsGood r.fcs2 ps then .next ((s1.countReg Reg.PHY_CNTFCS).noAck o)
        else .next (s1.ackReceived o r (ackInfo (ps.take (ps.length - fcsLen r.fcs2))))
    | none => .next (s.hearAck ps)
  | none => .next (s.hearAck ps)

/-- ACK_WINDOW_CLOSE (R102, R124): no sync point of an acknowledgement by half the guard after the later of the two expected ones ends
the slot with NOACK. -/
def execAckWindowClose (s0 : State) : Host.Outcome State Fault Refusal :=
  match s0.slot.op with
  | some o =>
    let t := s0.template o.w1
    if o.stage = .ackWait then
      let s := s0.advanceCount (o.txEnd + t.ackDelay + s0.syncOffset (cellMode o.w1) false + t.ackGuard / 2)
      if ((s.opRx o).map PhyRx.pastSync).getD false = false then .next (s.noAck o) else .next s
    else .next s0
  | none => .next s0

/-! ## Abort and disable (R131, R470) -/

/-- A write of SLOT_ABORT with go = 1 (R131): a reception ends on every chain. -/
def State.abort (s : State) : State :=
  match s.slot.op with
  | none => s
  | some o =>
    match o.stage with
    | .sending => ((s.endTx 2).setPath false 1).slotResult 2
    | .ackDue => s
    | .ackSending => s
    | _ => (s.dropRx fun r => ! r.direct).slotResult 2

/-- SLOT_ABORT (R131). -/
def execSlotAbort (m : Master) (v : Word) (s : State) : Host.Outcome State Fault Refusal :=
  .next (s.transfer m Reg.SLOT_ABORT true fun s => if v.getLsbD 0 then s.abort else s)

/-- A write of PHY_CTL: clearing en ends every reception at once, and a slot whose window is over closes (R470). A receive whose
reception has ended so, or that opened with en = 0, detects no frame for the rest of its window, whether or not en is set in it
(assumption 119). -/
def State.wrPhyCtl (s : State) (v : Word) : State :=
  let s1 := s.storeReg Reg.PHY_CTL v
  if s.bit Reg.PHY_CTL 0 && ! s1.bit Reg.PHY_CTL 0 then
    let s3 := s1.dropRx fun _ => true
    match s3.slot.op with
    | some o => if o.late && o.stage == .receiving then s3.slotResult o.emptyStatus else s3
    | none => s3
  else s1

/-- PHY_DISABLE (R470). -/
def execPhyDisable (v : Word) (s : State) : Host.Outcome State Fault Refusal :=
  .next (s.onBlock Reg.PHY_CTL fun s => s.wrPhyCtl v)

end Sys2Proof.Machine
end

