-- ==== Sys2Proof/Machine/Twin.lean ====
section
/-! DEFINITION. The twin link (chapter 15): link states and blocks, heartbeats and time following, mirroring, takeover and
planned handover, and its commands. -/
namespace Sys2Proof.Machine

/-! ## The link (R370 to R373) -/

/-- TW_STAT.link: 0 DOWN, 1 TRAIN, 2 UP. -/
def State.twLink (s : State) : Nat := s.fld Reg.TW_STAT 22 2

/-- The link is UP. -/
def State.twUp (s : State) : Bool := s.twLink == 2

/-- The status of the DATA block, with source 85 for a final one (R374). -/
def State.twTxStat (s : State) (v : Nat) : State := (s.setFld Reg.TW_TXSTAT 0 8 v).raise 85

/-- A DATA block is open: written and not acknowledged (R374). -/
def State.twDataOpen (s : State) : Bool := s.tw.data.isSome || s.tw.sent.any fun b => b.typ == 5

/-- Pages return to the dirty set (R381). -/
def State.markDirty (s : State) (ps : List Nat) : State :=
  { s with dirty := (ps.filter fun p => ! s.dirty.contains p) ++ s.dirty }

/-- The header word of a block (R371). -/
def TwBlock.header (b : TwBlock) : Word := BitVec.ofNat 24 (b.typ % 16 * 2 ^ 20 + b.seq % 256 * 2 ^ 12 + b.words.length % 512)

/-- A symbol on the twin link before its 8b/10b code: a control symbol Kx.y, or a data octet (R370, R371). -/
inductive TwSym where
  | k (x y : Nat)
  | d (octet : Nat)
  deriving DecidableEq, Repr

/-- What the sender sends between blocks (R370). -/
def twIdle : List TwSym := [.k 28 5, .d (21 + 5 * 32)]

/-- A block as it leaves the unit: K27.7, header, payload and the CRC-24 of both, each word as three octets, K29.7 (R370, R371). -/
def TwBlock.symbols (b : TwBlock) : List TwSym :=
  let ws := b.header :: b.words
  .k 27 7 :: (octetsOf (ws ++ [BitVec.ofNat 24 (crc24 ws)])).map TwSym.d ++ [.k 29 7]

/-- The answer to a block: K28.1 and its seq, or K28.6, its seq and the reason (R371). -/
def replySymbols : Nat × Option Nat → List TwSym
  | (seq, none) => [.k 28 1, .d seq]
  | (seq, some reason) => [.k 28 6, .d seq, .d reason]

/-- The symbols of the blocks that are open, oldest first (R372). -/
def State.twSentSymbols (s : State) : List TwSym := s.tw.sent.flatMap TwBlock.symbols

/-- The symbols of the last answer to a block (R371). -/
def State.twReplySymbols (s : State) : List TwSym := (s.tw.reply.map replySymbols).getD []

/-! ## The pads TW_ACT and TW_FLT (R368, R384, R386) -/

/-- A safe state is forced (R267). -/
def State.safeForced (s : State) : Bool := s.bit Reg.SYS_CLKSTAT 17

/-- TW_ACT: 1 while the unit holds the active role and no safe state is forced (R368). -/
def State.twAct (s : State) : Bool := s.bit Reg.TW_CTL 21 && ! s.safeForced

/-- The unit drives TW_FLT low: in the active role while a safe state is forced or TW_CTL.flt is 1, in the standby role as its claim
(R384). -/
def State.twFltLow (s : State) : Bool :=
  if s.bit Reg.TW_CTL 21 then s.safeForced || s.bit Reg.TW_CTL 18 else s.tw.claim

/-- The page of a PAGE block. -/
def TwBlock.page? (b : TwBlock) : Option Nat := if b.typ = 3 then some ((b.words.headD 0#24).toNat / 64) else none

/-- The link leaves UP for a state (R370, R374): the open DATA block ends with CRC_FAIL, pages that were not acknowledged
are dirty again, and nothing stays open. -/
def State.twDown (s : State) (link : Nat) : State :=
  let pages := s.tw.sent.filterMap TwBlock.page?
  let s1 := if s.twDataOpen then s.twTxStat 8 else s
  let s2 := (s1.markDirty pages).setFld Reg.TW_STAT 22 2 link
  { s2 with tw := { s2.tw with sent := [], data := none, hand := none, ringWait := none, snap := none, partner := false } }

/-- The pages left of a snapshot are dirty again, and the snapshot is over (R381). -/
def State.dropSnapshot (s : State) : State :=
  let s1 := s.markDirty s.tw.pages
  { s1 with tw := { s1.tw with pages := [], state := none } }

/-- A snapshot was not completed: TW_STAT.lag and TW_CNTLAG (R381). -/
def State.noteLag (s : State) : State :=
  let s1 := (s.setBit Reg.TW_STAT 20 true).countReg Reg.TW_CNTLAG
  { s1 with tw := { s1.tw with lagLast := true, committed := false } }

/-- A write of TW_CTL (R370, R383, R389): en = 0 takes the link DOWN; ho = 1 on the active unit starts a handover; a unit
that comes into the standby role runs in coast mode. -/
def State.wrTwCtl (s : State) (v : Word) : State :=
  let s1 := s.setReg Reg.TW_CTL ((s.reg Reg.TW_CTL &&& 0x080000#24) ||| (v &&& 0xF40000#24))
  let s2 := if ! v.getLsbD 23 && s.twLink != 0 then s1.twDown 0 else s1
  let s3 := if v.getLsbD 19 && s2.bit Reg.TW_CTL 21 && ! s2.bit Reg.TW_CTL 19 then
      let t := s2.setBit Reg.TW_CTL 19 true
      { t with tw := { t.tw with ho := .asked, hoEdge := none } }
    else s2
  if s3.standby && ! s.standby then s3.enterCoast else s3

/-- TWIN_LINK_ENABLE (R370). -/
def execTwinLinkEnable (v : Word) (s : State) : Host.Outcome State Fault Refusal := .next (s.onBlock Reg.TW_CTL (·.wrTwCtl v))

/-- HANDOVER_START (R389). -/
def execHandoverStart (v : Word) (s : State) : Host.Outcome State Fault Refusal := .next (s.onBlock Reg.TW_CTL (·.wrTwCtl v))

/-- COMMA_RECEIVED (R370): an enabled link that is DOWN trains. -/
def execCommaReceived (s : State) : Host.Outcome State Fault Refusal :=
  .next (s.inBlock Base.TW fun s => if s.bit Reg.TW_CTL 23 && s.twLink == 0 then s.setFld Reg.TW_STAT 22 2 1 else s)

/-- COMMA_TIMEOUT (R370): no comma for 10 µs. -/
def execCommaTimeout (s : State) : Host.Outcome State Fault Refusal :=
  .next (s.inBlock Base.TW fun s => if s.twLink == 0 then s else s.twDown 0)

/-- TW_LAT takes half of a round trip in ticks (R370). -/
def State.setTwLat (s : State) (trip : Nat) : State := s.setReg Reg.TW_LAT (BitVec.ofNat 24 (min 4095 (trip / 2)))

/-- LINK_UP (R370, R372): the link is UP, its latency is measured, and sequence numbers restart at 0. -/
def execLinkUp (trip : Nat) (s : State) : Host.Outcome State Fault Refusal :=
  .next (s.inBlock Base.TW fun s =>
    if s.twLink == 1 then
      let s1 := (s.setFld Reg.TW_STAT 22 2 2).setTwLat trip
      { s1 with tw := { s1.tw with txSeq := 0, taken := [], sent := [], reply := none } }
    else s)

/-- LATENCY_MEASURE (R370). -/
def execLatencyMeasure (trip : Nat) (s : State) : Host.Outcome State Fault Refusal :=
  .next (s.inBlock Base.TW fun s => if s.twUp then s.setTwLat trip else s)

/-! ## The hardware state that is mirrored (R380 to R382) -/

/-- An item of a STATE payload: its item word and its values (R382). -/
def stateItem (code : Nat) (ws : List Word) : List Word := BitVec.ofNat 24 (code * 4096 + ws.length) :: ws

/-- The words of queue q (R382, item 0x040). -/
def State.queueWords (s : State) (q : Nat) : List Word :=
  let fs := (s.hq q).frames
  let first (f : Option HopFrame) : Nat := ((f.map fun f => f.cells.headD 0).getD 0)
  let st := Reg.HOP_QSTAT q
  [BitVec.ofNat 24 (first fs.head? * 2048 + first fs.getLast?),
    BitVec.ofNat 24 (fs.length * 4096 + s.fld st 0 11),
    BitVec.ofNat 24 (b2n (s.bit st 23) * 2 ^ 23 + b2n (s.bit (Reg.HOP_QCFG q) 20) * 2 ^ 22 + b2n (s.hq q).gate * 2 ^ 21
      + s.fld st 11 4 * 2 ^ 14 + s.fld st 15 8),
    s.reg (Reg.HOP_QCFG q)]

/-- The phase accumulator in whole ticks and in units of 2^-24 tick (R382, item 0x014). -/
def phaseWords (acc : Int) : List Word :=
  let f := (acc.emod 40).toNat
  [wordOfInt (acc.ediv 40), BitVec.ofNat 24 ((f * 2 ^ 24 + 20) / 40)]

/-- The phase accumulator from the words of item 0x014. -/
def phaseOfWords (whole frac : Word) : Int :=
  40 * signed 24 whole.toNat + ((frac.toNat * 40 + 2 ^ 23) / 2 ^ 24 : Nat)

/-- The block word of a STATE block (R382). -/
def blockWord (commit : Bool) (n asn : Nat) : Word := BitVec.ofNat 24 (b2n commit * 2 ^ 23 + n % 128 * 2 ^ 16 + asn % 2 ^ 16)

/-- The STATE payload of a snapshot: one block of 244 words (R382). -/
def State.stateWords (s : State) : List Word :=
  blockWord true 0 s.slot.asn.toNat ::
  (stateItem 0x001 [s.reg Reg.TB_SLOTLEN, s.reg Reg.TB_RATE, BitVec.ofNat 24 (b2n (s.bit Reg.TB_CTL 2))]
    ++ stateItem 0x010 [s.reg Reg.SLOT_CTL, s.reg Reg.SLOT_DEADLINE, s.reg Reg.SLOT_CTBASE, s.reg Reg.SLOT_EBTMPL]
    ++ stateItem 0x011 (BitVec.ofNat 24 (s.slot.hopLen - 1) :: s.slot.hopUse)
    ++ stateItem 0x012 ((List.range 8).flatMap fun n => [s.reg (Reg.SLOT_SF_LEN n), s.reg (Reg.SLOT_SF_CELLS n)])
    ++ stateItem 0x013 ([0, 1].flatMap fun n => [s.reg (Reg.SLOT_TS_CFG n), s.reg (Reg.SLOT_TS_PROP n)])
    ++ stateItem 0x014 (phaseWords s.slot.phAcc)
    ++ stateItem 0x015 (toWords 2 s.slot.ea ++ toWords 2 s.slot.es
      ++ [BitVec.ofNat 24 (b2n s.slot.slept + 2 * b2n s.slot.ts1 + 4 * b2n s.timeSource.isSome)])
    ++ stateItem 0x020 ((List.range 6).map fun n => s.reg (Reg.PHY_CLASSMAP n))
    ++ stateItem 0x030 [s.reg Reg.RFE_CHAIN, s.reg Reg.RFE_PMAX]
    ++ stateItem 0x040 ((List.range 32).flatMap s.queueWords)
    ++ stateItem 0x041 ((List.range 32).map fun q => s.reg (Reg.HOP_QHW q))
    ++ stateItem 0x042 [BitVec.ofNat 24 (s.hop.free.headD 0), BitVec.ofNat 24 s.hop.free.length]
    ++ stateItem 0x043 [s.reg Reg.HOP_DSN, s.reg Reg.HOP_FCNT0, s.reg Reg.HOP_FCNT1])

/-- The items that every snapshot holds, in order: code and number of values (R382). -/
def stateLayout : List (Nat × Nat) :=
  [(0x001, 3), (0x010, 4), (0x011, 23), (0x012, 16), (0x013, 4), (0x014, 2), (0x015, 5), (0x020, 6), (0x030, 2),
    (0x040, 128), (0x041, 32), (0x042, 2), (0x043, 3)]

/-- The values of the items of a snapshot; none where an item is missing, unknown or of a wrong length (R382). -/
def stateValues : List (Nat × Nat) → List Word → Option (List (List Word))
  | [], ws => if ws.isEmpty then some [] else none
  | (code, n) :: ls, ws =>
    match ws with
    | [] => none
    | w :: vs =>
      if w.toNat = code * 4096 + n ∧ n ≤ vs.length then (stateValues ls (vs.drop n)).map fun r => vs.take n :: r
      else none

/-- The frames of a queue, by the links of their first cells (R148, R150). -/
def State.framesFrom (s : State) (c : Nat) : Nat → List HopFrame
  | 0 => []
  | n + 1 => s.coreFrame c :: s.framesFrom (fieldOf (s.mem1 (s.linkAddr c)) 11 11) n

/-- Queue q takes its mirrored words. -/
def State.applyQueue (s : State) (q : Nat) (ws : List Word) : State :=
  let w (i : Nat) : Word := ws.getD (4 * q + i) 0#24
  let st := fieldOf (w 2) 23 1 * 2 ^ 23 + fieldOf (w 2) 0 8 * 2 ^ 15 + fieldOf (w 2) 14 4 * 2 ^ 11 + fieldOf (w 1) 0 11
  let s1 := (s.setReg (Reg.HOP_QSTAT q) (BitVec.ofNat 24 st)).setReg (Reg.HOP_QCFG q) (withBit (w 3) 20 ((w 2).getLsbD 22))
  s1.mapHq q fun h => { h with frames := s.framesFrom (fieldOf (w 0) 11 11) (fieldOf (w 1) 12 12)
                               gate := (w 2).getLsbD 21, locked := false }

/-- Registers at consecutive addresses a, a + k, … take the words of a list. -/
def State.setRegsBy (s : State) (a k : Nat) : List Word → State
  | [] => s
  | w :: ws => (s.setReg a w).setRegsBy (a + k) k ws

/-- The hardware state of a snapshot is applied (R381); SLOT_CTL.coast stays the unit's own. -/
def State.applyState (s : State) (vs : List (List Word)) : State :=
  let v (i j : Nat) : Word := (vs.getD i []).getD j 0#24
  let t1 := ((s.setReg Reg.TB_SLOTLEN (v 0 0)).setReg Reg.TB_RATE (v 0 1)).setBit Reg.TB_CTL 2 ((v 0 2).getLsbD 0)
  let t2 := t1.setReg Reg.SLOT_CTL (withBit (v 1 0) 22 (s.bit Reg.SLOT_CTL 22))
  let t3 := ((t2.setReg Reg.SLOT_DEADLINE (v 1 1)).setReg Reg.SLOT_CTBASE (v 1 2)).setReg Reg.SLOT_EBTMPL (v 1 3)
  let t4 := (List.range 8).foldl (fun s n =>
    (s.setReg (Reg.SLOT_SF_LEN n) (v 3 (2 * n))).setReg (Reg.SLOT_SF_CELLS n) (v 3 (2 * n + 1))) t3
  let t5 := [0, 1].foldl (fun s n => (s.setReg (Reg.SLOT_TS_CFG n) (v 4 (2 * n))).setReg (Reg.SLOT_TS_PROP n) (v 4 (2 * n + 1))) t4
  let t6 := { t5 with slot := { t5.slot with
    hopLen := fieldOf (v 2 0) 0 6 + 1, hopUse := (vs.getD 2 []).drop 1, phAcc := phaseOfWords (v 5 0) (v 5 1)
    ea := ofWords [v 6 0, v 6 1], es := ofWords [v 6 2, v 6 3]
    slept := (v 6 4).getLsbD 0, ts1 := (v 6 4).getLsbD 1 } }
  let t7 := (t6.setRegsBy (Reg.PHY_CLASSMAP 0) 1 (vs.getD 7 [])).setReg Reg.RFE_CHAIN (v 8 0)
  let t8 := (List.range 32).foldl (fun s q => s.applyQueue q (vs.getD 9 [])) (t7.setReg Reg.RFE_PMAX (v 8 1))
  let t9 := (List.range 32).foldl (fun s q => s.setReg (Reg.HOP_QHW q) (v 10 q)) t8
  let t10 := { t9 with hop := { t9.hop with free := t9.chainFrom (fieldOf (v 11 0) 0 11) (fieldOf (v 11 1) 0 12), quar := [], ready := true } }
  (((t10.setReg Reg.HOP_DSN (v 12 0)).setReg Reg.HOP_FCNT0 (v 12 1)).setReg Reg.HOP_FCNT1 (v 12 2)).syncFree

/-- Quarantined cells join the free list (R381). -/
def State.joinFree (s : State) : State :=
  let s1 := s.hop.quar.foldl (fun s c =>
    let t := s.setLink c 0 0 (s.hop.free.headD 0)
    { t with hop := { t.hop with free := c :: t.hop.free } }) s
  State.syncFree { s1 with hop := { s1.hop with quar := [] } }

/-- The snapshot of a slot tick (R381): an earlier one that has not all left lags; quarantined cells join the free list; the
hardware state and the dirty pages are taken. -/
def State.takeSnapshot (s : State) : State :=
  if ! s.mirroring then s
  else
    let s1 := if s.tw.state.isSome || ! s.tw.pages.isEmpty then s.noteLag.dropSnapshot else s
    let s2 := s1.joinFree
    let s3 := { s2 with tw := { s2.tw with pages := s2.dirty.reverse, state := some s2.stateWords, committed := s2.tw.committed } }
    { s3 with dirty := [] }

/-! ## Sending (R371 to R374, R378, R381, R389) -/

/-- The ticks that a block of n payload words takes: its control octets and three octets a word, 10 ticks an octet
(R370, R371). -/
def blockTicks (n : Nat) : Nat := (3 * (n + 2) + 2) * 10

/-- A block of n payload words fits before the next slot tick (R373). -/
def State.blockFits (s : State) (n : Nat) : Bool := ! s.bit Reg.TB_CTL 0 || decide (s.tb.phase + blockTicks n ≤ s.tb.len)

/-- A block goes out: it takes the next sequence number and stays open (R371, R372). -/
def State.sendBlock (s : State) (typ : Nat) (ws : List Word) : State :=
  { s with tw := { s.tw with sent := s.tw.sent ++ [{ seq := s.tw.txSeq, typ := typ, words := ws }], txSeq := (s.tw.txSeq + 1) % 256 } }

/-- The payload of a heartbeat (R378). -/
def State.heartbeat (s : State) : List Word :=
  [BitVec.ofNat 24 (b2n (s.bit Reg.TW_CTL 21) * 2 ^ 23 + b2n (s.bit Reg.TW_CTL 22) * 2 ^ 22 + b2n s.tw.committed * 2 ^ 21
      + b2n s.safeForced * 2 ^ 20),
    s.reg Reg.TW_EPOCH] ++ toWords 2 s.slot.asn.toNat ++ toWords 3 s.tb.count.toNat ++ [BitVec.ofNat 24 s.tb.phase]

/-- The next block of the slot in type order, and the state that no longer holds it to send (R373): HEARTBEAT, HANDOVER,
PAGE, STATE, DATA. -/
def State.nextBlock (s : State) : Option (Nat × List Word × State) :=
  if ! s.tw.hbSent then some (1, s.heartbeat, { s with tw := { s.tw with hbSent := true } })
  else
    match s.tw.hand with
    | some (a, b) =>
      let ho := if s.tw.ho = .accepted then .confirmed else s.tw.ho
      some (6, [a, b], { s with tw := { s.tw with hand := none, ho := ho } })
    | none =>
      match (if s.mirroring then s.tw.pages else []), (if s.mirroring then s.tw.state else none), s.tw.data with
      | p :: ps, _, _ => some (3, BitVec.ofNat 24 (64 * p) :: s.sramWords (64 * p) 64, { s with tw := { s.tw with pages := ps } })
      | [], some ws, _ => some (4, ws, { s with tw := { s.tw with state := none } })
      | [], none, some (a, n) => some (5, s.sramWords a n, { s with tw := { s.tw with data := none } })
      | [], none, none => none

/-- BLOCK_SEND (R372, R373): the next block goes out while the link is UP, fewer than 4 blocks are open and it fits before
the next slot tick. -/
def execBlockSend (s : State) : Host.Outcome State Fault Refusal :=
  .next (s.inBlock Base.TW fun s =>
    if s.twUp && decide (s.tw.sent.length < 4) && s.tw.ringWait.isNone then
      match s.nextBlock with
      | some (typ, ws, t) => if s.blockFits ws.length then t.sendBlock typ ws else s
      | none => s
    else s)

/-- The HANDOVER words of a kind, a reason and an edge (R390). -/
def handWords (kind reason : Nat) (edge : Word) : Word × Word := (BitVec.ofNat 24 (kind * 2 ^ 22 + reason * 2 ^ 16), edge)

/-- An acknowledged block acts: a DATA block ends with DONE, a STATE block commits and lets a waiting handover propose the
edge of the slot after next (R374, R378, R389). -/
def State.blockAcked (s : State) (b : TwBlock) : State :=
  if b.typ = 5 then s.twTxStat 1
  else if b.typ = 4 ∧ (b.words.headD 0#24).getLsbD 23 = true then
    let s1 := { s with tw := { s.tw with committed := true, lagLast := false } }
    if s1.tw.ho = .state then
      let e := BitVec.ofNat 24 (s1.slot.asn.toNat + 2)
      { s1 with tw := { s1.tw with ho := .proposed, hoEdge := some e, hand := some (handWords 1 0 e) } }
    else s1
  else s

/-- BLOCK_ACK (R371, R372). -/
def execBlockAck (seq : BitVec 8) (s : State) : Host.Outcome State Fault Refusal :=
  .next (s.inBlock Base.TW fun s =>
    match s.tw.sent.find? fun b => b.seq == seq.toNat with
    | some b => State.blockAcked { s with tw := { s.tw with sent := s.tw.sent.filter fun b => b.seq != seq.toNat } } b
    | none => s)

/-- The blocks from one onward are sent again, each counted; after 3 re-sends of it have failed the link goes DOWN, with
lerr and source 86 (R372). -/
def State.resendFrom (s : State) (seq : Nat) : State :=
  match s.tw.sent.find? fun b => b.seq == seq with
  | none => s
  | some b =>
    if 3 ≤ b.resends then (s.twDown 0).flagRaise Reg.TW_STAT 18 86
    else
      let before := s.tw.sent.takeWhile fun b => b.seq != seq
      let again := s.tw.sent.dropWhile fun b => b.seq != seq
      let s1 := again.foldl (fun s _ => s.countReg Reg.TW_CNTRS) s
      { s1 with tw := { s1.tw with sent := before ++ again.map fun b => { b with resends := b.resends + 1 } } }

/-- BLOCK_NAK (R371, R372): reason 0x00 re-sends at once, reason 0x01 waits 50 µs. -/
def execBlockNak (seq : BitVec 8) (full : Bool) (s : State) : Host.Outcome State Fault Refusal :=
  .next (s.inBlock Base.TW fun s =>
    if full then
      if s.tw.sent.any fun b => b.seq == seq.toNat then { s with tw := { s.tw with ringWait := some seq.toNat } } else s
    else s.resendFrom seq.toNat)

/-- BLOCK_ANSWER_TIMEOUT (R372): the oldest open block has had no answer within 10 µs. -/
def execBlockAnswerTimeout (s : State) : Host.Outcome State Fault Refusal :=
  .next (s.inBlock Base.TW fun s =>
    match s.tw.sent with
    | b :: _ => if s.tw.ringWait = some b.seq then s else s.resendFrom b.seq
    | [] => s)

/-- RING_FULL_RETRY (R372): the block is sent again, which counts as no re-send. -/
def execRingFullRetry (s : State) : Host.Outcome State Fault Refusal :=
  .next (s.inBlock Base.TW fun s => { s with tw := { s.tw with ringWait := none } })

/-- A write of TW_TXCMD (R374). -/
def State.wrTwTxcmd (s : State) (v : Word) : State :=
  let n := fieldOf v 0 9
  if ! v.getLsbD 23 || s.twDataOpen then s
  else if n = 0 ∨ 256 < n then s.twTxStat 7
  else if ! s.twUp then s.twTxStat 4
  else
    let s1 := s.setFld Reg.TW_TXSTAT 0 8 3
    { s1 with tw := { s1.tw with data := some ((s.reg Reg.TW_TXADR).toNat, n) } }

/-- DATA_SEND (R374). -/
def execDataSend (v : Word) (s : State) : Host.Outcome State Fault Refusal := .next (s.onBlock Reg.TW_TXCMD (·.wrTwTxcmd v))

/-! ## Receiving (R371, R374, R378 to R382, R390) -/

/-- A good block with a sequence number arrives at an engine whose clock runs (R263, R371): one already accepted is answered with ACK and discarded; any other is
accepted, answered with ACK and acted on. -/
def State.takeBlock (s : State) (seq : BitVec 8) (f : State → State) : State :=
  if ! s.twUp || ! s.blockRuns Base.TW then s
  else
    let s1 := { s with tw := { s.tw with reply := some (seq.toNat, none) } }
    if s.tw.taken.contains seq.toNat then s1
    else f { s1 with tw := { s1.tw with taken := (seq.toNat :: s1.tw.taken).take 4 } }

/-- BAD_BLOCK_RECEIVED (R371): answered with NAK, reason 0x00. -/
def execBadBlockReceived (seq : BitVec 8) (s : State) : Host.Outcome State Fault Refusal :=
  .next (s.inBlock Base.TW fun s => if s.twUp then { s with tw := { s.tw with reply := some (seq.toNat, some 0) } } else s)

/-- A number reduced modulo n into −n/2 to n/2 − 1 (R379). -/
def centred (i : Int) (n : Nat) : Int :=
  let m := i.emod n
  if 2 * m < n then m else m - n

/-- A good active heartbeat (R378, R379, R386, R388). -/
def State.activeHeartbeat (s : State) (ws : List Word) : State :=
  let w (i : Nat) : Word := ws.getD i 0#24
  let s1 := (s.setFld Reg.TW_STAT 0 3 0).setBit Reg.TW_STAT 21 false
  let s2 := { s1 with tw := { s1.tw with hbSeen := true } }
  if s2.standby then
    let l := (s2.reg Reg.TB_SLOTLEN).toNat
    let want := ((w 7).toNat + s2.fld Reg.TW_LAT 0 12) % max 1 l
    { s2 with
      tw := { s2.tw with err := some (centred ((s2.tb.phase : Int) - want) l) }
      slot := { s2.slot with asnReq := some (ofWords [w 2, w 3] % 2 ^ 40) } }
  else if s2.bit Reg.TW_CTL 21 && s2.bit Reg.TW_CFG 23 then { s2 with tw := { s2.tw with clash := true } }
  else s2

/-- HEARTBEAT_RECEIVED (R378). -/
def execHeartbeatReceived (seq : BitVec 8) (ws : List Word) (s : State) : Host.Outcome State Fault Refusal :=
  if ws.length = 8 then
    .next (s.takeBlock seq fun s =>
      let w0 := ws.getD 0 0#24
      let s1 := { s with tw := { s.tw with partner := w0.getLsbD 22 } }
      if w0.getLsbD 23 then s1.activeHeartbeat ws else s1)
  else .next s

/-- PAGE_RECEIVED (R381): a standby unit writes the page into its SRAM. -/
def execPageReceived (seq : BitVec 8) (a : Word) (ws : List Word) (s : State) : Host.Outcome State Fault Refusal :=
  if ws.length = 64 then
    .next (s.takeBlock seq fun s =>
      if s.standby then { s.sramStores a.toNat ws with tw := { s.tw with arriving := true } } else s)
  else .next s

/-- The snapshot being received is discarded, and the last one applied stays (R382). -/
def State.discardSnap (s : State) : State := State.noteLag { s with tw := { s.tw with snap := none, arriving := false } }

/-- A STATE block of a standby unit (R381, R382): a block out of order or of another slot discards the snapshot; the commit
block applies it where every item is there. -/
def State.stateBlock (s : State) (ws : List Word) : State :=
  let w := ws.headD 0#24
  let n := fieldOf w 16 7
  let asn := fieldOf w 0 16
  let items := ws.drop 1
  let all := match s.tw.snap with
    | none => if n = 0 then some items else none
    | some (k, a, is) => if n = k ∧ asn = a then some (is ++ items) else none
  match all with
  | none => s.discardSnap
  | some is =>
    if w.getLsbD 23 then
      match stateValues stateLayout is with
      | none => s.discardSnap
      | some vs =>
        let s1 := s.applyState vs
        { s1 with tw := { s1.tw with snap := none, arriving := false, lagLast := false, committed := true, everState := true } }
    else { s with tw := { s.tw with snap := some (n + 1, asn, is), arriving := true } }

/-- STATE_RECEIVED (R381, R382). -/
def execStateReceived (seq : BitVec 8) (ws : List Word) (s : State) : Host.Outcome State Fault Refusal :=
  if ws.length ≤ 256 then .next (s.takeBlock seq fun s => if s.standby then s.stateBlock ws else s) else .next s

/-- The receive ring is full (R374). -/
def State.ringFull (s : State) : Bool := (s.fld Reg.TW_RXWR 0 3 + 1) % 8 == s.fld Reg.TW_RXRD 0 3

/-- A DATA block is stored in the receive ring, with source 84 (R374). -/
def State.storeData (s : State) (seq : BitVec 8) (ws : List Word) : State :=
  let k := s.fld Reg.TW_RXWR 0 3
  let a := (s.reg Reg.TW_RXBASE).toNat + 260 * k
  let b : TwBlock := { seq := seq.toNat, typ := 5, words := ws }
  ((s.sramStores a (b.header :: ws)).setFld Reg.TW_RXWR 0 3 (k + 1)).raise 84

/-- DATA_RECEIVED (R371, R374): a full ring answers NAK with reason 0x01. -/
def execDataReceived (seq : BitVec 8) (ws : List Word) (s : State) : Host.Outcome State Fault Refusal :=
  if 256 < ws.length then .next s
  else if s.blockRuns Base.TW && s.twUp && s.ringFull && ! s.tw.taken.contains seq.toNat then
    .next { s with tw := { s.tw with reply := some (seq.toNat, some 1) } }
  else .next (s.takeBlock seq fun s => s.storeData seq ws)

/-! ## Takeover (R384 to R386, R388) -/

/-- hbwin, where 0 acts as 1. -/
def State.hbwin (s : State) : Nat := max 1 (s.fld Reg.TW_CFG 16 7)

/-- A standby unit that can take over: paired, a STATE committed, not inhibited (R385). -/
def State.canTake (s : State) : Bool := s.standby && s.tw.everState && ! s.bit Reg.TW_STAT 21

/-- HEARTBEAT_MISS (R378, R385): the window of the slot is over without a good active heartbeat; at nmiss misses the standby
decides to take over, unless air evidence holds it back. -/
def execHeartbeatMiss (s : State) : Host.Outcome State Fault Refusal :=
  .next (s.inBlock Base.TW fun s =>
    if s.standby && ! s.tw.hbSeen then
      let s0 := s.advanceTo (s.hbwin * 2000)
      let m := s0.fld Reg.TW_STAT 0 3
      let s1 := (s0.setFld Reg.TW_STAT 0 3 (min 7 (m + 1))).raise 87
      let s2 := { s1 with tw := { s1.tw with hbSeen := true, air := s1.tw.air && m != 0 } }
      if s2.canTake && decide (max 1 (s2.fld Reg.TW_CFG 12 4) ≤ m + 1) then
        if s2.tw.air then s2.setBit Reg.TW_STAT 19 true
        else { s2 with tw := { s2.tw with claim := true, decided := true } }
      else s2
    else s)

/-- The link engine sees an assertion of TW_FLT (R384, R385): one that this unit does not drive as its claim counts for the next
edge, or after E − 100 µs for the one after; a standby unit that can take over begins its claim. -/
def State.fltAsserted (s : State) : State :=
  if s.tw.claim then s
  else
    let soon := decide (s.tb.phase + 20000 ≤ s.tb.len)
    { s with tw := { s.tw with fltNext := s.tw.fltNext || soon, fltAfter := s.tw.fltAfter || ! soon
                               airFlt := false, claim := s.canTake } }

/-- TW_FLT_ASSERT (R384, R385, R239, R263): the pad's edge to its active level raises source 89, also in deep sleep where SYS_GATEDS bit 4
keeps the wake logic on. -/
def execTwFltAssert (s : State) : Host.Outcome State Fault Refusal :=
  .next (if s.wakeLogic Base.TW 4 then (s.raise 89).inBlock Base.TW State.fltAsserted else s)

/-- The edge names the slot with an ASN. -/
def State.atHandEdge (s : State) : Bool := s.tw.hoEdge == some (BitVec.ofNat 24 s.slot.asn.toNat)

/-- What the slot edge decides, once the ASN is that of the slot that begins (R384 to R386, R388, R389): a takeover, a
step-down, or nothing. A claim ends. -/
def State.edgeDecision (s : State) : State :=
  let flt := s.tw.fltNext
  let active := s.bit Reg.TW_CTL 21
  let takes := s.canTake && (s.tw.decided || (flt && ! s.tw.airFlt))
  let handed := s.standby && s.tw.hoConf && s.atHandEdge
  let withheld := s.canTake && flt && s.tw.airFlt && ! s.tw.decided
  let steps := active && (flt || s.tw.clash || (s.tw.ho == .confirmed && s.atHandEdge))
  let s1 := if withheld then s.setBit Reg.TW_STAT 19 true else s
  { s1 with tw := { s1.tw with
      change := if takes || handed then some true else if steps then some false else none
      changeBoth := active && s.tw.clash && ! flt, clash := false, claim := false, decided := false
      fltNext := s.tw.fltAfter || withheld, fltAfter := false, hbSeen := false, hbSent := false } }

/-- Queues 4–31 are emptied: the frames removed, and the state (R386). -/
def State.emptyQueues (s : State) : Nat × State :=
  (List.range 28).foldl (fun r i =>
    let fs := (r.2.hq (i + 4)).frames
    let s1 := (r.2.setFrames (i + 4) []).mapHq (i + 4) fun h => { h with locked := false }
    (r.1 + fs.length, fs.foldl State.freeFrame s1)) (0, s)

/-- A role entry of the log (R386, R443). -/
def State.logRole (s : State) (took : Bool) (n : Nat) : State :=
  s.logRequest 0x42 0 (s.reg Reg.TW_EPOCH) (BitVec.ofNat 24 (b2n took * 2 ^ 23 + n % 4096))

/-- Free cells of the link array that the free list does not hold: the quarantined cells of the former active unit (R386). -/
def State.strayFree (s : State) : List Nat :=
  (List.range (s.fld Reg.HOP_POOLCNT 0 12)).filter fun k => s.linkSt k == 0 && ! s.hop.free.contains k

/-- The standby unit takes the active role (R386). -/
def State.takeOver (s : State) : State :=
  let s1 := ((s.setBit Reg.TW_CTL 21 true).setBit Reg.TW_STAT 15 true).setReg Reg.TW_EPOCH (s.reg Reg.TW_EPOCH + 1#24)
  let s2 := (s1.setFld Reg.HOP_DSN 0 8 (s1.fld Reg.HOP_DSN 0 8 + 8)).setBit Reg.HOP_CTL 18 true
  let s3 := if s2.hop.ready then State.joinFree { s2 with hop := { s2.hop with quar := s2.strayFree } } else s2
  let r := if s3.tw.lagLast then s3.emptyQueues else (0, s3)
  let s4 := r.2.enterCoast.logRole true r.1
  State.raise { s4 with tw := { s4.tw with hoEdge := none, hoConf := false, err := none } } 88

/-- The active unit steps down (R386): R388's step-down sets both, and all of them but an inhibited one set inh. -/
def State.stepDown (s : State) (both : Bool) : State :=
  let s0 := if both then (s.setBit Reg.TW_STAT 17 true).logRequest 0x43 0 (s.reg Reg.TW_EPOCH) 0#24 else s
  let s1 := ((s0.setBit Reg.TW_CTL 21 false).setBit Reg.TW_STAT 14 true).setBit Reg.TW_STAT 21 true
  let s2 := (s1.setBit Reg.TW_CTL 19 false).logRole false 0
  let s3 := State.dropSnapshot { s2 with tw := { s2.tw with ho := .none, hoEdge := none, hand := none, committed := false } }
  (s3.enterCoast).raise 88

/-- What the edge decided takes effect 8 ticks after it (R386). -/
def State.applyChange (s : State) : State :=
  let s1 := { s with tw := { s.tw with change := none, changeBoth := false } }
  match s.tw.change with
  | some true => s1.takeOver
  | some false => s1.stepDown s.tw.changeBoth
  | none => s1

/-! ## Planned handover (R389, R390) -/

/-- The handover of the active unit ends: ho clears, and hofail tells that it was not accepted (R389). -/
def State.endHandover (s : State) (fail : Bool) : State :=
  let s1 := s.setBit Reg.TW_CTL 19 false
  let s2 := if fail then s1.setBit Reg.TW_STAT 16 true else s1
  { s2 with tw := { s2.tw with ho := .none, hoEdge := none, hand := none } }

/-- The reason for which a standby unit refuses a proposal (R390). -/
def State.handRefusal (s : State) : Option Nat :=
  if ! s.bit Reg.TW_CTL 22 then some 1
  else if s.tw.lagLast then some 2
  else if ! s.tw.everState then some 3
  else if s.bit Reg.TW_STAT 21 then some 4
  else none

/-- A HANDOVER block acts (R389, R390). -/
def State.handBlock (s : State) (w0 w1 : Word) : State :=
  let kind := fieldOf w0 22 2
  if s.bit Reg.TW_CTL 21 then
    if s.tw.hoEdge != some w1 || s.tw.ho != .proposed then s
    else if kind = 2 then { s with tw := { s.tw with ho := .accepted, hand := some (handWords 3 0 w1) } }
    else if kind = 0 then s.endHandover true
    else s
  else if kind = 1 then
    match s.handRefusal with
    | some r => { s with tw := { s.tw with hand := some (handWords 0 r w1), hoEdge := none, hoConf := false } }
    | none => { s with tw := { s.tw with hand := some (handWords 2 0 w1), hoEdge := some w1, hoConf := false } }
  else if kind = 3 ∧ s.tw.hoEdge = some w1 then { s with tw := { s.tw with hoConf := true } }
  else s

/-- HANDOVER_RECEIVED (R389, R390). -/
def execHandoverReceived (seq : BitVec 8) (w0 w1 : Word) (s : State) : Host.Outcome State Fault Refusal :=
  .next (s.takeBlock seq fun s => s.handBlock w0 w1)

/-- HANDOVER_DEADLINE (R389): E − 200 µs of the edge that was proposed. -/
def execHandoverDeadline (s : State) : Host.Outcome State Fault Refusal :=
  .next (s.inBlock Base.TW fun s =>
    if s.tw.hoEdge == some (BitVec.ofNat 24 (s.slot.asn.toNat + 1)) then
      let s1 := s.advanceTo (s.tb.len - 40000)
      if s.tw.ho = .proposed then s1.endHandover true
      else if s.tw.ho = .accepted then s1.endHandover false
      else s1
    else s)

/-- A handover that was asked for waits for the STATE of the slot that begins (R389). -/
def State.handTick (s : State) : State :=
  if s.tw.ho = .asked then { s with tw := { s.tw with ho := .state } } else s

/-- The phase error goes to TB_PHADJ at the wrap tick of a standby unit (R379). -/
def State.followPhase (s : State) : State :=
  match s.tw.err with
  | none => s
  | some e =>
    let d := max (-65536) (min 65535 (-e))
    let s1 := s.setReg Reg.TB_PHADJ (BitVec.ofNat 24 (0x800000 + (wordOfInt d).toNat % 2 ^ 17))
    { s1 with tw := { s1.tw with err := none } }

/-- A snapshot that has begun to arrive and has not been committed by the slot tick lags (R381). -/
def State.arrivalLag (s : State) : State := if s.standby && s.tw.arriving then s.discardSnap else s

end Sys2Proof.Machine
end

