-- ==== Sys2Proof/Machine/Wrap.lean ====
section
/-! DEFINITION. The wrap tick (R33), the ticks in which channels fire, the delivery of fabric events (R44, R45), and the end of
extrapolation (R50, R51), with their commands. -/
namespace Sys2Proof.Machine

/-! ## Bedrock in the wrap tick (R33 to R40) -/

/-- The length of the slot that begins (R34, R35): TB_SLOTLEN less a pending adjustment, unless that leaves the range. -/
def State.applyLength (s : State) : State :=
  let l := (s.reg Reg.TB_SLOTLEN).toNat
  if s.bit Reg.TB_PHADJ 23 then
    let n : Int := l - signed 17 (s.fld Reg.TB_PHADJ 0 17)
    let s1 := s.setBit Reg.TB_PHADJ 23 false
    if slotLenOk n then { s1 with tb := { s1.tb with len := n.toNat } } else State.tbFlag { s1 with tb := { s1.tb with len := l } } 1
  else { s with tb := { s.tb with len := l } }

/-- A pending preload is copied (R38). -/
def State.copyPreload (s : State) (n : Nat) : State :=
  if s.bit (Reg.TB_CHSTAT n) 22 then (s.setReg (Reg.TB_SCACT n) (s.reg (Reg.TB_SCMP n))).setBit (Reg.TB_CHSTAT n) 22 false
  else s

/-- A wrap-tick arm of a channel is applied, and noted for a disarm in the same tick (R40, R41). -/
def State.applyArm (s : State) (n : Nat) : State :=
  if s.armed n then s
  else
    let s1 := s.armChannel n (s.tb.count.toNat - 1)
    { s1 with tb := { s1.tb with wrapped := { ch := n, was := s.reg (Reg.TB_CHSTAT n) } :: s1.tb.wrapped } }

/-- The wrap-tick arms are applied, against the count before the wrap tick (R40, R42); they match in the wrap tick already. -/
def State.applyArms (s : State) : State :=
  let s1 := (List.range 40).foldl (fun t n => if s.tb.wrapArm.getLsbD n then t.applyArm n else t) s
  { s1 with tb := { s1.tb with wrapArm := 0#40, armedNow := 0#40 } }

/-- An armed channel whose value lies at or beyond the slot's length sets range (R39). -/
def State.checkRange (s : State) (n : Nat) : State :=
  if s.armed n && decide (s.tb.len ≤ s.scact n) then s.setBit (Reg.TB_CHSTAT n) 2 true else s

/-- The slot-relative channel n fires where it is armed and its value lies from lo to hi. -/
def State.fireSlot (s : State) (lo hi n : Nat) : State :=
  if s.armed n && decide (lo ≤ s.scact n) && decide (s.scact n ≤ hi) then s.fireChannel n false else s

/-- The count at which absolute channel n fires: the value it holds, or one tick after the load or arm that found it passed
(R42). -/
def State.fireCount (s : State) (n : Nat) : Nat := (s.lateAt n).getD (s.acmp n)

/-- Absolute channel n fires where it is armed and its count has been reached: late where its value had passed (R42). -/
def State.fireAbs (s : State) (n : Nat) : State :=
  if s.armed (32 + n) && decide (s.fireCount n ≤ s.tb.count.toNat) then s.fireChannel (32 + n) (s.lateAt n).isSome
  else s

/-- The compares of a tick in which the phase passed lo to hi (R37, R42, R43). -/
def State.fireTick (s : State) (lo hi : Nat) : State :=
  (List.range 8).foldl State.fireAbs ((List.range 32).foldl (fun s n => s.fireSlot lo hi n) s)

/-! ## The slot engine in the wrap tick -/

/-- The ASN of the slot that begins (R112, R113). -/
def State.advanceAsn (s : State) : State :=
  match s.slot.asnReq with
  | some a =>
    let s1 := s.setBit Reg.SLOT_ASNSET1 23 false
    { s1 with slot := { s1.slot with asn := BitVec.ofNat 40 a, asnReq := none } }
  | none => if s.bit Reg.SLOT_CTL 23 then { s with slot := { s.slot with asn := s.slot.asn + 1#40 } } else s

/-- A hopping list that was committed comes into use (R114). -/
def State.takeHopList (s : State) : State :=
  if s.bit Reg.SLOT_HOPCTL 23 then
    let s1 := s.setBit Reg.SLOT_HOPCTL 23 false
    { s1 with slot := { s1.slot with hopUse := (List.range 22).map fun i => s.reg (Reg.SLOT_HOP i), hopLen := s.fld Reg.SLOT_HOPCTL 0 6 + 1 } }
  else s

/-- The settings that take effect at a wrap tick (R56, R76, R93, R115, R134). -/
def State.takeSettings (s : State) : State :=
  { s with
    rfe := { s.rfe with chain := s.reg Reg.RFE_CHAIN }
    phy := { s.phy with
      fsk := s.reg Reg.PHY_FSKCFG, ofdm := s.reg Reg.PHY_OFDMCFG
      classmap := (List.range 6).map fun i => s.reg (Reg.PHY_CLASSMAP i) }
    slot := { s.slot with
      sfLen := (List.range 8).map fun i => s.reg (Reg.SLOT_SF_LEN i), sfCells := (List.range 8).map fun i => s.reg (Reg.SLOT_SF_CELLS i)
      ebtmpl := s.reg Reg.SLOT_EBTMPL } }

/-- The ages of the time sources go up by a number of slots (R135, R138). -/
def State.ageSources (s : State) (w : Nat) : State := (s.addReg (Reg.SLOT_TS_AGE 0) w).addReg (Reg.SLOT_TS_AGE 1) w

/-- The ages of the background calibrations go up by a number of slots, and the times for which they are due (R63). -/
def State.ageCals (s : State) (w : Nat) : State :=
  { s with rfe := { s.rfe with bg := (List.range 4).map fun n =>
      let b := s.rfe.bg.getD n {}
      { b with age := b.age + w, excess := if s.bit Reg.RFE_BGSTAT n then b.excess + w else b.excess } } }

/-- The link RAM bank is switched at the first wrap tick that begins slot 0 of the chosen slotframe (R143). -/
def State.bankSwitch (s : State) : State :=
  let n := s.fld Reg.SLOT_LKBANK 0 3
  if s.bit Reg.SLOT_LKBANK 22 && s.sfEnabled n && s.slot.asn.toNat % fieldOf (s.slot.sfLen.getD n 0#24) 0 16 == 0 then
    let s1 := (s.setBit Reg.SLOT_LKBANK 23 (! s.bit Reg.SLOT_LKBANK 23)).setBit Reg.SLOT_LKBANK 22 false
    (s1.flagRaise Reg.SLOT_STAT 7 53).restartLk .run
  else s

/-- What the slot engine and the blocks that go by slots do in the wrap tick. -/
def State.slotBegins (s : State) : State :=
  let s1 := (s.advanceAsn.takeHopList.takeSettings.ageSources 1).ageCals 1
  let s2 := (List.range 32).foldl State.deferDown s1
  s2.edgeDecision.handTick.arrivalLag.takeSnapshot.planSlot.bankSwitch

/-- The wrap tick (R33, R38 to R42), in which the phase takes the value p, 0 or, after an advance by 2, 1 (R43). The count is that
of the tick already. -/
def State.wrapTick (s : State) (p : Nat) : State :=
  let s0 := if s.standby then s.followPhase else s.phaseCorrect
  let s1 := s0.applyLength
  let s2 := { s1 with tb := { s1.tb with phase := p } }
  let s3 := (List.range 32).foldl State.copyPreload s2
  let s4 := (List.range 32).foldl State.checkRange s3.applyArms
  let s5 := s4.fireTick 0 p
  (s5.raiseEvent .slotTick).slotBegins

/-- SLOT_WRAP (R33): the rest of the slot passes, and its last tick is the wrap tick of the next. -/
def execSlotWrap (s : State) : Host.Outcome State Fault Refusal :=
  if s.bedrockRuns && s.bit Reg.TB_CTL 0 then .next ((s.advance (s.tb.len - s.tb.phase)).wrapTick 0) else .next s

/-- The slot phase starts at 0 in the present tick, which is a wrap tick (R36). -/
def State.startPhase (s : State) : State := (s.setBit Reg.TB_CTL 0 true).wrapTick 0

/-- Channel 1 of the absolute channels starts the slot phase when it fires: sstart is 1 and sph is 0 (R36). -/
def State.syncStart (s : State) : Bool := s.bit Reg.TB_CTL 3 && ! s.bit Reg.TB_CTL 0

/-- A write of TB_CTL (R36): a rise of sph makes the tick after the write a wrap tick, a fall holds the phase at 0. Where Bedrock
counts no ticks at a rise, the phase starts at 0 and no wrap tick follows for it when ticks return (assumption 103). -/
def State.wrTbCtl (s : State) (v : Word) : State :=
  let s1 := s.storeReg Reg.TB_CTL v
  if s1.bit Reg.TB_CTL 0 then
    if s.bit Reg.TB_CTL 0 then s1
    else if s.bedrockRuns then (s1.advance 1).wrapTick 0
    else { s1 with tb := { s1.tb with phase := 0 } }
  else { s1 with tb := { s1.tb with phase := 0 } }

/-- SLOT_PHASE_START (R36). -/
def execSlotPhaseStart (v : Word) (s : State) : Host.Outcome State Fault Refusal := .next (s.onBus (·.wrTbCtl v))

/-- A write of TB_DISARM (R40, R41); channel 1 of the absolute channels, disarmed in its match tick, may start the slot phase as it
fires (R36). -/
def State.wrDisarm (s : State) (m : Master) (v : Word) : State :=
  let ns := chosen v (s.latch m Reg.TB_DISARMH)
  let s1 := ns.foldl State.disarmChannel (s.setLatch m Reg.TB_DISARMH 0#24)
  if s.syncStart && ns.contains 33 && s.matchesNow 33 then s1.startPhase else s1

/-- DISARM_COMMIT (R41). -/
def execDisarmCommit (m : Master) (v : Word) (s : State) : Host.Outcome State Fault Refusal :=
  .next (s.transfer m Reg.TB_DISARM true fun s => s.wrDisarm m v)

/-- The ticks that pass until an armed absolute channel fires (R42). -/
def State.ticksToAbs (s : State) (n : Nat) : Nat := s.fireCount n - s.tb.count.toNat

/-- ABSOLUTE_COMPARE_MATCH (R36, R42): the count moves on to the value of an armed channel, within the slot in progress, and the channel
fires; channel 1 may start the slot phase in its match tick. -/
def execAbsoluteCompareMatch (n : Fin 8) (s : State) : Host.Outcome State Fault Refusal :=
  let d := s.ticksToAbs n.val
  if s.bedrockRuns && s.armed (32 + n.val) && (! s.bit Reg.TB_CTL 0 || decide (s.tb.phase + d < s.tb.len)) then
    let s1 := s.advance d
    let s2 := s1.fireChannel (32 + n.val) (s.lateAt n.val).isSome
    if n.val = 1 ∧ s.syncStart = true then .next s2.startPhase else .next s2
  else .next s

/-- The ticks until the rate-trim accumulator carries or borrows, that tick included (R43). -/
def State.carryTicks (s : State) : Nat :=
  let r := signed 24 (s.reg Reg.TB_RATE).toNat
  if 0 < r then ceilDiv (2 ^ 32 - s.tb.acc.toNat) r.natAbs else s.tb.acc.toNat / r.natAbs + 1

/-- RATE_TRIM_CARRY (R43): the ticks up to the carry or the borrow pass in the slot in progress; in that tick count and phase advance
by 2, matching every value passed over, or hold. -/
def execRateTrimCarry (s : State) : Host.Outcome State Fault Refusal :=
  let r := signed 24 (s.reg Reg.TB_RATE).toNat
  let k := s.carryTicks
  if ! (s.bedrockRuns && s.bit Reg.TB_CTL 2) || decide (r = 0)
      || (s.bit Reg.TB_CTL 0 && decide (s.tb.len ≤ s.tb.phase + (k - 1))) then .next s
  else
    let acc := s.tb.acc + BitVec.ofInt 32 (k * r)
    let s1 := s.advance (k - 1)
    let s2 := { s1 with tb := { s1.tb with acc := acc, armedNow := 0#40, wrapped := [] }, slot := { s1.slot with ea := s1.slot.ea + 1 } }
    if r < 0 then .next s2
    else
      let p := s2.tb.phase
      let s3 := { s2 with tb := { s2.tb with count := s2.tb.count + 2#72 } }
      if ! s.bit Reg.TB_CTL 0 then
        let s4 := (List.range 8).foldl State.fireAbs s3
        if s.syncStart && s3.armed 33 && ! s4.armed 33 then .next s4.startPhase else .next s4
      else if p + 2 < s.tb.len then .next (State.fireTick { s3 with tb := { s3.tb with phase := p + 2 } } (p + 1) (p + 2))
      else
        let s4 := (List.range 32).foldl (fun s n => s.fireSlot (p + 1) (s.tb.len - 1) n) s3
        .next (s4.wrapTick (p + 2 - s.tb.len))

/-! ## The event fabric (R44, R45) -/

/-- A compare channel's event acts where TB_CHCTLn routes it. -/
def State.channelActs (s : State) (n : Nat) : State :=
  let c := s.reg (Reg.TB_CHCTL n)
  let s1 := if c.getLsbD 5 then s.raise n else s
  let s2 := if c.getLsbD 3 then s1.gpioEvent n else s1
  let s3 := if c.getLsbD 2 then s2.adcEvent n else s2
  let s4 := if c.getLsbD 4 then s3.pwmEvent n else s3
  if c.getLsbD 1 && s4.bit Reg.HOP_EVSEL 23 && s4.fld Reg.HOP_EVSEL 0 6 == n then s4.openGates else s4

/-- A capture input's event acts where TB_CAPSRCn routes it. -/
def State.captureActs (s : State) (n : Nat) : State :=
  let c := s.reg (Reg.TB_CAPSRC n)
  let s1 := if c.getLsbD 7 then s.raise (40 + n) else s
  let s2 := if c.getLsbD 6 then s1.gpioEvent (40 + n) else s1
  if c.getLsbD 5 then s2.adcEvent (40 + n) else s2

/-- The event to act on next, a slot tick or another, and the fabric without it: none older is left, since every event takes 8
ticks (R44). -/
def State.nextEvent (s : State) (tick : Bool) : Option (FabricEntry × List FabricEntry) :=
  match s.tb.fabric.find? fun e => (e.ev == .slotTick) == tick, s.tb.fabric.head? with
  | some e, some h => if e.raised ≤ h.raised then some (e, s.tb.fabric.erase e) else none
  | _, _ => none

/-- An event is taken off the fabric in the tick T + 8 in which it is acted on (R44). -/
def State.takeEvent (s : State) (e : FabricEntry) (rest : List FabricEntry) : State :=
  State.advanceCount { s with tb := { s.tb with fabric := rest } } (e.raised + 8)

/-- EVENT_DELIVERY (R44, R45): the oldest event of a channel or a capture input on the fabric is acted on, 8 ticks after it was
raised. -/
def execEventDelivery (s : State) : Host.Outcome State Fault Refusal :=
  match s.nextEvent false with
  | none => .next s
  | some (e, rest) =>
    let s1 := s.takeEvent e rest
    match e.ev with
    | .channel n => .next (s1.channelActs n)
    | .capture n => .next (s1.captureActs n)
    | .slotTick => .next s1

/-- A slot tick reaches a core: every `wst` that has issued has seen it (R203). -/
def tickCore (k : CoreState) : CoreState := { k with waits := k.waits.map fun w => { w with seen := true } }

/-- SLOT_TICK_ACTED (R44): eight ticks after a wrap tick the blocks act on the slot tick: source 48, the PWM outputs, the cores in
`wst`, the coalescing windows, a change of role, the walker and the sequencer. -/
def execSlotTickActed (s : State) : Host.Outcome State Fault Refusal :=
  match s.nextEvent true with
  | none => .next s
  | some (e, rest) =>
    let s0 := s.takeEvent e rest
    let s1 := { s0 with lk := tickCore s0.lk, a0 := tickCore s0.a0, a1 := tickCore s0.a1, ashc := tickCore s0.ashc }
    let s2 := (((s1.unitTicks 1).raise 48).pwmEvent 48).applyChange
    if s2.bit Reg.SLOT_CTL 23 then .next s2.lookup.sequencerStep else .next s2

/-! ## Deep sleep (R49 to R51, R140, R274) -/

/-- Bedrock goes over to extrapolation (R49). -/
def State.extrapolateOn (s : State) : State :=
  { s with tb := { s.tb with extrap := true, inc := s.dsIncrement, wraps := 0 }, slot := { s.slot with slept := true } }

/-- An absolute channel's value lies at or below the count after re-alignment: it will fire late, a wake channel with wlate
(R50). -/
def State.pastAfter (s : State) (n : Nat) : State :=
  if s.armed (32 + n) && decide (s.acmp n ≤ s.tb.count.toNat) then
    let s1 := s.setLate n (some (s.tb.count.toNat + 1))
    if s.bit (Reg.TB_CHCTL (32 + n)) 6 then s1.tbFlag 3 else s1
  else s

/-- Extrapolation ends: the wraps that it passed go to the ASN, to the ages that count slots and to the open coalescing windows
(R49, R51, R112, R135, R140, R251). -/
def State.endExtrapolation (s : State) : State :=
  let w := s.tb.wraps
  let s1 := { s with tb := { s.tb with extrap := false, wraps := 0 } }
  if w = 0 then s1
  else
    let s2 := if s1.bit Reg.SLOT_CTL 23 then
        let t := s1.setBit Reg.SLOT_STAT 0 true
        { t with slot := { t.slot with asn := t.slot.asn + BitVec.ofNat 40 w } }
      else s1
    ((s2.ageSources w).ageCals w).unitTicks w

/-- The contract with LK resumes with the first slot whose arm deadline falls after re-alignment (R140): an arm that stood for a slot
that has passed is void, and a slot whose deadline has passed meanwhile runs its default action without an overrun. -/
def State.resumeContract (s : State) (w : Nat) : State :=
  let past := decide (s.tb.len ≤ s.tb.phase + s.deadline)
  let keep := w == 0
  let t := if w ≠ 0 ∧ s.bit Reg.SLOT_CTL 23 = true then s.lookup else s
  { t with slot := { t.slot with
      armed := if keep then t.slot.armed else none
      closed := past || (keep && t.slot.closed)
      dflt := (past || (keep && t.slot.closed)) && ! (keep && t.slot.armed.isSome) } }

/-- Bedrock re-aligns (R51, R112, R140, R251): ticks count again, realn is set, and the coalescing windows that reached a limit meanwhile
are delivered. -/
def State.realign (s : State) : State :=
  let s1 := s.endExtrapolation.tbFlag 2
  let s2 := (List.range 16).foldl State.deliverDue ((List.range 8).foldl State.pastAfter s1)
  s2.resumeContract s.tb.wraps

/-- The exit from deep sleep ends (R274): the clocks reach every block, LK's where the time-base PLL is locked; a core whose clock
source has failed goes on waiting (R268). -/
def State.exitEnds (s : State) (edges : Nat) : State :=
  if s.sys.power = .exiting then
    let s1 := { s with sys := { s.sys with power := .on } }
    let clk := fun (k : CoreState) (stop : Bool) => { k with issued := false, noClock := stop }
    let s2 := { s1 with lk := clk s1.lk (! s1.bit Reg.SYS_CLKSTAT 21), a0 := clk s1.a0 s1.sys.away.isSome
                        a1 := clk s1.a1 s1.sys.away.isSome, ashc := { s1.ashc with noClock := false } }
    (s2.setFld Reg.SYS_PMSTAT 8 8 (min 255 edges)).setBit Reg.SYS_PMSTAT 1 true
  else s

/-- Every source that SYS_CLKCTL enables is stable or locked (R274). -/
def State.sourcesReady (s : State) : Bool :=
  (! s.bit Reg.SYS_CLKCTL 23 || s.bit Reg.SYS_CLKSTAT 23) && (! s.bit Reg.SYS_CLKCTL 21 || s.bit Reg.SYS_CLKSTAT 22)
    && (! s.bit Reg.SYS_CLKCTL 20 || s.bit Reg.SYS_CLKSTAT 21)

/-- REALIGNMENT (R49, R51, R269, R274): an RTC edge after the time-base PLL has locked re-aligns an extrapolating Bedrock and lets LK
issue again; in the exit from deep sleep every enabled source is awaited, and the exit ends, with the time-base PLL disabled too. edges
counts the RTC edges since the exit began, or since the last edge that was counted. -/
def execRealignment (edges : Nat) (s : State) : Host.Outcome State Fault Refusal :=
  let locked := s.bit Reg.SYS_CLKSTAT 21
  let due := if s.sys.power = .exiting then s.sourcesReady else locked && s.tb.extrap && s.sys.power == .on
  if ! due then .next s
  else
    let s1 := State.exitEnds (if s.tb.extrap then s.extrapolate edges else s) edges
    if s.tb.extrap && locked then .next (State.realign { s1 with lk := { s1.lk with noClock := false } }) else .next s1

/-- The exit from deep sleep begins (R274): the reference and the PLLs start anew. -/
def State.beginExit (s : State) : State := { s with sys := { s.sys with power := .exiting } }

/-- WAKE_LEAD_REACHED (R50): Bedrock is carried forward to the RTC edge at which the count reaches the lead of an armed wake channel,
and the exit begins. -/
def execWakeLeadReached (n : Fin 8) (s : State) : Host.Outcome State Fault Refusal :=
  if s.sys.power == .deepSleep && s.tb.extrap && s.armed (32 + n.val) && s.bit (Reg.TB_CHCTL (32 + n.val)) 6 then
    .next (s.extrapolate (s.edgesToWake n.val)).beginExit
  else .next s

end Sys2Proof.Machine
end

