-- ==== Sys2Proof/Machine/Power.lean ====
section
/-! DEFINITION. Clocks, monitors, gates and power modes (chapter 10), and their commands. -/
namespace Sys2Proof.Machine

/-! ## Sources and CCLK (R255 to R262) -/

/-- A clock source, coded as csrc, is stable: 0 RC, 1 reference, 2 system PLL (R255, R260). -/
def State.srcStable (s : State) (k : Nat) : Bool :=
  match k with
  | 0 => true
  | 1 => s.bit Reg.SYS_CLKSTAT 23
  | 2 => s.bit Reg.SYS_CLKSTAT 22
  | _ => false

/-- The CCLK source in use (SYS_CLKSTAT.cur). -/
def State.cur (s : State) : Nat := s.fld Reg.SYS_CLKSTAT 19 2

/-- A switch of CCLK waits, or none does; swp shows a wait for a source that is not stable (R260). -/
def State.setSwitch (s : State) (dest : Option Nat) (forced : Bool) : State :=
  let s1 := { s with sys := { s.sys with swTo := dest, swForced := forced } }
  s1.setBit Reg.SYS_CLKSTAT 18 (match dest with
    | some k => ! forced && ! s.srcStable k
    | none => false)

/-- The word that a write leaves in SYS_CLKCTL: refen stays while a PLL is enabled, the enable of the source in use stays, and
csrc 0b11 is ignored (R259, R260). -/
def State.clkctlAfter (s : State) (v : Word) : Word :=
  let old := s.reg Reg.SYS_CLKCTL
  let keepRef := old.getLsbD 23 && (old.getLsbD 21 || old.getLsbD 20 || s.cur == 1)
  let keepSpl := old.getLsbD 21 && s.cur == 2
  let w := (if fieldOf v 18 2 = 3 then withField v 18 2 (fieldOf old 18 2) else v) &&& 0xFFC000#24
  withBit (withBit w 23 (w.getLsbD 23 || keepRef)) 21 (w.getLsbD 21 || keepSpl)

/-- A measurement of R52 that runs ends without done. -/
def State.abandonCal (s : State) : State := s.setBit Reg.TB_RTCCAL 23 false

/-- A source that is disabled is neither stable nor monitored (R255, R266); without the time-base PLL no measurement goes on (R52). -/
def State.dropSources (s0 : State) : State :=
  let s := if s0.bit Reg.SYS_CLKCTL 20 then s0 else s0.abandonCal
  let on := fun i => s.bit Reg.SYS_CLKCTL i
  let s1 := ((s.setBit Reg.SYS_CLKSTAT 23 (s.bit Reg.SYS_CLKSTAT 23 && on 23)).setBit Reg.SYS_CLKSTAT 22
    (s.bit Reg.SYS_CLKSTAT 22 && on 21)).setBit Reg.SYS_CLKSTAT 21 (s.bit Reg.SYS_CLKSTAT 21 && on 20)
  { s1 with sys := { s1.sys with refFail := s.sys.refFail && on 23, splFail := s.sys.splFail && on 21, tplFail := s.sys.tplFail && on 20 } }

/-- A write of SYS_CLKCTL (R259, R260): a csrc other than the source in use begins a switch, the source in use ends one. While CCLK is
being switched away from a stopped clock, a csrc so written is where it goes next (assumption 105). -/
def State.wrClkctl (s : State) (v : Word) : State :=
  let s1 := (s.setReg Reg.SYS_CLKCTL (s.clkctlAfter v)).dropSources
  let k := s1.fld Reg.SYS_CLKCTL 18 2
  if s1.sys.swForced then { s1 with sys := { s1.sys with swNext := some k } }
  else if k = s.cur then s1.setSwitch none false
  else s1.setSwitch (some k) false

/-- CLOCK_CONTROL_WRITE (R259). -/
def execClockControlWrite (v : Word) (s : State) : Host.Outcome State Fault Refusal := .next (s.onBus (·.wrClkctl v))

/-- A0 and A1 issue again. -/
def State.wakeApps (s : State) : State := { s with a0 := { s.a0 with noClock := false }, a1 := { s.a1 with noClock := false } }

/-- The source that CCLK has left, once it is stable again: A0 and A1 continue, and CCLK switches back to it where csrc still names it
(R260, R268, R269). A switch that was cancelled is not begun anew. -/
def State.cclkReturns (s : State) : State :=
  match s.sys.away with
  | none => s
  | some k =>
    if s.srcStable k then
      let s1 := if s.asleep then s else s.wakeApps
      let s2 := { s1 with sys := { s1.sys with away := none } }
      if s.fld Reg.SYS_CLKCTL 18 2 = k ∧ s.cur ≠ k then
        if s.sys.swForced then { s2 with sys := { s2.sys with swNext := some k } } else s2.setSwitch (some k) false
      else s2
    else s

/-- SOURCE_STABLE (R255): 0 the reference, 1 the RTC crystal, 2 the RC, which no status shows. A failed source returns by
CLOCK_RETURN. -/
def execSourceStable (k : Fin 3) (s : State) : Host.Outcome State Fault Refusal :=
  match k with
  | 0 =>
    if s.bit Reg.SYS_CLKCTL 23 && ! s.sys.refFail && s.sys.power != .deepSleep then
      .next (State.cclkReturns (s.setBit Reg.SYS_CLKSTAT 23 true))
    else .next s
  | 1 => if s.sys.x32Fail then .next s else .next (s.setBit Reg.SYS_CLKSTAT 16 true)
  | 2 => .next s

/-- PLL_LOCK (R255): an enabled PLL locks on a stable reference. -/
def execPllLock (tpll : Bool) (s : State) : Host.Outcome State Fault Refusal :=
  let en := s.bit Reg.SYS_CLKCTL (if tpll then 20 else 21)
  let failed := if tpll then s.sys.tplFail else s.sys.splFail
  if en && s.bit Reg.SYS_CLKSTAT 23 && ! failed then
    .next (State.cclkReturns (s.setBit Reg.SYS_CLKSTAT (if tpll then 21 else 22) true))
  else .next s

/-- CCLK takes a source: swp clears as cur changes (R260), and a source written meanwhile is switched to next. -/
def State.takeSource (s : State) (k : Nat) : State :=
  let s1 := s.setFld Reg.SYS_CLKSTAT 19 2 k
  let s2 := s1.setSwitch (match s.sys.swNext with
    | some j => if j = k then none else some j
    | none => none) false
  { s2 with sys := { s2.sys with swNext := none } }

/-- CLOCK_SWITCH_COMPLETE (R260). -/
def execClockSwitchComplete (s : State) : Host.Outcome State Fault Refusal :=
  match s.sys.swTo with
  | some k => if ! s.sys.swForced && s.srcStable k then .next (s.takeSource k) else .next s
  | none => .next s

/-- CLOCK_SWITCH_FORCED (R261). -/
def execClockSwitchForced (s : State) : Host.Outcome State Fault Refusal :=
  match s.sys.swTo with
  | some k => if s.sys.swForced && s.srcStable k then .next ((s.takeSource k).setBit Reg.SYS_CLKSTAT 4 true) else .next s
  | none => .next s

/-- DIVIDER_CHANGE (R262): the dividers written last take effect. -/
def execDividerChange (s : State) : Host.Outcome State Fault Refusal :=
  .next { s with sys := { s.sys with divs := s.fld Reg.SYS_CLKCTL 14 4 } }

/-! ## Gates (R263, R264) -/

/-- A bus transfer of a master at a data address ends with a bus error (R15); a core takes it as an imprecise fault (R199). -/
def State.busError (s : State) (m : Master) (a : Word) : State :=
  let s1 := { s with sys := { s.sys with busErr := true } }
  match Master.core? m with
  | some c => s1.postFault c 5 a (s.core c).pc
  | none => s1

/-- GATE_ACCESS_TIMEOUT (R264): a transfer at a block whose gate is closing has not completed. -/
def execGateAccessTimeout (m : Master) (a : Word) (s : State) : Host.Outcome State Fault Refusal :=
  if s.gateOpen a.toNat then .next s else .next (s.busError m a)

/-! ## Clock failures (R266 to R270) -/

/-- One clock has failed: 0 reference, 1 system PLL, 2 time-base PLL, 3 32 kHz. -/
def State.markFailed (s : State) (k : Nat) : State :=
  let s1 := s.setBit Reg.SYS_CLKSTAT k true
  match k with
  | 0 => { (s1.setBit Reg.SYS_CLKSTAT 23 false) with sys := { s.sys with refFail := true } }
  | 1 => { (s1.setBit Reg.SYS_CLKSTAT 22 false) with sys := { s.sys with splFail := true } }
  | 2 => { (s1.setBit Reg.SYS_CLKSTAT 21 false) with sys := { s.sys with tplFail := true } }
  | _ => { (s1.setBit Reg.SYS_CLKSTAT 16 false) with sys := { s.sys with x32Fail := true } }

/-- A clock is failed now. -/
def State.isFailed (s : State) (k : Nat) : Bool :=
  match k with
  | 0 => s.sys.refFail
  | 1 => s.sys.splFail
  | 2 => s.sys.tplFail
  | _ => s.sys.x32Fail

/-- A clock is monitored (R266): the 32 kHz clock always, the others while they are enabled and the part is not in deep
sleep. -/
def State.monitored (s : State) (k : Nat) : Bool :=
  match k with
  | 0 => s.bit Reg.SYS_CLKCTL 23 && s.sys.power != .deepSleep && s.sys.power != .off
  | 1 => s.bit Reg.SYS_CLKCTL 21 && s.sys.power != .deepSleep && s.sys.power != .off
  | 2 => s.bit Reg.SYS_CLKCTL 20 && s.sys.power != .deepSleep && s.sys.power != .off
  | _ => true

/-- The clocks that fail with one: a PLL loses lock with its reference (R266). -/
def State.failsWith (s : State) (k : Nat) : List Nat :=
  (if k = 0 then [0, 1, 2] else [k]).filter fun j => s.monitored j && ! s.isFailed j

/-- The outputs are forced safe (R267): the front end goes to OFF, and the pads, DALI and twin outputs follow
SYS_CLKSTAT.safe. -/
def State.forceSafe (s : State) : State := ((s.keepPads).setBit Reg.SYS_CLKSTAT 17 true).rfeForcedOff

/-- What a failed CCLK source does (R260, R261, R268): CCLK goes to the RC, and A0 and A1 wait; a switch to a failed source is
cancelled. -/
def State.cclkFails (s : State) : State :=
  if (s.cur = 1 ∧ s.sys.refFail = true) ∨ (s.cur = 2 ∧ s.sys.splFail = true) then
    let s1 := { s with a0 := { s.a0 with noClock := true }, a1 := { s.a1 with noClock := true }
                       sys := { s.sys with away := some s.cur } }
    s1.setSwitch (some 0) true
  else
    match s.sys.swTo with
    | some 1 => if s.sys.refFail then s.setSwitch none false else s
    | some 2 => if s.sys.splFail then s.setSwitch none false else s
    | _ => s

/-- What a failed time-base PLL does (R268): LK waits, Bedrock goes over to extrapolation, and a running measurement ends without done
(R52; assumption 102). -/
def State.tickFails (s : State) : State :=
  let s1 := { s.abandonCal with lk := { s.abandonCal.lk with noClock := true } }
  if s.tb.extrap then s1 else s1.extrapolateOn

/-- A monitored clock fails (R266 to R268): the flags, one entry of the log for each failed clock, source 82, the effects on the
domains and the safe state. -/
def State.clockFail (s : State) (k : Nat) : State :=
  match s.failsWith k with
  | [] => s
  | ks =>
    let s1 := ks.foldl State.markFailed s
    let d1 := BitVec.ofNat 24 (s1.fld Reg.SYS_CLKSTAT 0 4)
    let s2 := ks.foldl (fun t _ => t.logRequest 0x12 0 d1 0#24) s1
    let s3 := (s2.raise 82).raiseAsh 8
    if k = 3 then (s3.setBit Reg.RTC_STAT 17 true).rtcFlag 23
    else
      let s4 := s3.cclkFails
      let s5 := if ks.contains 2 then s4.tickFails else s4
      s5.forceSafe

/-- CLOCK_FAIL (R266): 0 the reference, 1 the system PLL, 2 the time-base PLL, 3 the 32 kHz clock, which in deep sleep begins the wake
sequence (R270). -/
def execClockFail (k : Fin 4) (s : State) : Host.Outcome State Fault Refusal :=
  let s1 := s.clockFail k.val
  if k.val = 3 ∧ s.sys.power = .deepSleep then .next s1.beginExit else .next s1

/-- A failed clock is back. -/
def State.markReturned (s : State) (k : Nat) : State :=
  match k with
  | 0 => { (s.setBit Reg.SYS_CLKSTAT 23 true) with sys := { s.sys with refFail := false } }
  | 1 => { (s.setBit Reg.SYS_CLKSTAT 22 true) with sys := { s.sys with splFail := false } }
  | 2 => { (s.setBit Reg.SYS_CLKSTAT 21 true) with sys := { s.sys with tplFail := false } }
  | _ => { ((s.setBit Reg.SYS_CLKSTAT 16 true).setBit Reg.RTC_STAT 17 false) with sys := { s.sys with x32Fail := false } }

/-- CLOCK_RETURN (R266, R268, R269): a failed clock is good again, a PLL only on a stable reference; source 82 becomes pending, and CCLK
switches back. LK continues when Bedrock has re-aligned (REALIGNMENT). -/
def execClockReturn (k : Fin 4) (s : State) : Host.Outcome State Fault Refusal :=
  if s.isFailed k.val && (k.val == 0 || k.val == 3 || s.bit Reg.SYS_CLKSTAT 23) then
    let s1 := (s.markReturned k.val).raise 82
    .next (if k.val = 3 then s1 else s1.cclkReturns)
  else .next s

/-- A write of SYS_SAFECTL (R269): ignored while any monitored clock is failed. -/
def State.wrSafectl (s : State) (v : Word) : State :=
  if v.getLsbD 0 && ! (s.sys.refFail || s.sys.splFail || s.sys.tplFail || s.sys.x32Fail) then s.setBit Reg.SYS_CLKSTAT 17 false else s

/-- SAFE_RELEASE (R269). -/
def execSafeRelease (v : Word) (s : State) : Host.Outcome State Fault Refusal := .next (s.onBus (·.wrSafectl v))

/-! ## Deep sleep (R272 to R275) -/

/-- A flash or journal operation is in progress (R272, R276, R444). -/
def State.nvmBusy (s : State) : Bool :=
  s.nvm.prog.isSome || (match s.nvm.er with
    | some e => ! e.susp
    | none => false) || ! s.nvm.jops.isEmpty || ! s.cs.queue.isEmpty

/-- A path of the front end is in OFF or IDLE. -/
def State.pathQuiet (s : State) (p1 : Bool) : Bool := decide (s.path p1 ≤ 1)

/-- The Hopper, the twin link and the host link have no transfer in progress, and the host link is not inside a frame (R272). -/
def State.linksIdle (s : State) : Bool :=
  s.hop.jobs.isEmpty && s.tw.sent.isEmpty && s.tw.data.isNone && s.tw.pages.isEmpty && s.tw.state.isNone && s.tw.hand.isNone
    && s.hl.tx.isNone && ! s.hl.inFrame

/-- The conditions of R272 beyond the first two. -/
def State.deepReady (s : State) : Bool :=
  (s.lk.issued || s.a0.issued || s.a1.issued) && ! (s.wakes 0 || s.wakes 1 || s.wakes 2) && ! s.nvmBusy
    && s.pathQuiet false && s.pathQuiet true && s.slot.op.isNone && ! s.granted && s.linksIdle && s.ash.run.isNone

/-- The cores wait with deep = 1 (R272). -/
def State.deepAsked (s : State) : Bool := s.sys.power == .on && s.sys.inReset.isNone && s.bit Reg.SYS_PMCTL 0 && s.allWait

/-- SYS_PMSTAT as a read finds it: dpend shows that the cores wait with deep = 1 and a condition of R272 fails. -/
def State.rdPmstat (s : State) : Word := withBit (s.reg Reg.SYS_PMSTAT) 0 (s.deepAsked && ! s.deepReady)

/-- SRAM banks 1 to 7 that are not retained lose their contents (R275). -/
def State.loseBanks (s : State) : State :=
  ([1, 2, 3, 4, 5, 6, 7]).foldl (fun t n => if s.bit Reg.SYS_RETAIN n then t else t.loseRegion n) s

/-- Bedrock as the part goes into deep sleep (R49): with dsx = 1 it extrapolates, or goes on extrapolating; with dsx = 0 count and phase
hold, and an extrapolation that a clock failure began ends with the wraps it has passed (assumption 106). -/
def State.sleepBedrock (s : State) : State :=
  if s.bit Reg.TB_CTL 1 then (if s.tb.extrap then s else s.extrapolateOn)
  else if s.tb.extrap then s.endExtrapolation
  else s

/-- The part is in deep sleep (R49, R52, R273): the reference and the PLLs stop, and so do the cores' clocks. -/
def State.enterDeep (s : State) : State :=
  let s2 := s.abandonCal.sleepBedrock
  let s3 := ((s2.setBit Reg.SYS_CLKSTAT 23 false).setBit Reg.SYS_CLKSTAT 22 false).setBit Reg.SYS_CLKSTAT 21 false
  let stop := fun (k : CoreState) => { k with noClock := true }
  State.loseBanks { s3 with
    lk := stop s3.lk, a0 := stop s3.a0, a1 := stop s3.a1, ashc := stop s3.ashc
    sys := { s3.sys with power := .deepSleep } }

/-- DEEP_SLEEP_ENTRY (R272, R273): a wake event before the first RTC edge abandons the entry. -/
def execDeepSleepEntry (abandoned : Bool) (s : State) : Host.Outcome State Fault Refusal :=
  if s.deepAsked && s.deepReady then
    .next (if abandoned then s.setBit Reg.SYS_PMSTAT 2 true else s.enterDeep)
  else .next s

/-- DEEP_SLEEP_EXIT (R274): a presentable source starts the exit at an RTC edge, the given number of edges on. -/
def execDeepSleepExit (edges : Nat) (s : State) : Host.Outcome State Fault Refusal :=
  if s.sys.power == .deepSleep && (s.wakes 0 || s.wakes 1 || s.wakes 2) then
    .next (State.beginExit (if s.tb.extrap then s.extrapolate edges else s))
  else .next s

/-- EXIT_REFERENCE_TIMEOUT (R274): a reference that is not stable 2 ms after W has failed: A0 and A1 wait on the RC, LK waits and Bedrock
goes on extrapolating; the deep sleep is over, so the third condition of R272 counts anew. -/
def execExitReferenceTimeout (s : State) : Host.Outcome State Fault Refusal :=
  if s.sys.power == .exiting && s.bit Reg.SYS_CLKCTL 23 && ! s.bit Reg.SYS_CLKSTAT 23 then
    let s1 := State.clockFail { s with sys := { s.sys with power := .on } } 0
    let woken := fun (k : CoreState) => { k with issued := false }
    .next { (s1.setBit Reg.SYS_PMSTAT 1 true) with
      ashc := { s1.ashc with noClock := false }, lk := woken s1.lk, a0 := woken s1.a0, a1 := woken s1.a1 }
  else .next s

/-! ## Off with RTC (R276) -/

/-- A write of SYS_PMCTL (R272, R276). -/
def State.wrPmctl (s : State) (v : Word) : State :=
  let s1 := s.setReg Reg.SYS_PMCTL (v &&& 1#24)
  if fieldOf v 8 16 = 0x9740 ∧ v.getLsbD 1 = true then { s1 with sys := { s1.sys with offReq := true } } else s1

/-- OFF_REQUEST (R276). -/
def execOffRequest (v : Word) (s : State) : Host.Outcome State Fault Refusal := .next (s.onBus (·.wrPmctl v))

/-- OFF_ENTRY (R276): only the RTC domain keeps power. -/
def execOffEntry (s : State) : Host.Outcome State Fault Refusal :=
  if s.sys.offReq && ! s.nvmBusy then
    let s1 := (s.cleared false).loseAll
    .next { s1 with sys := { s1.sys with power := .off, inReset := some .power } }
  else .next s

end Sys2Proof.Machine
end

