-- ==== Sys2Proof/Machine/HostLink.lean ====
section
/-! DEFINITION. The host link (chapter 17, R421 to R426): frames from the host, their answers, and the part's own frame. -/
namespace Sys2Proof.Machine

/-- The host link receives: it is enabled and its clock runs (R263). -/
def State.hlOn (s : State) : Bool := s.bit Reg.HL_CTL 23 && s.blockRuns Base.HL

/-- The link is, or is no longer, inside a frame (R272). -/
def State.hlInFrame (s : State) (b : Bool) : State := { s with hl := { s.hl with inFrame := b } }

/-- A frame is discarded without an answer (R422). -/
def State.hlDiscard (s : State) : State := s.setBit Reg.HL_STAT 1 true

/-- The answer to a frame: its seq, and none for an ACK or the payload word of a NAK (R423). -/
def State.hlReply (s : State) (seq : Nat) (nak : Option Nat) : State := { s with hl := { s.hl with reply := some (seq, nak) } }

/-- The header word of a frame (R422). -/
def hlHeader (typ seq len : Nat) : Word := BitVec.ofNat 24 (typ % 16 * 2 ^ 20 + seq % 256 * 2 ^ 12 + len % 512)

/-- A frame behind its start octets: header, payload, and the CRC-24 of both (R422). -/
def hlFrameWords (typ seq : Nat) (ws : List Word) : List Word :=
  let hw := hlHeader typ seq ws.length :: ws
  hw ++ [BitVec.ofNat 24 (crc24 hw)]

/-- A frame as it goes over the link, in octets (R421, R422). -/
def hlOctets (typ seq : Nat) (ws : List Word) : List Nat := [0xB9, 0x74] ++ octetsOf (hlFrameWords typ seq ws)

/-- An octet on the UART: the start bit, 8 data bits with the least significant first, one stop bit (R421). -/
def uartBits (o : Nat) : List Bool := false :: ((List.range 8).map fun i => o.testBit i) ++ [true]

/-- A frame received behind its start octets: its type, its seq, its payload and whether its CRC passes; none where the words are not
a whole frame (R422). -/
def hlParse (fs : List Word) : Option (Nat × Nat × List Word × Bool) :=
  match fs with
  | [] => none
  | h :: r =>
    let n := fieldOf h 0 9
    if r.length ≠ n + 1 then none
    else some (fieldOf h 20 4, fieldOf h 12 8, r.take n, (r.getD n 0#24).toNat == crc24 (h :: r.take n))

/-- What the part sends of its own: the answer to the last frame of the host, or none, and its open frame (R422, R423). -/
def State.hlSends (s : State) : List Nat :=
  let a := match s.hl.reply with
    | none => []
    | some (seq, none) => hlOctets 8 seq []
    | some (seq, some r) => hlOctets 9 seq [BitVec.ofNat 24 r]
  a ++ match s.hl.tx with
    | none => []
    | some f => hlOctets f.typ f.seq f.words

/-- HL_RDY: in SPI mode, 1 while the part holds a frame to send (R425). -/
def State.hlRdy (s : State) : Bool := s.bit Reg.HL_CTL 23 && s.bit Reg.HL_CTL 22 && s.hl.tx.isSome

/-- The receive ring is full (R374, R424). -/
def State.hlRingFull (s : State) : Bool := (s.fld Reg.HL_RXWR 0 3 + 1) % 8 == s.fld Reg.HL_RXRD 0 3

/-- A frame is stored in the ring, with source 93 (R424). -/
def State.hlStore (s : State) (typ seq : Nat) (ws : List Word) : State :=
  let k := s.fld Reg.HL_RXWR 0 3
  let a := (s.reg Reg.HL_RXBASE).toNat + 260 * k
  let s1 := ((s.sramStores a (hlHeader typ seq ws.length :: ws)).setFld Reg.HL_RXWR 0 3 (k + 1)).raise 93
  { s1 with hl := { s1.hl with last := some seq } }

/-- A final status of the part's frame: HL_TXSTAT.status, and source 94 (R424). -/
def State.hlStatus (s : State) (status : Nat) : State := (s.setFld Reg.HL_TXSTAT 0 8 status).raise 94

/-- The part's frame is no longer open; a reply that waits goes next. -/
def State.hlEnd (s : State) (status : Nat) : State :=
  State.hlNext (State.hlStatus ({ s with hl := { s.hl with tx := none } }.setBit Reg.HL_TXSTAT 23 false) status)

/-- The ACK of the open frame ends it with DONE (R423, R424). The payload of a RSP is with the host. -/
def State.hlAcked (s : State) (seq : Nat) : State :=
  match s.hl.tx with
  | none => s
  | some f =>
    if f.seq != seq then s
    else
      let s1 := s.hlEnd 1
      if f.typ = 2 then { s1 with hl := { s1.hl with rsp := f.words } } else s1

/-- HL_ACK_RECEIVED (R423, R424). -/
def execHlAckReceived (seq : BitVec 8) (s : State) : Host.Outcome State Fault Refusal :=
  .next (if s.hlOn then (s.hlInFrame false).hlAcked seq.toNat else s)

/-- The part sends its frame again, counting a re-send; the fourth time it ends with CRC_FAIL and source 95 (R423). -/
def State.hlResend (s : State) : State :=
  match s.hl.tx with
  | none => s
  | some f =>
    if 3 ≤ f.resends then (s.hlEnd 8).flagRaise Reg.HL_STAT 0 95
    else { s.countReg Reg.HL_CNTRS with hl := { s.hl with tx := some { f with resends := f.resends + 1 } } }

/-- A NAK of the open frame (R423): reason 0 sends the frame again, counted; with reason 1 it goes again after ato ms without counting. -/
def State.hlNaked (s : State) (seq reason : Nat) : State :=
  match s.hl.tx with
  | none => s
  | some f =>
    if f.seq != seq then s
    else if reason = 0 then s.hlResend
    else if reason = 1 then { s with hl := { s.hl with tx := some { f with full := true } } }
    else s

/-- HL_NAK_RECEIVED (R423). -/
def execHlNakReceived (seq : BitVec 8) (reason : Fin 2) (s : State) : Host.Outcome State Fault Refusal :=
  .next (if s.hlOn then (s.hlInFrame false).hlNaked seq.toNat reason.val else s)

/-- HL_ACK_TIMEOUT (R423): the frame is sent again; one that the host had no room for without counting. -/
def execHlAckTimeout (s : State) : Host.Outcome State Fault Refusal :=
  .next (if s.hlOn then
      match s.hl.tx with
      | none => s
      | some f => if f.full then { s with hl := { s.hl with tx := some { f with full := false } } } else s.hlResend
    else s)

/-- A CMD, RSP or EVT frame that has arrived whole is answered, and stored where it is good, new and finds room (R423, R424). -/
def State.hlTake (s : State) (typ seq : Nat) (ws : List Word) (good : Bool) : State :=
  if ! good then s.hlReply seq (some 0)
  else if s.hl.last = some seq then s.hlReply seq none
  else if s.hlRingFull then s.hlReply seq (some 1)
  else (s.hlReply seq none).hlStore typ seq ws

/-- HL_FRAME_RECEIVED (R422 to R424): a frame has arrived, of which the words behind its start octets are given. A type the list does
not name, or a length above 256, is discarded without an answer; a good ACK or NAK acts on the part's own frame. -/
def execHlFrameReceived (fs : List Word) (s0 : State) : Host.Outcome State Fault Refusal :=
  if ! s0.hlOn then .next s0
  else
    match hlParse fs with
    | none => .next s0
    | some (typ, seq, ws, good) =>
      let s := s0.hlInFrame false
      if 256 < ws.length then .next s.hlDiscard
      else if 1 ≤ typ ∧ typ ≤ 3 then .next (s.hlTake typ seq ws good)
      else if typ = 8 then .next (if good then s.hlAcked seq else s)
      else if typ = 9 then .next (if good then s.hlNaked seq (ws.getD 0 2#24).toNat else s)
      else .next s.hlDiscard

/-- HL_GAP_TIMEOUT (R422): in UART mode the frame in progress is discarded. -/
def execHlGapTimeout (s : State) : Host.Outcome State Fault Refusal :=
  if s.hlOn && ! s.bit Reg.HL_CTL 22 then .next (s.hlInFrame false).hlDiscard else .next s

/-- HL_CSN_RISE (R425): in SPI mode a frame of the host is discarded; a frame of the part goes again from its start, without
counting. -/
def execHlCsnRise (fromHost : Bool) (s : State) : Host.Outcome State Fault Refusal :=
  if s.hlOn && s.bit Reg.HL_CTL 22 then
    .next (if fromHost then (s.hlInFrame false).hlDiscard else s.hlInFrame false)
  else .next s

/-- HL_FRAME_START (R272, R426): the start of a frame from the host. In deep sleep it makes source 93 pending, with SYS_GATEDS.hl, and
the frame is discarded; otherwise the link is inside the frame until it ends. -/
def execHlFrameStart (s : State) : Host.Outcome State Fault Refusal :=
  if s.asleep then
    if s.wakeLogic Base.HL 6 && s.bit Reg.HL_CTL 23 then .next (s.raise 93) else .next s
  else if s.hlOn then .next (s.hlInFrame true)
  else .next s

/-- A write of HL_TXCMD (R424); the transfer engine reads SRAM alone (R11; assumption 98). -/
def State.wrHlTxcmd (s : State) (v : Word) : State :=
  let typ := fieldOf v 16 4
  let n := fieldOf v 0 9
  if ! v.getLsbD 23 then s
  else if s.hl.tx.isSome then s.hlStatus 3
  else if ! s.bit Reg.HL_CTL 23 then s.hlStatus 4
  else if typ = 0 ∨ 3 < typ ∨ 256 < n then s.hlStatus 7
  else
    s.hlOpen typ (s.sramWords (s.reg Reg.HL_TXADR).toNat n)

/-- HL_TRANSMIT (R424). -/
def execHlTransmit (v : Word) (s : State) : Host.Outcome State Fault Refusal := 
  .next (s.onBlock Reg.HL_TXCMD fun s => s.wrHlTxcmd v)

end Sys2Proof.Machine
end

