-- ==== Sys2Proof/Machine/Serial.lean ====
section
/-! DEFINITION. The SPI master and the I2C master (chapter 17, R427, R428), and their commands. -/
namespace Sys2Proof.Machine

/-! ## Octets in buffer registers (R2) -/

/-- The n octets held from a register on. -/
def State.bufOctets (s : State) (a n : Nat) : List Nat :=
  (List.range n).map fun i => octetOf (s.reg (a + i / 3)) (i % 3)

/-- Registers from a on take the words of a list. -/
def State.setRegsFrom (s : State) (a : Nat) : List Word → State
  | [] => s
  | w :: ws => (s.setReg a w).setRegsFrom (a + 1) ws

/-- The registers from a on take an octet string; the unused positions of its last word read 0 (R2). -/
def State.setBufOctets (s : State) (a : Nat) (os : List Nat) : State := s.setRegsFrom a (packOctets os)

/-- The bits of an octet as a serial master sends it, most significant first (R427). -/
def msbBits (o : Nat) : List Bool := (List.range 8).map fun i => o.testBit (7 - i)

/-! ## SPI master (R427) -/

/-- SPIM_STAT takes a status, with source 96. -/
def State.spimEnd (s : State) (status : Nat) : State := (s.setFld Reg.SPIM_STAT 0 8 status).raise 96

/-- The octets that the open transfer sends (R427). -/
def State.spimSends (s : State) : List Nat :=
  match s.spim.open_ with
  | some (n, _) => s.bufOctets (Reg.SPIM_BUF 0) n
  | none => []

/-- A write of SPIM_CMD (R427). -/
def State.wrSpimCmd (s : State) (v : Word) : State :=
  let n := fieldOf v 0 8
  if ! v.getLsbD 23 || ! s.bit Reg.SPIM_CTL 23 then s
  else if s.spim.open_.isSome then s.spimEnd 3
  else if n = 0 ∨ 192 < n then s.spimEnd 7
  else
    let s1 := (s.setBit Reg.SPIM_STAT 23 true).setBit Reg.SPIM_STAT 22 true
    { s1 with spim := { s1.spim with open_ := some (n, v.getLsbD 22) } }

/-- SPIM_TRANSFER (R427). -/
def execSpimTransfer (v : Word) (s : State) : Host.Outcome State Fault Refusal := .next (s.onBlock Reg.SPIM_CMD (·.wrSpimCmd v))

/-- SPIM_TRANSFER_DONE (R427): the octets received stand in place of those sent; without hold CSN rises. -/
def execSpimTransferDone (os : List Octet) (s : State) : Host.Outcome State Fault Refusal :=
  .next (s.inBlock Base.SPIM fun s =>
    match s.spim.open_ with
    | none => s
    | some (n, hold) =>
      let s1 := s.setBufOctets (Reg.SPIM_BUF 0) ((os.take n).map BitVec.toNat)
      let s2 := (s1.setBit Reg.SPIM_STAT 23 false).setBit Reg.SPIM_STAT 22 hold
      State.spimEnd { s2 with spim := { s2.spim with open_ := none } } 1)

/-! ## I2C master (R428) -/

/-- I2C_STAT takes a final status, with source 97 for DONE and 98 for any other. -/
def State.i2cStatus (s : State) (status : Nat) : State :=
  (s.setFld Reg.I2C_STAT 0 8 status).raise (if status = 1 then 97 else 98)

/-- The open transfer ends. -/
def State.i2cEnd (s : State) (status : Nat) : State :=
  State.i2cStatus { s.setBit Reg.I2C_STAT 23 false with i2c := { s.i2c with open_ := none } } status

/-- What a transfer puts on the bus up to its STOP: for a write the address octet with bit 0 clear and the octets to write, for a read
the address octet with bit 0 set, after a repeated START (R428). -/
def State.i2cSends (s : State) : List (List Nat) :=
  match s.i2c.open_ with
  | some (a, w, r) => [2 * a :: s.bufOctets (Reg.I2C_BUF 0) w] ++ if r = 0 then [] else [[2 * a + 1]]
  | none => []

/-- A write of I2C_CMD (R428). -/
def State.wrI2cCmd (s : State) (v : Word) : State :=
  let w := fieldOf v 10 6
  let r := fieldOf v 4 6
  if ! v.getLsbD 23 then s
  else if 32 < w ∨ 32 < r then s.i2cStatus 7
  else if s.i2c.open_.isSome then s.i2cStatus 3
  else
    let s1 := s.setBit Reg.I2C_STAT 23 true
    { s1 with i2c := { s1.i2c with open_ := some (fieldOf v 16 7, w, r) } }

/-- I2C_TRANSFER (R428). -/
def execI2cTransfer (v : Word) (s : State) : Host.Outcome State Fault Refusal := .next (s.onBlock Reg.I2C_CMD (·.wrI2cCmd v))

/-- The final status of how a transfer ended: 0 DONE, 1 NACKA, 2 NACKD, 3 ARBLOST (R428). -/
def i2cStatusOf (how : Fin 4) : Nat := [1, 0x40, 0x41, 0x42].getD how.val 1

/-- I2C_TRANSFER_DONE (R428): the octets read stand in the buffer from octet 0. -/
def execI2cTransferDone (how : Fin 4) (os : List Octet) (s : State) : Host.Outcome State Fault Refusal :=
  .next (s.inBlock Base.I2C fun s =>
    match s.i2c.open_ with
    | none => s
    | some (_, _, r) => (s.setBufOctets (Reg.I2C_BUF 0) ((os.take r).map BitVec.toNat)).i2cEnd (i2cStatusOf how))

/-- I2C_TIMEOUT (R428): SCL held low beyond tmo ms in a transfer, or SCL or SDA low at go. -/
def execI2cTimeout (stretch : Bool) (s : State) : Host.Outcome State Fault Refusal :=
  .next (s.inBlock Base.I2C fun s => if s.i2c.open_.isSome then s.i2cEnd (if stretch then 0x43 else 0x44) else s)

end Sys2Proof.Machine
end

