-- ==== Sys2Proof/Machine/Bus.lean ====
section
/-! DEFINITION. A transfer on the system bus (R10 to R19, R21, R264): who reaches what, what a read returns, and what a write
does, register by register. The register writes and reads that have a command of their own are done by the same operations
here. -/
namespace Sys2Proof.Machine

/-! ## Held banks (R304) -/

/-- A transfer to a flash bank whose reads are held does not complete (R304). -/
def State.busHolds (s : State) (a : Nat) : Bool := isFlash a && s.bankHeld (bankOf a)

/-! ## Registers as they read -/

/-- A word of INT_PEND: the bits of type-E sources, and the conditions of type-L sources (R240). -/
def State.pendWord (s : State) (k : Nat) : Word :=
  (List.range 24).foldl (fun w i => if isLevel (24 * k + i) then withBit w i (s.levelCond (24 * k + i)) else w) (s.reg (Reg.INT_PEND k))

/-- A word of INT_ACT (R244). -/
def State.actWord (s : State) (k : Nat) : Word :=
  (List.range 24).foldl (fun w i => withBit w i (s.isActive (24 * k + i))) 0#24

/-- INT_CSTATc: the source presented, the running level and the number of active sources (R242, R243). -/
def State.cstatWord (s : State) (c : Nat) : Word :=
  let p := s.presented c
  let n := (s.intc.active.filter fun a => a.core == c).length
  BitVec.ofNat 24 (b2n p.isSome * 2 ^ 23 + p.getD 0 * 2 ^ 16 + s.level c * 2 ^ 8 + min 255 n)

/-- TB_ARMED and TB_ARMEDH: the armed states of n channels from channel lo, laid out as TB_ARMSET and TB_ARMSETH (R37, R40). -/
def State.armedWord (s : State) (lo n : Nat) : Word :=
  (List.range n).foldl (fun w i => withBit w i (s.armed (lo + i))) 0#24

/-- DBG_STAT: the probe, the debug state of R343, its flags and the halted cores (R436). -/
def State.rdDbgStat (s : State) : Word :=
  let w := withBit (withField (s.reg Reg.DBG_STAT) 21 2 s.debugState) 23 s.dbg.att
  withField w 0 3 (b2n s.lk.dbgHalt + 2 * b2n s.a0.dbgHalt + 4 * b2n s.a1.dbgHalt)

/-- The number of a core's semaphore ownership; none for a master that is no core of the three (R28). -/
def semOwner : Master → Option Nat
  | .lk => some 1
  | .a0 => some 2
  | .a1 => some 3
  | _ => none

/-- A read of a semaphore (R28): a free one is taken by the core that reads it. -/
def State.rdSem (s : State) (m : Master) (n : Nat) : Word × State :=
  match semOwner m, s.fld (Reg.SYS_SEM n) 0 2 with
  | some o, 0 => (BitVec.ofNat 24 (0x800000 + o), s.setReg (Reg.SYS_SEM n) (BitVec.ofNat 24 o))
  | _, _ => (s.reg (Reg.SYS_SEM n), s)

/-- A write of a semaphore (R28): the owner's write of 0 releases it, every other write is ignored. -/
def State.wrSem (s : State) (m : Master) (n : Nat) (v : Word) : State :=
  if semOwner m = some (s.fld (Reg.SYS_SEM n) 0 2) ∧ v = 0#24 then s.setReg (Reg.SYS_SEM n) 0#24 else s

/-- A read whose value is computed, or that acts (system control, interrupts, Bedrock, RTC). -/
def State.readSys (s : State) (m : Master) (a : Nat) : Word × State :=
  if a = Reg.SYS_REV then (BitVec.ofNat 24 Config.siliconRevision.toNat, s)
  else if within a (Reg.SYS_SEM 0) 16 then s.rdSem m (a - Reg.SYS_SEM 0)
  else if a = Reg.SYS_PMSTAT then (s.rdPmstat, s)
  else if within a (Reg.INT_PEND 0) 6 then (s.pendWord (a - Reg.INT_PEND 0), s)
  else if within a (Reg.INT_ACT 0) 6 then (s.actWord (a - Reg.INT_ACT 0), s)
  else if within a (Reg.INT_CSTAT 0) 3 then (s.cstatWord (a - Reg.INT_CSTAT 0), s)
  else (s.reg a, s)

/-- The same for Bedrock (R32, R48). -/
def State.readTb (s : State) (m : Master) (a : Nat) : Word × State :=
  if a = Reg.TB_CNT0 then s.rdCount m
  else if a = Reg.TB_CNT1 ∨ a = Reg.TB_CNT2 then (s.latch m a, s)
  else if a = Reg.TB_PHASE then (BitVec.ofNat 24 s.tb.phase, s)
  else if a = Reg.TB_ARMED then (s.armedWord 0 24, s)
  else if a = Reg.TB_ARMEDH then (s.armedWord 24 16, s)
  else if within a (Reg.TB_CAP_0 0) 64 then
    let n := (a - Reg.TB_CAP_0 0) / 8
    match (a - Reg.TB_CAP_0 0) % 8 with
    | 0 => s.rdCap m n
    | 1 => (s.latch m a, s)
    | 2 => (s.latch m a, s)
    | _ => (s.reg a, s)
  else (s.reg a, s)

/-- The same for the radio and mesh blocks (R70, R112, R130, R153, R166 to R168). -/
def State.readMesh (s : State) (m : Master) (a : Nat) : Word × State :=
  if within a (Reg.RFE_RP 0) 30 then (s.profileWord (a - Reg.RFE_RP 0), s)
  else if a = Reg.RFE_RPSTAT then (s.syncRp.reg a, s)
  else if a = Reg.RFE_STAT then (s.rdRfeStat, s)
  else if a = Reg.RFE_DUTYUSED then (s.dutyWord, s)
  else if within a (Reg.PHY_TXTS 0) 4 then (s.latchPassed.reg a, s)
  else if a = Reg.SLOT_ASN0 then s.rdAsn m
  else if a = Reg.SLOT_ASN1 then (s.latch m a, s)
  else if a = Reg.SLOT_RES0 then s.rdResult m
  else if a = Reg.SLOT_RES1 then (s.latch m a, s)
  else if a = Reg.HOP_HIDX then
    (BitVec.ofNat 24 (homeIndex (octetsOf [s.reg (Reg.HOP_HKEY 0), s.reg (Reg.HOP_HKEY 1), s.reg (Reg.HOP_HKEY 2)])), s)
  else if a = Reg.HOP_ALLOC then s.rdAlloc false
  else if a = Reg.HOP_ALLOCC then s.rdAlloc true
  else if a = Reg.HOP_ENQSTAT then (s.latch m a, s)
  else if within a (Reg.HOP_DQ 0) 4 then s.rdDq (a - Reg.HOP_DQ 0)
  else (s.reg a, s)

/-- The same for flash, the log, the Ashlar's mailbox and the peripherals (R319, R327, R412, R429, R438, R442). -/
def State.readPer (s : State) (m : Master) (a : Nat) : Word × State :=
  if a = Reg.NVM_JSTAT ∨ within a (Reg.NVM_JBUF 0) 16 = true then (s.latch m a, s)
  else if a = Reg.ASH_CLAIM then s.rdClaim m
  else if a = Reg.DALI_RXD then s.rdDali
  else if a = Reg.GPIO_IN then (s.rdGpioIn, s)
  else if a = Reg.ADIT_STAT then (s.rdAditStat, s)
  else if within a (Reg.ADIT_CSTAT0) 3 then (s.rdAditCstat (a - Reg.ADIT_CSTAT0), s)
  else if a = Reg.CS_HEAD0 then s.rdHead m
  else if a = Reg.CS_HEAD1 ∨ a = Reg.CS_HIDX ∨ a = Reg.CS_FWD0 ∨ a = Reg.CS_FWD1 ∨ a = Reg.CS_FWSTAT then (s.latch m a, s)
  else if a = Reg.DBG_STAT then (s.rdDbgStat, s)
  else if a = Reg.DBG_CREG then (BitVec.ofNat 24 s.drawFree.1, s.drawFree.2)
  else (s.reg a, s)

/-- A read of a register (R5, R6): an unassigned offset and a bit of code WO read 0, since nothing is stored
there. -/
def State.readReg (s : State) (m : Master) (a : Nat) : Word × State :=
  let b := (a - 0xF00000) / 0x1000
  if b ≤ 1 then s.readSys m a
  else if b = 2 then s.readTb m a
  else if b = 3 then (if calRegs.contains a then s.rdCal m a else (s.reg a, s))
  else if 5 ≤ b ∧ b ≤ 8 then s.readMesh m a
  else s.readPer m a

/-! ## Register writes -/

/-- One keyed write of SYS_LKLDDAT (R288): a word of link RAM bank 0, while lkgo is 0 and the configuration is not locked. -/
def State.wrLklddat (s : State) (v : Word) : State :=
  if s.bit Reg.SYS_CORECTL 0 || s.locked then s
  else
    let a := s.fld Reg.SYS_LKLDADR 0 14
    (s.setMem (0xD00000 + a) v).setFld Reg.SYS_LKLDADR 0 14 (a + 1)

/-- A free bit, for what a register write meets outside the part. -/
def State.freeBit (s : State) : Bool × State := (decide (s.drawFree.1 % 2 = 1), s.drawFree.2)

/-- Writes of INT_PEND: a 1 clears a type-E source's bit (R240). -/
def State.wrPend (s : State) (k : Nat) (v : Word) : State :=
  (List.range 24).foldl (fun s i => if v.getLsbD i && decide (24 * k + i < 124) then s.clearPend (24 * k + i) else s) s

/-- Writes of system control and of the interrupt controller. -/
def State.writeSys (s : State) (m : Master) (a : Nat) (v : Word) : State :=
  if a = Reg.SYS_RSTCTL then s.wrRstctl v
  else if a = Reg.SYS_WDCTL then s.wrWdctl v
  else if a = Reg.SYS_WDKICK then s.wrWdkick v
  else if within a (Reg.SYS_SEM 0) 16 then s.wrSem m (a - Reg.SYS_SEM 0) v
  else if a = Reg.SYS_CLKCTL then s.wrClkctl v
  else if a = Reg.SYS_SAFECTL then s.wrSafectl v
  else if a = Reg.SYS_PMCTL then s.wrPmctl v
  else if a = Reg.SYS_CORECTL then s.wrCorectl v
  else if a = Reg.SYS_LKLDDAT then s.wrLklddat v
  else if within a (Reg.INT_EOI0) 3 then s.wrEoi (a - Reg.INT_EOI0) v
  else if within a (Reg.INT_PEND 0) 6 then s.wrPend (a - Reg.INT_PEND 0) v
  else if a = Reg.INT_SWSET then s.wrSwset v
  else if within a (Reg.INT_CU_CTL 0) 32 && (a - Reg.INT_CU_CTL 0) % 2 == 0 then s.wrCuCtl ((a - Reg.INT_CU_CTL 0) / 2) v
  else if within a (Reg.INT_SRC 0) 128 then s.wrIntSrc (a - Reg.INT_SRC 0) v
  else s.storeReg a v

/-- Writes of Bedrock and of the RTC. -/
def State.writeTime (s : State) (m : Master) (a : Nat) (v : Word) : State :=
  if a = Reg.TB_SLOTLEN then s.wrSlotLen v
  else if a = Reg.TB_PHADJ then s.wrPhadj v
  else if a = Reg.TB_CTL then s.wrTbCtl v
  else if a = Reg.TB_RTCCAL then s.wrRtcCal v
  else if a = Reg.TB_ARMSET then s.wrArmSet m v
  else if a = Reg.TB_ARMSETH then s.setLatch m a (v &&& 0x80FFFF#24)
  else if a = Reg.TB_DISARM then s.wrDisarm m v
  else if a = Reg.TB_DISARMH then s.setLatch m a (v &&& 0x00FFFF#24)
  else if within a (Reg.TB_SCMP 0) 32 then s.wrScmp (a - Reg.TB_SCMP 0) v
  else if within a (Reg.TB_ACMP_0 0) 32 then
    match (a - Reg.TB_ACMP_0 0) % 4 with
    | 0 => s.wrAcmp0 m ((a - Reg.TB_ACMP_0 0) / 4) v
    | 3 => s
    | _ => s.setLatch m a v
  else if within a (Reg.TB_CAPCTL 0) 64 && (a - Reg.TB_CAPCTL 0) % 8 == 0 then
    s.freeBit.2.wrCapCtl ((a - Reg.TB_CAPCTL 0) / 8) v s.freeBit.1
  else if a = Reg.RTC_STAT then s.wrRtcStat v
  else if a = Reg.RTC_SWTS1 then s.wrSwts1 v
  else if a = Reg.RTC_SETCTL then s.wrSetCtl v
  else if within a (Reg.RTC_ALCTL 0) 32 then
    let n := (a - Reg.RTC_ALCTL 0) / 8
    if (a - Reg.RTC_ALCTL 0) % 8 = 0 then s.wrAlCtl n v else s.wrAlTime n a v
  else s.storeReg a v

/-- A write of RFE_DCMD over the bus: what the antenna and the die show is free (R64, R68, R73). -/
def State.wrDcmd (s : State) (v : Word) : State :=
  if fieldOf v 21 3 = 0 then s.directStop v
  else
    let t := s.drawFree
    let n := t.2.drawFree
    let p := n.2.drawFree
    let l := p.2.drawFree
    l.2.directCommand v (BitVec.ofNat 8 t.1) (n.1 % 2048) { vpa := p.1, lbt := - (l.1 : Int) }

/-- A write of HOP_QqCFG (R156): cls of queues 4–27 alone, and not to 0b00 or 0b11. -/
def State.wrQcfg (s : State) (q : Nat) (v : Word) : State :=
  let c := fieldOf v 22 2
  let s1 := s.storeReg (Reg.HOP_QCFG q) v
  s1.setFld (Reg.HOP_QCFG q) 22 2 (if 4 ≤ q ∧ q ≤ 27 ∧ (c = 1 ∨ c = 2) then c else s.qClass q)

/-- Writes of the front end, the physical layer, the slot engine and the Hopper. -/
def State.writeMesh (s : State) (m : Master) (a : Nat) (v : Word) : State :=
  if a = Reg.RFE_CTL then s.wrRfeCtl v
  else if a = Reg.RFE_CHAIN then s.wrRfeChain v
  else if a = Reg.RFE_DCMD then s.wrDcmd v
  else if a = Reg.RFE_RPCTL then s.wrRpctl v
  else if a = Reg.PHY_CTL then s.wrPhyCtl v
  else if a = Reg.PHY_FSKCFG then s.storeReg a (if s.gen1 then withBit v 13 false else v)
  else if a = Reg.PHY_PROPOSE then s.wrPropose v
  else if a = Reg.SLOT_CTL then s.wrSlotCtl v
  else if a = Reg.SLOT_STDT0 ∨ a = Reg.SLOT_STDT1 ∨ a = Reg.SLOT_STDT2 then (if s.gen1 then s else s.storeReg a v)
  else if a = Reg.SLOT_ASNSET1 then s.wrAsnSet1 v
  else if a = Reg.SLOT_ARM then s.wrArm v
  else if a = Reg.SLOT_ABORT then (if v.getLsbD 0 then s.abort else s)
  else if a = Reg.SLOT_LKBANK then s.wrLkBank v
  else if a = Reg.SLOT_TS_PROP 0 then s.wrTsProp 0 v
  else if a = Reg.SLOT_TS_PROP 1 then s.wrTsProp 1 v
  else if a = Reg.HOP_CTL then s.wrHopCtl v
  else if a = Reg.HOP_CFG then (s.storeReg a v).syncCong s
  else if a = Reg.HOP_RELEASE then s.wrRelease v
  else if a = Reg.HOP_ENQ then s.wrEnq m v
  else if a = Reg.HOP_QCMD then s.wrQcmd v
  else if within a (Reg.HOP_QCFG 0) 128 then
    let q := (a - Reg.HOP_QCFG 0) / 4
    match (a - Reg.HOP_QCFG 0) % 4 with
    | 0 => s.wrQcfg q v
    | 1 => (s.storeReg a v).syncCong s
    | _ => s.storeReg a v
  else s.storeReg a v

/-- A write of TW_MRnB or TW_MRnS (R380): cfg shows that the enabled regions exceed 4,096 pages. -/
def State.wrRegion (s : State) (a : Nat) (v : Word) : State :=
  let s1 := s.storeReg a v
  if 4096 < s1.mirrorPages then s1.setBit Reg.TW_STAT 13 true else s1

/-- A write of a DBG register over the bus: DBG_CTL.wdf alone is writable (R438). -/
def State.writeDbg (s : State) (a : Nat) (v : Word) : State :=
  if a = Reg.DBG_CTL then s.setBit Reg.DBG_CTL 20 (v.getLsbD 20) else s

/-- Writes of flash, the Ashlar's mailbox, the twin link and the peripherals. -/
def State.writePer (s : State) (m : Master) (a : Nat) (v : Word) : State :=
  if a = Reg.NVM_CMD then s.freeBit.2.wrNvmCmd m v s.freeBit.1
  else if a = Reg.NVM_JCMD then s.wrJcmd m v
  else if within a (Reg.NVM_JBUF 0) 16 then s.setLatch m a v
  else if a = Reg.ASH_CMD then s.wrAshCmd m v
  else if a = Reg.ASH_CTL then s.freeBit.2.wrAshCtl m v s.freeBit.1
  else if within a (Reg.ASH_REQ 0) 512 then s.wrAshReq m (a - Reg.ASH_REQ 0) v
  else if a = Reg.TW_CTL then s.wrTwCtl v
  else if a = Reg.TW_TXCMD then s.wrTwTxcmd v
  else if within a (Reg.TW_MRB 0) 32 then s.wrRegion a v
  else if a = Reg.DALI_CTL then s.wrDaliCtl v
  else if a = Reg.DALI_TXCTL then s.freeBit.2.wrDaliTxctl v s.freeBit.1
  else if a = Reg.HL_TXCMD then s.wrHlTxcmd v
  else if a = Reg.SPIM_CMD then s.wrSpimCmd v
  else if a = Reg.I2C_CMD then s.wrI2cCmd v
  else if a = Reg.GPIO_SET then s.wrGpioSet v
  else if a = Reg.GPIO_CLR then s.wrGpioClr v
  else if a = Reg.GPIO_PWMCTL 0 then s.wrPwmCtl 0 v
  else if a = Reg.GPIO_PWMCTL 1 then s.wrPwmCtl 1 v
  else if a = Reg.ADC_CTL then s.wrAdcCtl v
  else if a = Reg.ADIT_CTL then s.wrAditCtl v
  else if a = Reg.CS_FWD0 ∨ a = Reg.CS_FWD1 then s.setLatch m a v
  else if a = Reg.CS_FWCMD then s.wrFwCmd m v
  else s.storeReg a v

/-- A write of a register; one to an unassigned offset is ignored (R5). -/
def State.writeReg (s : State) (m : Master) (a : Nat) (v : Word) : State :=
  let b := (a - 0xF00000) / 0x1000
  if (regRow a).isNone then s
  else if b ≤ 1 then s.writeSys m a v
  else if b ≤ 3 then s.writeTime m a v
  else if 5 ≤ b ∧ b ≤ 8 then s.writeMesh m a v
  else if b = 19 then s.writeDbg a v
  else s.writePer m a v

/-! ## Transfers -/

/-- A read by a master, with its outcome: 0 done, 5 a bus error, 6 an execute-only region, 10 a row whose check fails (R15, R197,
R302, R312). -/
def State.busRead (s0 : State) (m : Master) (a : Nat) : Nat × Word × State :=
  let s := s0.served m
  if ! s.reaches m a false then (5, 0#24, s)
  else if isFlash a then
    if s.xoSector (a / 2048) && m != .ash then (6, 0#24, s.xoRead a)
    else match s.flashWord a 0 with
      | (some w, t) => (0, w, t)
      | (none, t) => (10, 0#24, t)
  else if isPeriph a then
    let r := s.readReg m a
    (0, r.1, r.2)
  else if isRom a then (0, Config.romWord a, s)
  else (0, s.mem1 a, s)

/-- A write by a master, with its outcome: 0 done, 5 a bus error. -/
def State.busWrite (s0 : State) (m : Master) (a : Nat) (v : Word) : Nat × State :=
  let s := s0.served m
  if ! s.reaches m a true then (5, s)
  else if isPeriph a then (0, s.writeReg m a v)
  else if isSram a then (0, s.storeRam a v)
  else (0, s.setMem a v)

/-- A write whose outcome is shown to the master (the model's own field sys.busErr); in deep sleep the bus accepts none (R273). -/
def State.busPut (s : State) (m : Master) (a : Nat) (v : Word) : State :=
  if s.asleep then s
  else
    let r := s.busWrite m a v
    r.2.noteBus (r.1 != 0)

/-! ## Commands -/

/-- REGISTER_WRITE (R5, R6): a bus write to an address of peripheral space. -/
def execRegisterWrite (m : Master) (a v : Word) (s : State) : Host.Outcome State Fault Refusal := .next (s.busPut m a.toNat v)

/-- ARBITRATION_RAISE (R12): a master that has waited 64 HCLK is raised for its next transfer. -/
def execArbitrationRaise (m : Master) (s : State) : Host.Outcome State Fault Refusal :=
  if s.sys.raised.contains m then .next s else .next { s with sys := { s.sys with raised := s.sys.raised ++ [m] } }

/-- SEMAPHORE_TAKE (R28). -/
def execSemaphoreTake (m : Master) (n : Fin 16) (s : State) : Host.Outcome State Fault Refusal :=
  .next (s.transfer m (Reg.SYS_SEM n.val) false fun s => State.answer (s.rdSem m n.val))

/-- SEMAPHORE_RELEASE (R28). -/
def execSemaphoreRelease (m : Master) (n : Fin 16) (v : Word) (s : State) : Host.Outcome State Fault Refusal :=
  .next (s.transfer m (Reg.SYS_SEM n.val) true fun s => s.wrSem m n.val v)

end Sys2Proof.Machine
end

