-- ==== Sys2Proof/Machine/Flags.lean ====
section
/-! DEFINITION. The arithmetic of the Ixxia-24 and the flags that each kind of instruction writes (R175, R178, R190, R191). -/
namespace Sys2Proof.Machine

/-- A word read as int24 (R174). -/
def sint (w : Word) : Int := w.toInt

/-- The masks of the flags in sr (R177). -/
abbrev srV : Nat := 0x01
/-- C. -/
abbrev srC : Nat := 0x02
/-- Z. -/
abbrev srZ : Nat := 0x04
/-- N. -/
abbrev srN : Nat := 0x08
/-- DZ. -/
abbrev srDZ : Nat := 0x40
/-- S. -/
abbrev srS : Nat := 0x80

/-- A flag to be written, as mask and value; none leaves it. -/
def flagPart (m : Nat) : Option Bool → Nat × Nat
  | none => (0, 0)
  | some b => (m, if b then m else 0)

/-- The write of the flags named; V = 1 sets S with it (R178). -/
def flagWrite (n z c v : Option Bool) : Write :=
  let fs := [flagPart srN n, flagPart srZ z, flagPart srC c, flagPart srV v,
    if v = some true then (srS, srS) else (0, 0)]
  .flags (BitVec.ofNat 24 (fs.foldl (fun a f => a + f.1) 0)) (BitVec.ofNat 24 (fs.foldl (fun a f => a + f.2) 0))

/-- The write of N and Z by a result. -/
def nzWrite (r : Word) : Write := flagWrite (some r.msb) (some (r == 0#24)) none none

/-- The write of N, Z and V by a result. -/
def nzvWrite (r : Word) (v : Bool) : Write := flagWrite (some r.msb) (some (r == 0#24)) none (some v)

/-- The write of N, Z, C and V by a result. -/
def nzcvWrite (r : Word) (c v : Bool) : Write := flagWrite (some r.msb) (some (r == 0#24)) (some c) (some v)

/-- An integer lies in int24. -/
def fits24 (i : Int) : Bool := decide (-8388608 ≤ i) && decide (i ≤ 8388607)

/-- An integer saturated to int24. -/
def sat24 (i : Int) : Word := if i < -8388608 then 0x800000#24 else if 8388607 < i then 0x7FFFFF#24 else wordOfInt i

/-- A sum with carry in (R178): the result, C and V. -/
def addc (a b : Word) (cin : Bool) : Word × Bool × Bool :=
  let n := a.toNat + b.toNat + b2n cin
  (BitVec.ofNat 24 n, decide (2 ^ 24 ≤ n), ! fits24 (sint a + sint b + b2n cin))

/-- A result that saturates, with V. -/
def satV (i : Int) : Word × Bool := (sat24 i, ! fits24 i)

/-- Leading zeros of a word, from bit n − 1 down. -/
def leadZeros (w : Word) : Nat → Nat
  | 0 => 0
  | n + 1 => if w.getLsbD n then 0 else 1 + leadZeros w n

/-- A left shift that saturates (R190): the result and V. -/
def shlSat (a : Word) (n : Nat) : Word × Bool := satV (sint a * 2 ^ n)

/-- An exact accumulator value: the 56 bits kept, and whether the sign of bit 55 is not that of the true sum (R175). -/
def accOf (i : Int) : Acc × Bool := (BitVec.ofInt 56 i, decide ((BitVec.ofInt 56 i).toInt ≠ i))

/-- The write of S where an accumulator result overflows (R175). -/
def accS (wrap : Bool) : List Write := if wrap then [.flags (BitVec.ofNat 24 srS) (BitVec.ofNat 24 srS)] else []

/-- Bits lo + 23 : lo of an accumulator. -/
def accPart (a : Acc) (lo : Nat) : Word := BitVec.ofNat 24 (a.toNat / 2 ^ lo)

/-- An accumulator with bits lo + len − 1 : lo replaced. -/
def withAccPart (a : Acc) (lo len v : Nat) : Acc :=
  (a &&& ~~~ BitVec.ofNat 56 ((2 ^ len - 1) <<< lo)) ||| BitVec.ofNat 56 ((v % 2 ^ len) <<< lo)

/-- `mva.r` (R191): the rounded and saturated frac24, and V. -/
def accRound (a : Acc) : Word × Bool :=
  let sat := if a.msb then 0x800000#24 else 0x7FFFFF#24
  let top := a.toNat / 2 ^ 47
  if top ≠ 0 ∧ top ≠ 511 then (sat, true)
  else
    let t := (a.toNat % 2 ^ 48 + 2 ^ 23) % 2 ^ 48
    if (t / 2 ^ 47 == 1) ≠ a.msb ∧ a.msb = false then (sat, true)
    else (BitVec.ofNat 24 (t / 2 ^ 24), false)

/-- Signed division (R190): quotient, remainder and V. -/
def divSigned (a b : Word) : Word × Word × Bool :=
  if b = 0#24 then (if a.msb then 0x800000#24 else 0x7FFFFF#24, a, false)
  else
    let r := satV (Int.tdiv (sint a) (sint b))
    (r.1, wordOfInt (Int.tmod (sint a) (sint b)), r.2)

/-- Unsigned division (R190): quotient and remainder. -/
def divUnsigned (a b : Word) : Word × Word :=
  if b = 0#24 then (0xFFFFFF#24, a) else (BitVec.ofNat 24 (a.toNat / b.toNat), BitVec.ofNat 24 (a.toNat % b.toNat))

/-- The write of DZ (R192). -/
def dzWrite (b : Word) : List Write := if b = 0#24 then [.flags (BitVec.ofNat 24 srDZ) (BitVec.ofNat 24 srDZ)] else []

/-- Whether a condition holds of sr (R221). -/
def condHolds (cond : Nat) (sr : Word) : Bool :=
  let n := sr.getLsbD 3
  let z := sr.getLsbD 2
  let c := sr.getLsbD 1
  let v := sr.getLsbD 0
  match cond with
  | 0 => true
  | 1 => z
  | 2 => ! z
  | 3 => n
  | 4 => ! n
  | 5 => v
  | 6 => ! v
  | 7 => c
  | 8 => ! c
  | 9 => c && ! z
  | 10 => ! c || z
  | 11 => n == v
  | 12 => n != v
  | 13 => ! z && n == v
  | _ => z || n != v

end Sys2Proof.Machine
end

