-- ==== Sys2Proof/Machine/Operands.lean ====
section
/-! DEFINITION. The operand forms of the Ixxia-24 (R210, R212, R219, R220, R222): what each stands for, and the words that its
instruction takes. -/
namespace Sys2Proof.Machine

/-- A general register as an instruction reads it; g0 reads 0 (R176). -/
def CoreState.gr (k : CoreState) (r : Fin 16) : Word := if r = 0 then 0#24 else k.g.getD r.val 0#24

/-- An accumulator as an instruction reads it. -/
def CoreState.ar (k : CoreState) (r : Fin 4) : Acc := k.acc.getD r.val 0#56

/-- The address of the instruction that follows one of a length. -/
def nextAddr (a : Word) (len : Nat) : Word := a + BitVec.ofNat 24 len

/-- imm9 sign-extended, or the extension word (R219). -/
def imm9Signed : Imm9 → Word
  | .short i => wordOfInt i.toInt
  | .ext w => w

/-- imm9 zero-extended, or the extension word (R219). -/
def imm9Unsigned : Imm9 → Word
  | .short i => BitVec.ofNat 24 i.toNat
  | .ext w => w

/-- The words that an instruction with an imm9 takes (R210). -/
def imm9Len : Imm9 → Nat
  | .short _ => 1
  | .ext _ => 2

/-- imm13 sign-extended, or the extension word (R219). -/
def imm13Value : Imm13 → Word
  | .short i => wordOfInt i.toInt
  | .ext w => w

/-- The words that an instruction with an imm13 takes (R210). -/
def imm13Len : Imm13 → Nat
  | .short _ => 1
  | .ext _ => 2

/-- The data address of a load or store (R179, R220). -/
def addrOf (k : CoreState) : Addr → Word
  | .offset b i => k.gr b + wordOfInt i.toInt
  | .offsetExt b w => k.gr b + w
  | .postInc b => k.gr b
  | .preDec b => k.gr b - 1#24
  | .absolute w => w

/-- The base register that a load or store updates, and its new value (R179). -/
def addrBase (k : CoreState) : Addr → Option (Fin 16 × Word)
  | .postInc b => some (b, k.gr b + 1#24)
  | .preDec b => some (b, k.gr b - 1#24)
  | _ => none

/-- The words that a load or store takes (R220). -/
def memLen : Addr → Nat
  | .offsetExt _ _ => 2
  | .absolute _ => 2
  | _ => 1

/-- The target of a branch or call at an address (R222). -/
def targetOf (pc : Word) : Target → Word
  | .rel d => pc + wordOfInt d.toInt
  | .ext a => a

/-- The words that a branch or call takes (R222). -/
def targetLen : Target → Nat
  | .rel _ => 1
  | .ext _ => 2

/-- The words of the two delay slots. -/
def slotsLen (s : Slots) : Nat := 2 + b2n s.x1 + b2n s.x2

/-- The count of a prefix (R187): values above 1,024 act as 1,024. -/
def rptCountOf (k : CoreState) : RptCount → Nat
  | .imm n => n.toNat + 1
  | .reg g => min 1024 (k.gr g).toNat

/-- Whether an instruction word has an extension word (R210, R212, R213). -/
def hasExt (w : Word) : Bool :=
  let m := fieldOf w 18 6
  if 0x08 ≤ m ∧ m ≤ 0x0C then w.getLsbD 9
  else if m = 0x10 ∨ m = 0x20 ∨ m = 0x21 then w.getLsbD 13
  else if m = 0x14 ∨ m = 0x15 then w.getLsbD 7
  else false

/-- Octet k of a word, and 0 for k = 3 (R181). -/
def octetAt (w : Word) (k : Nat) : Word := BitVec.ofNat 24 (octetOf w k)

end Sys2Proof.Machine
end

