-- ==== Sys2Proof/Machine/Issue.lean ====
section
/-! DEFINITION. How an Ixxia-24 core issues (R182 to R189), takes an exception or an interrupt (R193 to R201) and returns (R196):
the operations that every instruction is made of. -/
namespace Sys2Proof.Machine

/-! ## Writes in flight (R182 to R185) -/

/-- A write is issued, visible d issue cycles on. -/
def CoreState.put (k : CoreState) (d : Nat) (w : Write) : CoreState := { k with inflight := k.inflight ++ [{ left := d, w := w }] }

/-- Writes are issued at one distance. -/
def CoreState.puts (k : CoreState) (d : Nat) (ws : List Write) : CoreState :=
  { k with inflight := k.inflight ++ ws.map fun w => { left := d, w := w } }

/-- A general register is written at a distance. -/
def CoreState.putG (k : CoreState) (d : Nat) (r : Fin 16) (v : Word) : CoreState := k.put d (.g r.val v)

/-- The bits of a special register that `mts` writes (R177). -/
def specialMask : Nat → Nat
  | 1 => 0x8800CF
  | 2 => 0x0007FF
  | 3 => 0x000001
  | 4 => 0xFFFF00
  | 6 => 0xF800CF
  | 11 => 0xFFFFFF
  | 9 => 0xEFFFFF
  | _ => 0xFFFFFF

/-- A word with the bits of another under a mask. -/
def withMask (old mask v : Word) : Word := (old &&& ~~~ mask) ||| (v &&& mask)

/-- A special register takes the bits that it holds of a word (R177). -/
def CoreState.setSpecial (k : CoreState) (n : Nat) (v : Word) : CoreState :=
  let m := BitVec.ofNat 24 (specialMask n)
  match n with
  | 1 => { k with sr := withMask k.sr m v }
  | 2 => { k with lc := v &&& m }
  | 3 => { k with ie := v &&& m }
  | 4 => { k with ivb := v &&& m }
  | 5 => { k with epc := v }
  | 6 => { k with esr := v &&& m }
  | 7 => { k with elc := v }
  | 8 => { k with ebt := v }
  | 9 => { k with ecause := v &&& m }
  | 10 => { k with efa := v }
  | 11 => { k with eia := v }
  | _ => k

/-- A special register as `mfs` reads it on core c (R177). -/
def CoreState.special (k : CoreState) (c : CoreId) (n : Nat) : Word :=
  match n with
  | 0 => k.pc
  | 1 => k.sr
  | 2 => k.lc
  | 3 => k.ie
  | 4 => k.ivb
  | 5 => k.epc
  | 6 => k.esr
  | 7 => k.elc
  | 8 => k.ebt
  | 9 => k.ecause
  | 10 => k.efa
  | 11 => k.eia
  | 12 => BitVec.ofNat 24 c.cid
  | 13 => k.cyc
  | _ => 0#24

/-- A write becomes visible; one to g0 is discarded (R176). -/
def CoreState.land (k : CoreState) : Write → CoreState
  | .g r v => if r = 0 then k else { k with g := setAt v k.g r }
  | .acc r v => { k with acc := setAt v k.acc r }
  | .flags m v => { k with sr := withMask k.sr m v }
  | .special n v => k.setSpecial n v
  | .cp0 r m v => { k with cp0 := setAt (withMask (k.cp0.getD r 0#24) m v) k.cp0 r }

/-- Bits of CP0 register 15 that `c0code` and `c0eval` write: rate, none and D (R227). -/
abbrev resMask : Word := 0x7FF800#24

/-- A `c0code` comes one issue cycle nearer to its end, where it writes its results (R225). -/
def CoreState.tickC0 (k : CoreState) : CoreState :=
  match k.c0run with
  | none => k
  | some r =>
    if 1 < r.left then { k with c0run := some { r with left := r.left - 1 } }
    else
      let k1 := { k with c0run := none }
      let k2 := (List.range 3).foldl (fun k i => k.land (.cp0 (12 + i) 0xFFFFFF#24 (r.tabs.getD i 0#24))) k1
      k2.land (.cp0 15 resMask r.res)

/-- One issue cycle passes: the writes whose distance ends become visible in the order of their issue (R182, R185), and cyc counts it
(R177). -/
def CoreState.cycle (k : CoreState) : CoreState :=
  let now := k.inflight.filter fun f => decide (f.left ≤ 1)
  let later := (k.inflight.filter fun f => decide (1 < f.left)).map fun f => { f with left := f.left - 1 }
  now.foldl (fun k f => k.land f.w) { k.tickC0 with inflight := later, cyc := k.cyc + 1#24 }

/-- The crypto engine comes one issue cycle nearer to the end of what runs in it (R350). -/
def CryptoEngine.cycle (e : CryptoEngine) : CryptoEngine :=
  let e1 := match e.aes with
    | some (n, b) => if 1 < n then { e with aes := some (n - 1, b) } else { e with aes := none, blk := b }
    | none => e
  match e1.sha with
  | some (n, h) => if 1 < n then { e1 with sha := some (n - 1, h) } else { e1 with sha := none, hst := h }
  | none => e1

/-- One issue cycle of a core passes; the crypto engine belongs to the Ashlar core, and its source 2 tells of an
end (R254). -/
def State.cycle (s : State) (c : CoreId) : State :=
  let s1 := s.setCore c (s.core c).cycle
  if c = .ash then
    let e := s.ash.eng.cycle
    let s2 := s1.mapAsh fun a => { a with eng := e }
    if s.ash.eng.aes.isSome && e.aes.isNone || s.ash.eng.sha.isSome && e.sha.isNone then s2.raiseAsh 2 else s2
  else s1

/-- n issue cycles of a core pass. -/
def State.cycles (s : State) (c : CoreId) : Nat → State
  | 0 => s
  | n + 1 => (s.cycle c).cycles c n

/-- Every write in flight of a core lands: the boundary (R194). -/
def State.drain (s : State) (c : CoreId) : State :=
  s.cycles c ((s.core c).inflight.foldl (fun m f => max m f.left) 0)

/-! ## Fetch and issue (R17, R143, R182, R197) -/

/-- Core c may fetch an address (R17, R18, R143); the address space of the Ashlar core is not given. -/
def State.canFetch (s : State) (c : CoreId) (a : Nat) : Bool :=
  match c with
  | .lk => decide (s.lkBase ≤ a) && decide (a < s.lkBase + 0x4000)
  | .ash => true
  | _ => decide (a < 0x100000) || isSram a || isRom a

/-- The instruction of len words at pc cannot be fetched: FETCH (R197). -/
def State.fetchBad (s : State) (c : CoreId) (len : Nat) : Bool :=
  let a := (s.core c).pc.toNat
  ! (s.canFetch c a && s.canFetch c ((a + len - 1) % 2 ^ 24))

/-- The flash word by whose row an instruction of len words at pc cannot be fetched (R302): the row fails its check. -/
def State.badRow (s : State) (c : CoreId) (len : Nat) : Option Nat :=
  let a := (s.core c).pc.toNat
  if c = .lk ∨ c = .ash then none
  else [a, a + len - 1].find? fun a => isFlash a && ! s.rowOk (rowOf a)

/-- The debug port has asked a core to halt (R436). -/
def State.haltAsked (s : State) (c : CoreId) : Bool := c != .ash && s.dbg.haltReq.getLsbD c.cid

/-- The core has a clock and is neither in reset, waiting nor halted. -/
def State.running (s : State) (c : CoreId) : Bool :=
  let k := s.core c
  ! k.noClock && ! k.dbgHalt && (c != .lk || s.bit Reg.SYS_CLKSTAT 21) && s.sys.power != .off

/-- The core issues its next instruction: it runs; after it has accepted an interrupt, met an imprecise fault or been asked to halt it
issues only what is still to run before the boundary (R194, R199, R436); a fetch from a bank that is held waits (R304, R309). -/
def State.canIssue (s : State) (c : CoreId) : Bool :=
  let k := s.core c
  s.running c && k.run == .run
    && (k.branch.isSome || (k.accepted.isNone && k.fault.isNone && (! s.haltAsked c || k.rptPc.isSome)))
    && ! (c != .lk && c != .ash && isFlash k.pc.toNat && s.bankHeld (bankOf k.pc.toNat))

/-- An iteration of a repetition issues: lc shows those still to come after it (R187). -/
def CoreState.begin (k : CoreState) : CoreState :=
  if k.rptPc.isSome then { k with rptLeft := k.rptLeft - 1, lc := BitVec.ofNat 24 (k.rptLeft - 1), rptFresh := false } else k

/-- A handler is entered from under the newest `wst` that waits (R203). -/
def CoreState.suspend (k : CoreState) : CoreState :=
  { k with waits := match k.waits with
    | w :: ws => { w with depth := w.depth + 1 } :: ws
    | [] => [] }

/-- A handler returns to pc: a `wst` that is returned to stays to be resumed, one from whose handler the return goes elsewhere has ended
(R203). -/
def CoreState.resumeWait (k : CoreState) : CoreState :=
  { k with waits := match k.waits with
    | w :: ws => if w.depth ≤ 1 ∧ w.addr ≠ k.pc then ws else { w with depth := w.depth - 1 } :: ws
    | [] => [] }

/-- After the second slot of a `reti` (R196): what it restores, and what is resumed; next is the word at epc + 1. -/
def CoreState.restore (k : CoreState) (r : RetiRestore) (next : Word) : CoreState :=
  let k1 := CoreState.resumeWait { k with
    pc := r.epc, sr := r.esr &&& 0x8800CF#24, lc := r.elc &&& 0x0007FF#24, branch := none, rptPc := none, rptLeft := 0, rptFresh := false }
  let n := min 2 (fieldOf r.esr 20 2)
  if n ≠ 0 then { k1 with branch := some { target := r.ebt, left := n, src := r.epc, reti := none } }
  else if r.esr.getLsbD 22 then
    if k1.lc = 0#24 then { k1 with pc := nextAddr r.epc (2 + b2n (hasExt next)) }
    else { k1 with pc := r.epc + 1#24, rptPc := some r.epc, rptLeft := k1.lc.toNat, sr := withBit k1.sr 22 true }
  else k1

/-- The address moves on after an instruction of len words has issued: to the next, to the branch target after the second slot, or not at
all while iterations remain; at the end of a repetition lc is 0 (R187). -/
def CoreState.advance (k : CoreState) (len : Nat) (next : Word) : CoreState :=
  match k.branch with
  | some b =>
    if 1 < b.left then { k with pc := nextAddr k.pc len, branch := some { b with left := b.left - 1 } }
    else
      match b.reti with
      | some r => k.restore r next
      | none => { k with pc := b.target, branch := none }
  | none =>
    if k.rptPc.isSome && k.rptLeft != 0 then k
    else { k with pc := nextAddr k.pc len, rptPc := none, lc := if k.rptPc.isSome then 0#24 else k.lc, sr := withBit k.sr 22 false }

/-- A core that was asked to halt, or that steps, halts at a boundary (R436). -/
def State.debugBoundary (s : State) (c : CoreId) : State :=
  let k := s.core c
  let m := BitVec.ofNat 3 (2 ^ c.cid)
  if c ≠ .ash ∧ (s.dbg.haltReq ||| s.dbg.step) &&& m ≠ 0#3 ∧ k.branch.isNone = true ∧ k.rptPc.isNone = true then
    let s1 := s.drain c
    let s2 := s1.setCore c { s1.core c with dbgHalt := true }
    { s2 with dbg := { s2.dbg with haltReq := s2.dbg.haltReq &&& ~~~ m, step := s2.dbg.step &&& ~~~ m } }
  else s

/-- An address is a word of the Ashlar core's RAM (R323, assumption 21). -/
def isAshRam (a : Nat) : Bool := decide ((a + 2 ^ 24 - Config.ashRamBase % 2 ^ 24) % 2 ^ 24 < 0x8000)

/-- A word of the Ashlar RAM, by its address on the Ashlar core (R323). -/
def State.ashRam (s : State) (a : Nat) : Word := WordMap.get (fun _ => 0#24) s.ash.ram ((a + 2 ^ 24 - Config.ashRamBase % 2 ^ 24) % 2 ^ 24)

/-- A word of the Ashlar RAM takes a value. -/
def State.setAshRam (s : State) (a : Nat) (v : Word) : State :=
  s.mapAsh fun x => { x with ram := WordMap.set (fun _ => 0#24) x.ram ((a + 2 ^ 24 - Config.ashRamBase % 2 ^ 24) % 2 ^ 24) v }

/-- A word as the fetch path of a core finds it. -/
def State.codeWord (s : State) (c : CoreId) (a : Nat) : Word :=
  if c = .ash then (if isAshRam a then s.ashRam a else s.mem1 a) else if isRom a then Config.romWord a else s.mem1 a

/-- The `reti` whose second slot issues now. -/
def CoreState.returning (k : CoreState) : Option RetiRestore :=
  match k.branch with
  | some b => if 1 < b.left then none else b.reti
  | none => none

/-- An instruction of len words has issued with its writes: its cycle passes and the address moves on; with the last slot of a `reti` the
Ashlar core's source is no longer active (R254, assumption 104). -/
def State.finish (s : State) (c : CoreId) (len : Nat) : State :=
  let s1 := s.cycle c
  let k := s1.core c
  let next := match k.returning with
    | some r => s1.codeWord c (r.epc + 1#24).toNat
    | none => 0#24
  let s2 := if c = .ash ∧ k.returning.isSome = true then s1.endAsh else s1
  State.debugBoundary (s2.setCore c { k.advance len next with issued := true }) c

/-! ## Entry (R193 to R201) -/

/-- The vector word of a core at an address (R193): link RAM for LK, its own RAM for the Ashlar core, and what a read over the bus gives for A0
and A1; a free value where the core cannot fetch data there or the read fails. -/
def State.vector (s : State) (c : CoreId) (a : Nat) : Word × State :=
  let free := fun (s : State) => (BitVec.ofNat 24 s.drawFree.1, s.drawFree.2)
  match c with
  | .lk => if isLinkRam a then (s.mem1 a, s) else free s
  | .ash => if isAshRam a then (s.ashRam a, s) else free s
  | _ =>
    if isLinkRam a then free s
    else
      let r := s.busRead c.master a
      if r.1 = 0 then (r.2.1, r.2.2) else free r.2.2

/-- An accepted interrupt that is not taken is pending again (R200). -/
def State.unaccept (s : State) (c : CoreId) : State :=
  match (s.core c).accepted with
  | none => s
  | some n =>
    let s1 := s.setCore c { s.core c with accepted := none }
    if c = .ash then
      let b := BitVec.ofNat 16 (2 ^ n)
      { s1 with intc := { s1.intc with ashPend := s1.intc.ashPend ||| b, ashAct := s1.intc.ashAct &&& ~~~ b } }
    else
      let s2 := { s1 with intc := { s1.intc with active := s1.intc.active.filter fun a => ! (a.src == n && a.core == c.cid) } }
      if isLevel n then s2 else s2.setBit (Reg.INT_PEND (n / 24)) (n % 24) true

/-- The boot ROM's vector table is in force for a core (R205). -/
def State.romTable (s : State) (c : CoreId) : Bool := (c == .a0 || c == .a1) && (s.core c).ivb == 0xE07F00#24

/-- The handler of a vector starts (R195); the boot ROM's handler writes a ROM_EXC entry and halts the core (R205, R443). -/
def State.startHandler (s : State) (c : CoreId) (vec : Nat) : State :=
  let rom := s.romTable c
  let r := s.vector c (((s.core c).ivb.toNat + vec) % 2 ^ 24)
  let k := r.2.core c
  let s1 := r.2.setCore c { k with pc := r.1, run := if rom then .halted else .run }
  if rom then s1.logRequest 0x14 4 k.epc k.ecause else s1

/-- The iterations still to issue while a repetition is in progress, and else lc: what entry saves (R189, R195). -/
def CoreState.lcNow (k : CoreState) : Word := if k.rptPc.isSome then BitVec.ofNat 24 k.rptLeft else k.lc

/-- Where a core resumes after a handler: the prefix of a repetition in progress, else the given address (R189, R195). -/
def CoreState.resumeAt (k : CoreState) (a : Word) : Word := k.rptPc.getD a

/-- Entry to a handler at the boundary (R195): the resume address a, sr with bs and rp, lc and the cause are saved, exl sets, and the
repetition ends. bs counts the delay slots from a onwards, with the target pending (R198). The first handler instruction issues three cycles
after the boundary. -/
def State.enterHandler (s : State) (c : CoreId) (a : Word) (bs : Nat) (target : Option Word) (cause : Word) (vec : Nat) : State :=
  let k := (s.core c).suspend
  State.startHandler (s.setCore c { k with
    epc := a, esr := withField k.sr 20 2 bs, elc := k.lcNow, ecause := cause, ebt := target.getD k.ebt, cyc := k.cyc + 3#24
    sr := withBit (withBit k.sr 23 true) 22 false, branch := none, rptPc := none, rptLeft := 0, rptFresh := false }) c vec

/-- The origin of a log entry that a core makes (R439). -/
def coreOrigin : CoreId → Nat
  | .lk => 1
  | .a0 => 2
  | .a1 => 3
  | .ash => 5

/-- The Ashlar core restarts from its ROM (R330): the slots are loaded again, and a running command ends with RESTART. -/
def State.restartAsh (s : State) : State :=
  let code := match s.ash.run with
    | some r => r.code
    | none => 0
  let s1 := s.mapAsh fun a => { a with keys := a.stored }
  let s2 := { s1 with ashc := { run := .run, cyc := s1.ashc.cyc }, intc := { s1.intc with ashAct := 0#16 } }
  let s3 := if s.ash.run.isSome then s2.respond (0x46, []) else s2
  ((s3.setBit Reg.ASH_INFO 18 true).raise 77).logRequest 0x31 5 (BitVec.ofNat 24 code) 0#24

/-- A double fault (R201): ecause gains dbl and code2, a log entry is made, and LK restarts, A0 or A1 halts, or the enclave
restarts. -/
def State.doubleFault (s : State) (c : CoreId) (code : Nat) : State :=
  let k := s.core c
  let cause := withField (withBit k.ecause 21 true) 16 4 code
  let s1 := s.setCore c { k with ecause := cause, run := .halted, branch := none, rptPc := none, rptLeft := 0, rptFresh := false, fault := none }
  let s2 := s1.logRequest 0x13 (coreOrigin c) k.epc cause
  match c with
  | .lk => (s2.restartLk .run).raise 110
  | .a0 => (s2.raise 108).raiseAsh 13
  | .a1 => (s2.raise 109).raiseAsh 13
  | .ash => s2.restartAsh

/-- Where an entry resumes, with the delay slots left and their target (R189, R198). -/
def CoreState.resumePoint (k : CoreState) (a : Word) : Word × Nat × Option Word :=
  match k.branch with
  | some b => (a, b.left, some b.target)
  | none => (k.resumeAt a, 0, none)

/-- Entry for a fault of an access (R199): imp is set, efa and eia tell of the access. -/
def State.takeFault (s : State) (c : CoreId) (f : MemFault) : State :=
  let k := s.core c
  let r := k.resumePoint k.pc
  let s1 := s.setCore c { k with fault := none, efa := f.efa, eia := f.eia }
  s1.enterHandler c r.1 r.2.1 r.2.2 (BitVec.ofNat 24 (0x400000 + f.code)) f.code

/-- Entry for a precise exception (R197, R198): ILLEGAL_PAIR reports at the first of the pair, TRAP after the trap. -/
def State.takeException (s : State) (c : CoreId) (code arg : Nat) : State :=
  let k := s.core c
  let cause := BitVec.ofNat 24 (arg % 256 * 256 + code)
  if code = 3 then
    let first := match k.branch with
      | some b => b.src
      | none => k.resumeAt k.pc
    (s.setCore c { k with sr := withBit k.sr 22 false, lc := k.lcNow, rptPc := none }).enterHandler c first 0 none cause code
  else
    let r := k.resumePoint (if code = 7 then k.pc + 1#24 else k.pc)
    s.enterHandler c r.1 r.2.1 r.2.2 cause code

/-- A division by zero that traps sets DZ and writes nothing else (R192). -/
def CoreState.trapDz (k : CoreState) (code : Nat) : CoreState :=
  if code = 4 then { k with sr := k.sr ||| BitVec.ofNat 24 srDZ } else k

/-- TAKING AN EXCEPTION (R195, R197 to R201): a precise one of a code, with the trap number in arg, or the imprecise fault that waits and
goes before it. Earlier writes in flight land first. With exl set it is a double fault. -/
def State.exception (s : State) (c : CoreId) (code arg : Nat) : State :=
  let s1 := (s.drain c).unaccept c
  let k := s1.core c
  match k.fault with
  | some f => if k.sr.getLsbD 23 then s1.doubleFault c f.code else s1.takeFault c f
  | none =>
    let s2 := s1.setCore c (k.trapDz code)
    if k.sr.getLsbD 23 then s2.doubleFault c code else s2.takeException c code arg

/-- The precise exception that an instruction meets (R200): FETCH and NVM_CRC first, then what the instruction itself raises. -/
def State.causeOf (s : State) (c : CoreId) (len : Nat) (own : Option Nat) : Option Nat :=
  if s.fetchBad c len then some 1 else if (s.badRow c len).isSome then some 10 else own

/-- What the controller notes of a row by which a fetch fails (R302). -/
def State.noteRow (s : State) (c : CoreId) (len : Nat) : State :=
  match s.fetchBad c len, s.badRow c len with
  | false, some a => (s.flashWord a 0).2
  | _, _ => s

/-- An instruction of len words comes to issue on a core: it is not issued where the core does not issue, raises its precise exception,
or does what f says. A core that steps halts at the boundary that the exception leaves it at (R436). -/
def State.attempt (s : State) (c : CoreId) (len : Nat) (own : Option Nat) (arg : Nat) (f : State → State) : State :=
  if s.canIssue c then
    match s.causeOf c len own with
    | some e => ((s.noteRow c len).exception c e arg).debugBoundary c
    | none => f (s.setCore c (s.core c).begin)
  else s

/-- An instruction that issues with the effect f. -/
def State.issue (s : State) (c : CoreId) (len : Nat) (own : Option Nat) (f : State → State) : State :=
  s.attempt c len own 0 fun s => (f s).finish c len

/-- An instruction whose effect lies in its core. -/
def State.issueCore (s : State) (c : CoreId) (len : Nat) (own : Option Nat) (f : CoreState → CoreState) : State :=
  s.issue c len own fun s => s.setCore c (f (s.core c))

/-- An instruction that may not stand in a delay slot or under a prefix (R186, R188): ILLEGAL_PAIR where it does. -/
def CoreState.pairCause (k : CoreState) (bad : Bool) (own : Option Nat) : Option Nat :=
  if own = some 2 then own
  else if bad || k.branch.isSome || k.rptPc.isSome then some 3 else own

/-- An instruction of one word that writes general registers and flags at one distance. -/
def State.alu (s : State) (c : CoreId) (len d : Nat) (f : CoreState → List Write) : State :=
  s.issueCore c len none fun k => k.puts d (f k)

end Sys2Proof.Machine
end

