-- ==== Sys2Proof/Machine/Alu.lean ====
section
/-! DEFINITION. The integer instructions (R214 to R219): one meaning for each, over `State.alu` and the computations of
Flags.lean. -/
namespace Sys2Proof.Machine

/-- A general register and N, Z, C, V are written. -/
def outNzcv (d : Fin 16) (r : Word × Bool × Bool) : List Write := [.g d.val r.1, nzcvWrite r.1 r.2.1 r.2.2]

/-- A general register and N, Z, V are written. -/
def outNzv (d : Fin 16) (r : Word × Bool) : List Write := [.g d.val r.1, nzvWrite r.1 r.2]

/-- A general register and N, Z are written. -/
def outNz (d : Fin 16) (r : Word) : List Write := [.g d.val r, nzWrite r]

/-- An accumulator and, where it overflows, S are written (R175). -/
def outAcc (d : Fin 4) (i : Int) : List Write := .acc d.val (accOf i).1 :: accS (accOf i).2

/-- C as an instruction reads it. -/
def CoreState.carry (k : CoreState) : Bool := k.sr.getLsbD 1

/-- A shift count (R190): bits 5:0. -/
def shiftCount (w : Word) : Nat := fieldOf w 0 6

/-- Logical left shift (R190). -/
def shl24 (a : Word) (n : Nat) : Word := a <<< n

/-- Logical right shift (R190). -/
def shr24 (a : Word) (n : Nat) : Word := a >>> n

/-- Arithmetic right shift (R190). -/
def sar24 (a : Word) (n : Nat) : Word := a.sshiftRight n

/-- The smaller or the larger of two words, by an order. -/
def pick (first : Bool) (a b : Word) : Word := if first then a else b

/-! ## ALU (R214) -/

/-- ADD (R214). -/
def execAdd (c : CoreId) (d a b : Fin 16) (s : State) : Host.Outcome State Fault Refusal :=
  .next (s.alu c 1 1 fun k => outNzcv d (addc (k.gr a) (k.gr b) false))

/-- ADDC (R214). -/
def execAddc (c : CoreId) (d a b : Fin 16) (s : State) : Host.Outcome State Fault Refusal :=
  .next (s.alu c 1 1 fun k => outNzcv d (addc (k.gr a) (k.gr b) k.carry))

/-- SUB (R178, R214): C = 1 means no borrow. -/
def execSub (c : CoreId) (d a b : Fin 16) (s : State) : Host.Outcome State Fault Refusal :=
  .next (s.alu c 1 1 fun k => outNzcv d (addc (k.gr a) (~~~ k.gr b) true))

/-- SUBC (R214). -/
def execSubc (c : CoreId) (d a b : Fin 16) (s : State) : Host.Outcome State Fault Refusal :=
  .next (s.alu c 1 1 fun k => outNzcv d (addc (k.gr a) (~~~ k.gr b) k.carry))

/-- ADDS (R214). -/
def execAdds (c : CoreId) (d a b : Fin 16) (s : State) : Host.Outcome State Fault Refusal :=
  .next (s.alu c 1 1 fun k => outNzv d (satV (sint (k.gr a) + sint (k.gr b))))

/-- SUBS (R214). -/
def execSubs (c : CoreId) (d a b : Fin 16) (s : State) : Host.Outcome State Fault Refusal :=
  .next (s.alu c 1 1 fun k => outNzv d (satV (sint (k.gr a) - sint (k.gr b))))

/-- AND (R214). -/
def execAnd (c : CoreId) (d a b : Fin 16) (s : State) : Host.Outcome State Fault Refusal :=
  .next (s.alu c 1 1 fun k => outNz d (k.gr a &&& k.gr b))

/-- OR (R214). -/
def execOr (c : CoreId) (d a b : Fin 16) (s : State) : Host.Outcome State Fault Refusal :=
  .next (s.alu c 1 1 fun k => outNz d (k.gr a ||| k.gr b))

/-- XOR (R214). -/
def execXor (c : CoreId) (d a b : Fin 16) (s : State) : Host.Outcome State Fault Refusal :=
  .next (s.alu c 1 1 fun k => outNz d (k.gr a ^^^ k.gr b))

/-- ANDN (R214). -/
def execAndn (c : CoreId) (d a b : Fin 16) (s : State) : Host.Outcome State Fault Refusal :=
  .next (s.alu c 1 1 fun k => outNz d (k.gr a &&& ~~~ k.gr b))

/-- MIN (R214). -/
def execMin (c : CoreId) (d a b : Fin 16) (s : State) : Host.Outcome State Fault Refusal :=
  .next (s.alu c 1 1 fun k => outNz d (pick (decide (sint (k.gr a) ≤ sint (k.gr b))) (k.gr a) (k.gr b)))

/-- MAX (R214). -/
def execMax (c : CoreId) (d a b : Fin 16) (s : State) : Host.Outcome State Fault Refusal :=
  .next (s.alu c 1 1 fun k => outNz d (pick (decide (sint (k.gr b) ≤ sint (k.gr a))) (k.gr a) (k.gr b)))

/-- MINU (R214). -/
def execMinu (c : CoreId) (d a b : Fin 16) (s : State) : Host.Outcome State Fault Refusal :=
  .next (s.alu c 1 1 fun k => outNz d (pick (decide (k.gr a ≤ k.gr b)) (k.gr a) (k.gr b)))

/-- MAXU (R214). -/
def execMaxu (c : CoreId) (d a b : Fin 16) (s : State) : Host.Outcome State Fault Refusal :=
  .next (s.alu c 1 1 fun k => outNz d (pick (decide (k.gr b ≤ k.gr a)) (k.gr a) (k.gr b)))

/-! ## Shifts (R215) -/

/-- SHL (R190, R215). -/
def execShl (c : CoreId) (d a b : Fin 16) (s : State) : Host.Outcome State Fault Refusal :=
  .next (s.alu c 1 1 fun k => outNz d (shl24 (k.gr a) (shiftCount (k.gr b))))

/-- SHR (R190, R215). -/
def execShr (c : CoreId) (d a b : Fin 16) (s : State) : Host.Outcome State Fault Refusal :=
  .next (s.alu c 1 1 fun k => outNz d (shr24 (k.gr a) (shiftCount (k.gr b))))

/-- SAR (R190, R215). -/
def execSar (c : CoreId) (d a b : Fin 16) (s : State) : Host.Outcome State Fault Refusal :=
  .next (s.alu c 1 1 fun k => outNz d (sar24 (k.gr a) (shiftCount (k.gr b))))

/-- SHLS (R190, R215). -/
def execShls (c : CoreId) (d a b : Fin 16) (s : State) : Host.Outcome State Fault Refusal :=
  .next (s.alu c 1 1 fun k => outNzv d (shlSat (k.gr a) (shiftCount (k.gr b))))

/-- SHLI (R190, R215). -/
def execShli (c : CoreId) (d a : Fin 16) (n : BitVec 6) (s : State) : Host.Outcome State Fault Refusal :=
  .next (s.alu c 1 1 fun k => outNz d (shl24 (k.gr a) n.toNat))

/-- SHRI (R190, R215). -/
def execShri (c : CoreId) (d a : Fin 16) (n : BitVec 6) (s : State) : Host.Outcome State Fault Refusal :=
  .next (s.alu c 1 1 fun k => outNz d (shr24 (k.gr a) n.toNat))

/-- SARI (R190, R215). -/
def execSari (c : CoreId) (d a : Fin 16) (n : BitVec 6) (s : State) : Host.Outcome State Fault Refusal :=
  .next (s.alu c 1 1 fun k => outNz d (sar24 (k.gr a) n.toNat))

/-- SHLSI (R190, R215). -/
def execShlsi (c : CoreId) (d a : Fin 16) (n : BitVec 6) (s : State) : Host.Outcome State Fault Refusal :=
  .next (s.alu c 1 1 fun k => outNzv d (shlSat (k.gr a) n.toNat))

/-! ## Multiplication and division (R216) -/

/-- MPY (R175, R216). -/
def execMpy (c : CoreId) (d : Fin 4) (a b : Fin 16) (s : State) : Host.Outcome State Fault Refusal :=
  .next (s.alu c 1 3 fun k => outAcc d (sint (k.gr a) * sint (k.gr b)))

/-- MPF (R175, R216). -/
def execMpf (c : CoreId) (d : Fin 4) (a b : Fin 16) (s : State) : Host.Outcome State Fault Refusal :=
  .next (s.alu c 1 3 fun k => outAcc d (2 * (sint (k.gr a) * sint (k.gr b))))

/-- MAC (R175, R216). -/
def execMac (c : CoreId) (d : Fin 4) (a b : Fin 16) (s : State) : Host.Outcome State Fault Refusal :=
  .next (s.alu c 1 3 fun k => outAcc d ((k.ar d).toInt + sint (k.gr a) * sint (k.gr b)))

/-- MACF (R175, R216). -/
def execMacf (c : CoreId) (d : Fin 4) (a b : Fin 16) (s : State) : Host.Outcome State Fault Refusal :=
  .next (s.alu c 1 3 fun k => outAcc d ((k.ar d).toInt + 2 * (sint (k.gr a) * sint (k.gr b))))

/-- MSU (R175, R216). -/
def execMsu (c : CoreId) (d : Fin 4) (a b : Fin 16) (s : State) : Host.Outcome State Fault Refusal :=
  .next (s.alu c 1 3 fun k => outAcc d ((k.ar d).toInt - sint (k.gr a) * sint (k.gr b)))

/-- MSUF (R175, R216). -/
def execMsuf (c : CoreId) (d : Fin 4) (a b : Fin 16) (s : State) : Host.Outcome State Fault Refusal :=
  .next (s.alu c 1 3 fun k => outAcc d ((k.ar d).toInt - 2 * (sint (k.gr a) * sint (k.gr b))))

/-- What stops a division: an odd d (R216), or a divisor of 0 under dzt (R192). -/
def divCause (k : CoreState) (d b : Fin 16) : Option Nat :=
  if d.val % 2 = 1 then some 2 else if k.gr b = 0#24 ∧ k.sr.getLsbD 19 = true then some 4 else none

/-- A division (R192, R216): one that traps writes nothing; any other writes the quotient to gd, the remainder to g(d + 1) and its flags. -/
def State.divide (s : State) (c : CoreId) (d b : Fin 16) (f : CoreState → List Write) : State :=
  s.issueCore c 1 (divCause (s.core c) d b) fun k => k.puts 4 (f k ++ dzWrite (k.gr b))

/-- The results and flags of a division. -/
def divOut (d : Fin 16) (q r : Word) (n v : Bool) : List Write :=
  [.g d.val q, .g (d.val + 1) r, flagWrite (some n) (some (q == 0#24)) none (some v)]

/-- DIV (R190, R192, R216). -/
def execDiv (c : CoreId) (d a b : Fin 16) (s : State) : Host.Outcome State Fault Refusal :=
  .next (s.divide c d b fun k =>
    let r := divSigned (k.gr a) (k.gr b)
    divOut d r.1 r.2.1 r.1.msb r.2.2)

/-- DIVU (R190, R192, R216): N is cleared. -/
def execDivu (c : CoreId) (d a b : Fin 16) (s : State) : Host.Outcome State Fault Refusal :=
  .next (s.divide c d b fun k =>
    let r := divUnsigned (k.gr a) (k.gr b)
    divOut d r.1 r.2 false false)

/-! ## Accumulators (R217) -/

/-- ACLR (R217). -/
def execAclr (c : CoreId) (d : Fin 4) (s : State) : Host.Outcome State Fault Refusal :=
  .next (s.alu c 1 1 fun _ => [.acc d.val 0#56])

/-- AADD (R175, R217). -/
def execAadd (c : CoreId) (d a : Fin 4) (s : State) : Host.Outcome State Fault Refusal :=
  .next (s.alu c 1 1 fun k => outAcc d ((k.ar d).toInt + (k.ar a).toInt))

/-- ASUB (R175, R217). -/
def execAsub (c : CoreId) (d a : Fin 4) (s : State) : Host.Outcome State Fault Refusal :=
  .next (s.alu c 1 1 fun k => outAcc d ((k.ar d).toInt - (k.ar a).toInt))

/-- ASH (R217): a positive count shifts left. -/
def execAsh (c : CoreId) (d : Fin 4) (n : BitVec 6) (s : State) : Host.Outcome State Fault Refusal :=
  .next (s.alu c 1 1 fun k => [.acc d.val (if n.msb then (k.ar d).sshiftRight (- n.toInt).toNat else k.ar d <<< n.toNat)])

/-- MVG_L (R217). -/
def execMvgL (c : CoreId) (d : Fin 4) (a : Fin 16) (s : State) : Host.Outcome State Fault Refusal :=
  .next (s.alu c 1 1 fun k => [.acc d.val (withAccPart (k.ar d) 0 24 (k.gr a).toNat)])

/-- MVG_H (R217). -/
def execMvgH (c : CoreId) (d : Fin 4) (a : Fin 16) (s : State) : Host.Outcome State Fault Refusal :=
  .next (s.alu c 1 1 fun k => [.acc d.val (withAccPart (k.ar d) 24 24 (k.gr a).toNat)])

/-- MVG_G (R217). -/
def execMvgG (c : CoreId) (d : Fin 4) (a : Fin 16) (s : State) : Host.Outcome State Fault Refusal :=
  .next (s.alu c 1 1 fun k => [.acc d.val (withAccPart (k.ar d) 48 8 (k.gr a).toNat)])

/-- MVG_I (R217). -/
def execMvgI (c : CoreId) (d : Fin 4) (a : Fin 16) (s : State) : Host.Outcome State Fault Refusal :=
  .next (s.alu c 1 1 fun k => [.acc d.val (BitVec.ofInt 56 (sint (k.gr a)))])

/-- MVG_F (R217). -/
def execMvgF (c : CoreId) (d : Fin 4) (a : Fin 16) (s : State) : Host.Outcome State Fault Refusal :=
  .next (s.alu c 1 1 fun k => [.acc d.val (BitVec.ofInt 56 (sint (k.gr a) * 2 ^ 24))])

/-- MVA_L (R217). -/
def execMvaL (c : CoreId) (d : Fin 16) (a : Fin 4) (s : State) : Host.Outcome State Fault Refusal :=
  .next (s.alu c 1 2 fun k => [.g d.val (accPart (k.ar a) 0)])

/-- MVA_H (R217). -/
def execMvaH (c : CoreId) (d : Fin 16) (a : Fin 4) (s : State) : Host.Outcome State Fault Refusal :=
  .next (s.alu c 1 2 fun k => [.g d.val (accPart (k.ar a) 24)])

/-- MVA_G (R217): bits 55:48, zero-extended. -/
def execMvaG (c : CoreId) (d : Fin 16) (a : Fin 4) (s : State) : Host.Outcome State Fault Refusal :=
  .next (s.alu c 1 2 fun k => [.g d.val (accPart (k.ar a) 48)])

/-- MVA_R (R191). -/
def execMvaR (c : CoreId) (d : Fin 16) (a : Fin 4) (s : State) : Host.Outcome State Fault Refusal :=
  .next (s.alu c 1 2 fun k => [.g d.val (accRound (k.ar a)).1, flagWrite none none none (some (accRound (k.ar a)).2)])

/-! ## Moves and octets (R181, R218) -/

/-- MOV (R218). -/
def execMov (c : CoreId) (d a : Fin 16) (s : State) : Host.Outcome State Fault Refusal :=
  .next (s.alu c 1 1 fun k => [.g d.val (k.gr a)])

/-- NOT (R218). -/
def execNot (c : CoreId) (d a : Fin 16) (s : State) : Host.Outcome State Fault Refusal :=
  .next (s.alu c 1 1 fun k => outNz d (~~~ k.gr a))

/-- NEG (R190, R218): 0 + not ga + 1. -/
def execNeg (c : CoreId) (d a : Fin 16) (s : State) : Host.Outcome State Fault Refusal :=
  .next (s.alu c 1 1 fun k => outNzcv d (addc 0#24 (~~~ k.gr a) true))

/-- NEGS (R190, R218). -/
def execNegs (c : CoreId) (d a : Fin 16) (s : State) : Host.Outcome State Fault Refusal :=
  .next (s.alu c 1 1 fun k => outNzv d (satV (- sint (k.gr a))))

/-- ABS (R218): 0x800000 stays, with V. -/
def execAbs (c : CoreId) (d a : Fin 16) (s : State) : Host.Outcome State Fault Refusal :=
  .next (s.alu c 1 1 fun k => outNzv d (wordOfInt (sint (k.gr a)).natAbs, ! fits24 (sint (k.gr a)).natAbs))

/-- CLZ (R218). -/
def execClz (c : CoreId) (d a : Fin 16) (s : State) : Host.Outcome State Fault Refusal :=
  .next (s.alu c 1 1 fun k => outNz d (BitVec.ofNat 24 (leadZeros (k.gr a) 24)))

/-- EXO (R181, R218). -/
def execExo (c : CoreId) (d a b : Fin 16) (s : State) : Host.Outcome State Fault Refusal :=
  .next (s.alu c 1 1 fun k => [.g d.val (octetAt (k.gr a) (fieldOf (k.gr b) 0 2))])

/-- INO (R181, R218). -/
def execIno (c : CoreId) (d a b : Fin 16) (s : State) : Host.Outcome State Fault Refusal :=
  .next (s.alu c 1 1 fun k => [.g d.val (withOctet (k.gr d) (fieldOf (k.gr b) 0 2) (fieldOf (k.gr a) 0 8))])

/-! ## Immediates (R219) -/

/-- ADDI (R219). -/
def execAddi (c : CoreId) (d a : Fin 16) (i : Imm9) (s : State) : Host.Outcome State Fault Refusal :=
  .next (s.alu c (imm9Len i) 1 fun k => outNzcv d (addc (k.gr a) (imm9Signed i) false))

/-- SUBI (R219). -/
def execSubi (c : CoreId) (d a : Fin 16) (i : Imm9) (s : State) : Host.Outcome State Fault Refusal :=
  .next (s.alu c (imm9Len i) 1 fun k => outNzcv d (addc (k.gr a) (~~~ imm9Signed i) true))

/-- ANDI (R219). -/
def execAndi (c : CoreId) (d a : Fin 16) (i : Imm9) (s : State) : Host.Outcome State Fault Refusal :=
  .next (s.alu c (imm9Len i) 1 fun k => outNz d (k.gr a &&& imm9Unsigned i))

/-- ORI (R219). -/
def execOri (c : CoreId) (d a : Fin 16) (i : Imm9) (s : State) : Host.Outcome State Fault Refusal :=
  .next (s.alu c (imm9Len i) 1 fun k => outNz d (k.gr a ||| imm9Unsigned i))

/-- XORI (R219). -/
def execXori (c : CoreId) (d a : Fin 16) (i : Imm9) (s : State) : Host.Outcome State Fault Refusal :=
  .next (s.alu c (imm9Len i) 1 fun k => outNz d (k.gr a ^^^ imm9Unsigned i))

/-- EXOI (R181, R219): a k of 3 is illegal. -/
def execExoi (c : CoreId) (d a : Fin 16) (n : BitVec 2) (s : State) : Host.Outcome State Fault Refusal :=
  .next (s.issueCore c 1 (if n = 3#2 then some 2 else none) fun k => k.puts 1 [.g d.val (octetAt (k.gr a) n.toNat)])

/-- INOI (R181, R219): a k of 3 is illegal. -/
def execInoi (c : CoreId) (d a : Fin 16) (n : BitVec 2) (s : State) : Host.Outcome State Fault Refusal :=
  .next (s.issueCore c 1 (if n = 3#2 then some 2 else none) fun k =>
    k.puts 1 [.g d.val (withOctet (k.gr d) n.toNat (fieldOf (k.gr a) 0 8))])

/-- LDI (R219). -/
def execLdi (c : CoreId) (d : Fin 16) (i : Imm13) (s : State) : Host.Outcome State Fault Refusal :=
  .next (s.alu c (imm13Len i) 1 fun _ => [.g d.val (imm13Value i)])

end Sys2Proof.Machine
end

