-- ==== Sys2Proof/Machine/Boot.lean ====
section
/-! DEFINITION. Start-up (chapter 11, R279 to R298, R317, R322, R362, R363, R402, R469): the configuration memory, the image and its
records, the journal step, the boot sequence, the restart after an application reset and the safe commissioning state. -/
namespace Sys2Proof.Machine

/-! ## The configuration memory (R279 to R281) -/

/-- An octet of the configuration memory. -/
def State.norOctet (s : State) (a : Nat) : Word := WordMap.get (fun _ => 0xFF#24) s.nor a

/-- A word of the configuration memory, three octets from an address in the order of R2. -/
def State.norWord (s : State) (a : Nat) : Word :=
  BitVec.ofNat 24 ((s.norOctet a).toNat * 65536 + (s.norOctet (a + 1)).toNat * 256 + (s.norOctet (a + 2)).toNat)

/-- The 256 words of block b of a copy, 0 A and 1 B (R280). -/
def State.norBlock (s : State) (copy b : Nat) : List Word := (List.range 256).map fun i => s.norWord (copy * 0x30000 + 768 * b + 3 * i)

/-- A block passes its CRC-24 within four reads (R281); bad names those, as copy × 256 + b, of which a read disturbs all four. -/
def State.norBlockOk (s : State) (bad : List Nat) (copy b : Nat) : Bool :=
  ! bad.contains (copy * 256 + b) && decide (crc24 (s.norBlock copy b) = 0)

/-- What a use of the SPI master for the configuration memory leaves behind: its buffer holds free values, and the last transfer is
DONE (R279, R427). -/
def State.spimUsed (s : State) : State :=
  let r := s.drawWords 64
  let s1 := (List.range 64).foldl (fun t i => t.setReg (Reg.SPIM_BUF i) (r.1.getD i 0#24)) r.2
  (s1.setReg Reg.SPIM_STAT 1#24).raise 96

/-! ## The image (R283 to R290) -/

/-- The number of blocks that a payload of L words fills. -/
def payloadBlocks (l : Nat) : Nat := (l + 254) / 255

/-- The first n blocks of the payload of a copy. -/
def State.payload (s : State) (copy n : Nat) : List Word := (List.range n).flatMap fun b => (s.norBlock copy b).take 255

/-- The status of the header of a copy: the first check of R291 that fails, 0 where none does. -/
def State.headerStatus (s : State) (bad : List Nat) (copy : Nat) : Nat :=
  let h := s.norBlock copy 0
  let w := fun k => h.getD k 0#24
  let good := fieldOf (w 1) 8 16 == 0x9740 && decide (fieldOf (w 1) 0 8 ≤ Config.siliconRevision.toNat) && fieldOf (w 2) 16 8 == 1
    && fieldOf (w 2) 1 15 == 0 && (w 4).toNat == (w 5).toNat + 199 && decide ((w 4).toNat ≤ 65280)
  if ! s.norBlockOk bad copy 0 then 8
  else if w 0 ≠ 0xB9C0F5#24 then 0x40
  else if ! good then 0x41
  else if (w 3).toNat < (s.ashJ 1).toNat then 0x42
  else if (w 2).getLsbD 0 && (octetsOf ((h.drop 6).take 22)).take 64 != identityDigest then 0x43
  else 0

/-- A record of an image (R285): the payload index of its value, its tag word and its value. -/
abbrev BootRec := Nat × Word × List Word

/-- The tag of a record. -/
def recTag (r : BootRec) : Nat := fieldOf r.2.1 12 12

/-- The records of a record area that starts at payload index off, at most n of them: none where they do not fill it exactly (R285). -/
def parseRecs : Nat → Nat → List Word → Option (List BootRec)
  | _, _, [] => some []
  | 0, _, _ :: _ => none
  | n + 1, off, w :: ws =>
    let len := fieldOf w 0 12
    if ws.length < len then none
    else (parseRecs n (off + 1 + len) (ws.drop len)).map fun rs => (off + 1, w, ws.take len) :: rs

/-- The tags are in non-decreasing order (R285). -/
def tagsRise : List BootRec → Bool
  | r :: q :: rs => decide (recTag r ≤ recTag q) && tagsRise (q :: rs)
  | _ => true

/-- A tag that R286 lists; a record with any other is skipped and counted. -/
def tagListed (t : Nat) : Bool :=
  [0x000, 0x001, 0x002, 0x100, 0x200, 0x300, 0x400, 0x500, 0x600, 0x601, 0x602, 0x700, 0x800, 0x900, 0x901, 0xA00].contains t
    || t / 256 == 0xB || t / 256 == 0xC

/-- The number of the block of an address. -/
def blockNo (a : Nat) : Nat := (a - 0xF00000) / 0x1000

/-- The registers that the write list of a tag may name (R286). -/
def listNames (t a : Nat) : Bool :=
  let b := blockNo a
  match t with
  | 0x000 => [Reg.SYS_WDCTL, Reg.SYS_GATERUN, Reg.SYS_GATESLP, Reg.SYS_GATEDS, Reg.SYS_RETAIN, Reg.SYS_SUPCTL].contains a
  | 0x300 => (decide (12 ≤ b) && decide (b ≤ 17)) || a == Reg.SYS_GPSAFE0 || a == Reg.SYS_GPSAFE1
  | 0x500 => (b == 5 || b == 6) && ! [Reg.RFE_DCMD, Reg.RFE_DWS, Reg.RFE_DWE, Reg.RFE_RPCTL, Reg.RFE_RPDATA, Reg.PHY_PROPOSE].contains a
      && ! within a (Reg.RFE_PAT0 0) 41 && ! within a (Reg.RFE_PAT1 0) 41 && ! within a (Reg.PHY_PTAB 0) 3
  | 0x601 => b == 2 && a != Reg.TB_RATE && a != Reg.TB_PHADJ && ! within a Reg.TB_ARMSET 6 && ! within a (Reg.TB_SCMP 0) 64
      && ! within a (Reg.TB_ACMP_0 0) 32 && ! (within a (Reg.TB_CAP_0 0) 64 && decide ((a - Reg.TB_CAP_0 0) % 8 < 3))
  | 0x700 => b == 8 && ! [Reg.HOP_ALLOC, Reg.HOP_ALLOCC, Reg.HOP_RELEASE, Reg.HOP_ENQ, Reg.HOP_QCMD].contains a
      && ! within a (Reg.HOP_DQ 0) 4
  | 0x900 => b == 10
  | 0xA00 => b == 11
  | _ => false

/-- A register of access code RW, RWO or LK (R287). -/
def listWritable (a : Nat) : Bool :=
  match regRow a with
  | some r => r.rw != 0
  | none => false

/-- A write list is valid (R287). -/
def writeListOk (t : Nat) : List Word → Bool
  | [] => true
  | [_] => false
  | a :: _ :: ws => isPeriph a.toNat && listNames t a.toNat && listWritable a.toNat && writeListOk t ws

/-- A CLOCKS value is valid (R257, R290). -/
def clocksOk (v : Word) : Bool :=
  let c := fieldOf v 18 2
  v.getLsbD 23 && v.getLsbD 21 && v.getLsbD 20 && c != 3 && ! (c == 2 && fieldOf v 16 2 == 0 && ! v.getLsbD 15)

/-- A record passes its own rule (R286 to R290). -/
def recOk (r : BootRec) : Bool :=
  let vs := r.2.2
  let v := vs.headD 0#24
  match recTag r with
  | 0x001 => vs.length == 1 && decide (v.toNat < 0x100000)
  | 0x002 => vs.length == 1 && (decide (v.toNat < 0x100000) || isSram v.toNat)
  | 0x100 => vs.length == 1 && clocksOk v
  | 0x200 => vs.length == 1 && decide (v.toNat < 2)
  | 0x400 => decide (1 ≤ vs.length) && decide (vs.length ≤ 8) &&
      vs.all fun w => decide (1 ≤ fieldOf w 0 12) && decide (fieldOf w 12 12 + fieldOf w 0 12 ≤ 512)
  | 0x600 => decide (1 ≤ vs.length) && decide (v.toNat < 16384) && decide (v.toNat + vs.length ≤ 16384)
  | 0x602 | 0x800 | 0x901 => true
  | t => ! tagListed t || t / 256 == 0xB || t / 256 == 0xC || writeListOk t vs

/-- The records of a record area that pass every check of R291; none where one fails. -/
def checkedRecs (area : List Word) : Option (List BootRec) :=
  match parseRecs 120 28 area with
  | none => none
  | some rs => if tagsRise rs && rs.all recOk && rs.any (fun r => recTag r == 0x001) then some rs else none

/-! ## The mailbox as the ROM and the firmware's services use it (R327 to R333) -/

/-- A command is run through the mailbox, which the master holds: its final status, its response, and the state with the response in the
mailbox. -/
def State.ashCall (s : State) (m : Master) (code : Nat) (ws : List Word) : (Nat × List Word) × State :=
  let s1 := s.mapAsh fun a => { a with holder := some m }
  let s2 := (List.range (min 512 ws.length)).foldl (fun t i => t.setReg (Reg.ASH_REQ i) (ws.getD i 0#24)) s1
  let s3 := (s2.wrAshCmd m (BitVec.ofNat 24 (code * 65536 + min 512 ws.length))).ashCommit
  match s3.ash.run with
  | none => ((7, []), s3)
  | some r => (r.out.getD (7, []), s3.respond (r.out.getD (7, [])))

/-- HASH_DATA over a message, 512 words at a time. -/
def State.ashHash (s : State) (m : Master) : Nat → List Word → State
  | 0, _ => s
  | n + 1, ws => if ws.isEmpty then s else State.ashHash (s.ashCall m 0x11 (ws.take 512)).2 m n (ws.drop 512)

/-- HASH_START, HASH_DATA over a message and a command that verifies a signature of 171 words over it, with the claim released at the
end: the status of the last. -/
def State.ashVerify (s : State) (m : Master) (code : Nat) (msg sig : List Word) : Nat × State :=
  let s1 := (s.ashCall m 0x10 []).2.ashHash m (msg.length / 512 + 1) msg
  let r := s1.ashCall m code sig
  (r.1.1, r.2.freeMailbox)

/-- One command with its claim released at the end. -/
def State.ashOnce (s : State) (m : Master) (code : Nat) (ws : List Word) : (Nat × List Word) × State :=
  let r := s.ashCall m code ws
  (r.1, r.2.freeMailbox)

/-! ## The journal step (R317, R361, R362) -/

/-- The ROM writes journal words through the controller (R319). -/
def State.romJournal (s : State) (off : Nat) (ws : List Word) : State :=
  (s.journalPut { master := .a0, op := 1, off := off, words := ws } ws.length).journalEnd .a0 1

/-- A0 erases a sector (R305, R307, R313): the ticket, the erase and its end with DONE; without a CLOSED ticket nothing is done. -/
def State.romErase (s : State) (sector : Nat) : State :=
  if s.freeTicket.isNone then s.nvmEnd 0x43 1
  else
    let s1 := (s.setReg Reg.NVM_ADDR (BitVec.ofNat 24 (sector * 2048))).nvmRun 2 (sector * 2048) 1 false
    match s1.nvm.er with
    | some e => s1.eraseDone e
    | none => s1

/-- The ROM programs the rows of a sector from those of another sector (R306, R362). -/
def State.romCopyRows (s : State) (src dst : Nat) : State :=
  (List.range 32).foldl (fun t i =>
    let t1 := (t.touchBank (dst / 512)).programRow (dst * 2048 + 64 * i) (t.memWords (src * 2048 + 64 * i) 64)
    t1.nvmEnd 1 1) s

/-- The state of the copy journal (R361). -/
def State.copyState (s : State) : Nat := fieldOf (s.mem1 0x280200) 20 4

/-- The copy journal takes a state and a status: the commit word (R361). -/
def State.setCopyState (s : State) (st status : Nat) : State := s.romJournal 0x200 [BitVec.ofNat 24 (st * 2 ^ 20 + status)]

/-- The last r of n sectors are copied, the highest first (R362): false where one fails twice. verify names the sectors of bank A of
which an operation ends with VERIFY both times, retried those of which a program does so once. -/
def State.copySectors (verify retried : List Nat) (n : Nat) : Nat → State → Bool × State
  | 0, s => (true, s)
  | r + 1, s =>
    if s.freeTicket.isNone then (false, s)
    else if verify.contains r then (false, ((s.romErase r).scrapSector r).nvmEnd 0x42 1)
    else
      let s1 := if retried.contains r then s.romErase r else s
      let s2 := (s1.romErase r).romCopyRows (512 + r) r
      State.copySectors verify retried n r (s2.romJournal 0x202 [BitVec.ofNat 24 (n - r)])

/-- The copy of R362: what the ROM does in each state of the copy journal. -/
def State.copyStep (s : State) (verify retried : List Nat) : State :=
  let s1 := if s.copyState = 2 then (s.romJournal 0x202 [0#24]).setCopyState 3 0 else s
  if s1.copyState ≠ 3 then s1
  else
    let n := min 512 (s1.mem1 0x280201).toNat
    let r := s1.copySectors verify retried n (n - (s1.mem1 0x280202).toNat)
    if ! r.1 then r.2.setCopyState 5 0x48
    else
      let v := r.2.ashOnce .a0 0x13 [0#24]
      if v.1.1 = 0 ∧ v.1.2.take 22 = v.2.memWords 0x280207 22 then v.2.setCopyState 4 1 else v.2.setCopyState 5 0x46

/-- A ticket for a sector outside both banks is closed and logged (R317). -/
def State.closeStray (s : State) (t : Nat) : State :=
  if s.ticketState t ≠ 0 ∧ fieldOf (s.ticket0 t) 10 12 ≠ 0 then
    (s.setTicket t 0 (fieldOf (s.ticket0 t) 0 10)).logRequest 0x23 4 (s.ticket0 t) (s.mem1 (0x280041 + 2 * t))
  else s

/-- The journal step (R317): HALF sectors of bank B are erased again, a copy is carried out, and HALF sectors left in bank A are
reported. -/
def State.journalStep (s : State) (verify retried : List Nat) : State :=
  let s1 := (List.range 64).foldl State.closeStray s
  let s2 := (List.range 512).foldl (fun t i => if t.isHalf (512 + i) then t.romErase (512 + i) else t) s1
  let s3 := s2.copyStep verify retried
  if (List.range 512).any s3.isHalf then (s3.setBit Reg.SYS_BOOTSTAT 9 true).raise 79 else s3

/-! ## Clocks (R290, R297) -/

/-- The clocks are brought up by a value laid out as SYS_CLKCTL (R290): refUp tells whether refok sets within 2 ms, pllUp whether both
PLLs lock within 200 µs. -/
def State.bringUp (s : State) (v : Word) (refUp pllUp : Bool) : Bool × State :=
  let s1 := s.setReg Reg.SYS_CLKCTL (v &&& 0xC00000#24)
  if ! refUp then (false, s1)
  else
    let s2 := (s1.setBit Reg.SYS_CLKSTAT 23 true).setReg Reg.SYS_CLKCTL (v &&& 0xF00000#24)
    if ! pllUp then (false, s2)
    else
      let s3 := ((s2.setBit Reg.SYS_CLKSTAT 22 true).setBit Reg.SYS_CLKSTAT 21 true).setReg Reg.SYS_CLKCTL (v &&& 0xFFC000#24)
      (true, { s3.takeSource (fieldOf v 18 2) with sys := { (s3.takeSource (fieldOf v 18 2)).sys with divs := fieldOf v 14 4 } })

/-- A CLOCKS value with the reference it selects: crystal, or TCXO where tcxo is 1. -/
def State.bringUpSel (s : State) (v : Word) (xtal tcxo pll : Bool) : Bool × State :=
  s.bringUp v (if v.getLsbD 22 then tcxo else xtal) pll

/-- The clocks of the safe commissioning state (R297): the crystal, then a TCXO; where neither starts, the RC. -/
def State.safeClocks (s : State) (xtal tcxo pll : Bool) : Bool × State :=
  if xtal then s.bringUp 0xB88000#24 true pll
  else if tcxo then s.bringUp 0xF88000#24 true pll
  else (false, (s.setReg Reg.SYS_CLKCTL 0#24).dropSources)

/-- PCLK in Hz (R255, R256). -/
def State.pclkHz (s : State) : Nat :=
  let src := match s.cur with
    | 0 => 16000000
    | 1 => 40000000
    | _ => 400000000 / 2 ^ (s.sys.divs / 4 % 4 + 1)
  src / (if s.sys.divs / 2 % 2 = 1 then 2 else 1) / (if s.sys.divs % 2 = 1 then 4 else 2)

/-- The host link of the safe commissioning state (R297, R421): a UART at 115,200 baud, unless the link is enabled already. -/
def State.safeLink (s : State) : State :=
  if s.bit Reg.HL_CTL 23 then s
  else (s.setReg Reg.HL_CTL 0x800000#24).setReg Reg.HL_BAUD (BitVec.ofNat 24 ((s.pclkHz + 28800) / 57600 % 65536))

/-! ## Records applied (R287 to R292) -/

/-- The pairs of a write list are written in order (R287). -/
def State.applyList (s : State) : List Word → State
  | a :: v :: ws => State.applyList (s.busWrite .a0 a.toNat v).2 ws
  | _ => s

/-- Words are loaded through the link-RAM loader from an offset (R288). -/
def State.loadLink (s : State) (off : Nat) (ws : List Word) : State :=
  ws.foldl State.wrLklddat (s.setFld Reg.SYS_LKLDADR 0 14 off)

/-- A SEC record is passed to the Ashlar (R292): a refusal is recorded and the boot goes on. -/
def State.applySecRec (s : State) (vs : List Word) : State :=
  let r := if 512 < vs.length then ((7, []), s) else s.ashOnce .a0 0x15 vs
  if r.1.1 = 0 then r.2 else (r.2.setBit Reg.SYS_BOOTSTAT 10 true).logRequest 0x25 4 (BitVec.ofNat 24 r.1.1) 0#24

/-- A record other than CLOCKS is applied (R286 to R289, R292, R299). -/
def State.applyRec (s : State) (r : BootRec) : State :=
  let vs := r.2.2
  let v := vs.headD 0#24
  match recTag r with
  | 0x001 => s.setReg Reg.SYS_A0ENT v
  | 0x002 => s.setReg Reg.SYS_A1ENT v
  | 0x200 => if v.getLsbD 0 then s.selectGen1 else s
  | 0x400 => (List.range 8).foldl (fun t i => if i < vs.length then t.setReg (Reg.NVM_XO i) (vs.getD i 0#24) else t) s
  | 0x600 => s.loadLink v.toNat (vs.drop 1)
  | 0x602 | 0x901 => s
  | 0x800 => s.applySecRec vs
  | t => if tagListed t && decide (t < 0xB00) then s.applyList vs else s

/-- Records are applied in order (R292): false where the clocks of a CLOCKS record do not come up (R290). -/
def State.applyRecs (s : State) (xtal tcxo pll : Bool) : List BootRec → Bool × State
  | [] => (true, s)
  | r :: rs =>
    if recTag r = 0x100 then
      let b := s.bringUpSel (r.2.2.headD 0#24) xtal tcxo pll
      if b.1 then State.applyRecs b.2 xtal tcxo pll rs else b
    else State.applyRecs (s.applyRec r) xtal tcxo pll rs

/-- The records with the CLOCKS record that the ROM applies where the image has none (R290). -/
def withClocks (rs : List BootRec) : List BootRec :=
  if rs.any fun r => recTag r == 0x100 then rs
  else rs.filter (fun r => decide (recTag r < 0x100)) ++ (0, 0x100001#24, [0xB88000#24]) :: rs.filter fun r => decide (0x100 ≤ recTag r)

/-! ## The bank A check (R363) -/

/-- The sectors that the image of bank A covers. -/
def State.imageSectors (s : State) : Nat := min 512 ((256 + s.bodyLen 0 + 2047) / 2048)

/-- The bank A check: whether it passes, and the state that the check leaves. -/
def State.bankACheck (s : State) : Bool × State :=
  let h := s.header 0
  let r := s.ashOnce .a0 0x13 [0#24]
  (h.getD 0 0#24 == 0xB9F1A5#24 && headerOk h (some (s.reg Reg.SYS_A0ENT)) && ! s.xoSector 0 && r.1.1 == 0
    && (List.range s.imageSectors).all (fun i => ! s.isHalf i), r.2)

/-- The LK section for bank 0 is loaded (R363): whether the header names one, and the state that holds it. -/
def State.loadSection (s : State) : Bool × State :=
  let n := (s.hdrWord 0 7).toNat
  if n = 0 then (false, s) else (true, s.loadLink 0 (s.memWords (0x100 + (s.hdrWord 0 6).toNat) n))

/-! ## What the ROM leaves (R294, R295, R443) -/

/-- The entry that the ROM writes to the log at every start (R443), with SYS_BOOTSTAT as it stands once the lock is set. -/
def State.logStart (s : State) (causes : Word) : State := s.logRequest 0x02 4 causes (s.reg Reg.SYS_BOOTSTAT)

/-- A0 leaves the ROM at an address: the registers that the ROM's code has used hold free values. -/
def State.romLeaves (s : State) (pc : Word) : State :=
  let r := s.drawWords 30
  let w := fun k => r.1.getD k 0#24
  let k := r.2.a0
  { r.2 with a0 := { k with
      pc := pc, issued := true
      g := 0#24 :: (List.range 15).map w
      acc := (List.range 4).map fun i => BitVec.ofNat 56 ((w (15 + 3 * i)).toNat + (w (16 + 3 * i)).toNat * 2 ^ 24 + (w (17 + 3 * i)).toNat * 2 ^ 48)
      sr := w 27 &&& 0x0000CF#24, cyc := w 28, tickCyc := w 28, crc := w 29 } }

/-- The boot information block (R294). -/
def State.bootInfo (s : State) (causes seq : Word) (stA stB l : Nat) (rs : List BootRec) : State :=
  let skipped := (rs.filter fun r => ! tagListed (recTag r)).length
  let head : List Word :=
    [s.reg Reg.SYS_BOOTSTAT, causes, seq, BitVec.ofNat 24 (stA * 65536 + stB * 256 + skipped), 0x270000#24, BitVec.ofNat 24 l,
      BitVec.ofNat 24 rs.length] ++ List.replicate 9 0#24
  s.storeRams 0x200000 (head ++ rs.flatMap fun r => [r.2.1, BitVec.ofNat 24 (0x270000 + r.1)])

/-! ## The safe commissioning state (R297) -/

/-- The safe commissioning state begins with a status: its bits of SYS_BOOTSTAT, the bus held low and the host link. -/
def State.safeBegin (s : State) (status : Nat) : State :=
  let s1 := (s.setFld Reg.SYS_BOOTSTAT 16 8 status).setBit Reg.SYS_BOOTSTAT 15 true
  (s1.wrDaliCtl (s1.reg Reg.DALI_CTL ||| 0x900000#24)).safeLink

/-- A0 stays in the ROM, which serves the host link. -/
def State.romStays (s : State) : State := { s with a0 := { s.a0 with issued := true } }

/-- The safe commissioning state after a power or system reset: clocks where no CLOCKS record brought them up, the boot information, the
listener program where the profile is valid and the clocks run, the lock, and LK. -/
def State.safeState (s : State) (causes : Word) (status stA stB l : Nat) (rs : List BootRec) (clocked xtal tcxo pll : Bool) : State :=
  let c := if clocked then (true, s) else s.safeClocks xtal tcxo pll
  let listen := c.1 && s.profileValid
  let s1 := c.2.safeBegin status
  let s2 := if listen then s1.loadLink 0 (Config.listenerProgram.take 16384) else s1
  let s3 := ((s2.bootInfo causes 0#24 stA stB l rs).setBit Reg.SYS_BOOTSTAT 11 true).logStart causes
  (if listen then s3.wrCorectl 1#24 else s3).romStays

/-! ## The boot sequence (R291 to R295) -/

/-- A copy whose header has passed is tried (R291): its blocks are read into SRAM up to one that fails, then the owner, the signature
and the records are checked. The status, the records and the state. -/
def State.tryCopy (s : State) (bad : List Nat) (copy : Nat) : Nat × List BootRec × State :=
  let l := (s.norWord (copy * 0x30000 + 12)).toNat
  let w := l - 199
  let n := payloadBlocks l
  let okN := ((List.range n).takeWhile fun b => s.norBlockOk bad copy b).length
  let ws := (s.payload copy n).take l
  let s1 := s.storeRams 0x270000 (ws.take (255 * okN))
  if okN < n then (8, [], s1)
  else if s.ash.owner.isNone then (0x44, [], s1)
  else
    let r := s1.ashVerify .a0 0x12 (ws.take (28 + w)) ((ws.drop (28 + w)).take 171)
    if r.1 ≠ 0 then (9, [], r.2)
    else
      match checkedRecs ((ws.drop 28).take w) with
      | none => (7, [], r.2)
      | some rs => (0, rs, r.2)

/-- The sequence number and the payload length of a copy. -/
def State.copySeq (s : State) (copy : Nat) : Word := s.norWord (copy * 0x30000 + 9)

/-- The copies to try, in order (R291): those whose header passes, the higher sequence number first and A on a tie. -/
def State.copyOrder (s : State) (stA stB : Nat) : List Nat :=
  if stA = 0 ∧ stB = 0 then (if (s.copySeq 0).toNat < (s.copySeq 1).toNat then [1, 0] else [0, 1])
  else if stA = 0 then [0]
  else if stB = 0 then [1]
  else []

/-- Copies are tried in order until one passes (R291): the copy with its records, or none; the statuses of both; and the status of the
last copy tried. -/
def State.tryCopies (s : State) (bad : List Nat) (stA stB last : Nat) : List Nat → Option (Nat × List BootRec) × Nat × Nat × Nat × State
  | [] => (none, stA, stB, last, s)
  | c :: cs =>
    let r := s.tryCopy bad c
    if r.1 = 0 then (some (c, r.2.1), stA, stB, 0, r.2.2)
    else State.tryCopies r.2.2 bad (if c = 0 then r.1 else stA) (if c = 1 then r.1 else stB) r.1 cs

/-- The PA table is loaded from the calibration set, or from the ROM's own table where the set fails its check (R322). -/
def State.loadPaTable (s : State) : State :=
  let put := fun (t : State) (ws : List Word) =>
    (List.range 41).foldl (fun t i => (t.setReg (Reg.RFE_PAT0 i) (ws.getD i 0#24 &&& BitVec.ofNat 24 ((regRow (Reg.RFE_PAT0 i)).elim 0 (·.rw)))).setReg
      (Reg.RFE_PAT1 i) (ws.getD (41 + i) 0#24 &&& BitVec.ofNat 24 ((regRow (Reg.RFE_PAT1 i)).elim 0 (·.rw)))) t
  if crc24 (s.memWords 0x280101 254) = (s.mem1 0x2801FF).toNat then put s (s.memWords 0x280101 82)
  else
    let r := s.drawWords 82
    ((put r.2 r.1).setBit Reg.NVM_STAT 15 true).logRequest 0x22 4 0#24 0#24

/-- A loss of the RTC domain is logged once (R402). -/
def State.logRtcLoss (s : State) : State :=
  if s.bit Reg.RTC_STAT 22 && ! s.bit Reg.RTC_STAT 21 then
    (s.logRequest 0x24 4 (s.reg Reg.RTC_SWCNT) 0#24).setBit Reg.RTC_STAT 21 true
  else s

/-- The boot completes (R293 to R295): the floor, the boot information, the lock, LK and A1 released, and A0 at SYS_A0ENT. -/
def State.bootDone (s : State) (causes : Word) (copy stA stB : Nat) (rs : List BootRec) (lkLoaded : Bool) : State :=
  let seq := s.copySeq copy
  let s1 := (s.ashOnce .a0 0x14 [seq]).2
  let s2 := s1.bootInfo causes seq stA stB (s.norWord (copy * 0x30000 + 12)).toNat rs
  let s3 := (s2.setBit Reg.SYS_BOOTSTAT 11 true).logStart causes
  let s4 := if lkLoaded then s3.wrCorectl 1#24 else s3
  let s5 := if rs.any fun r => recTag r == 0x002 then s4.wrCorectl 2#24 else s4
  s5.romLeaves (s5.reg Reg.SYS_A0ENT)

/-- The part of the boot that follows the choice of a copy. -/
def State.bootApply (s : State) (causes : Word) (copy stA stB : Nat) (rs : List BootRec) (xtal tcxo pll : Bool) : State :=
  let l := (s.norWord (copy * 0x30000 + 12)).toNat
  let a := (s.setBit Reg.SYS_BOOTSTAT 14 (copy == 1)).applyRecs xtal tcxo pll (withClocks rs)
  if ! a.1 then a.2.safeState causes 0x45 stA stB l rs false xtal tcxo pll
  else
    let b := a.2.bankACheck
    if ! b.1 then b.2.safeState causes 0x46 stA stB l rs true xtal tcxo pll
    else
      let c := b.2.loadSection
      c.2.bootDone causes copy stA stB rs (c.1 || rs.any fun r => recTag r == 0x600)

/-- A0 stands at the start of the ROM and the ROM's code can run: no reset is in progress, and nothing that it waits for is held. -/
def State.romRuns (s : State) : Bool :=
  s.sys.inReset.isNone && s.sys.power == .on && s.a0.run == .run && ! s.a0.noClock && ! s.a0.dbgHalt && ! s.a0.issued
    && s.a0.pc == 0xE00000#24 && (s.ash.holder.isNone || s.ash.holder == some .a0) && s.nvm.prog.isNone && s.nvm.er.isNone

/-- The whole boot of R295. -/
def State.boot (s : State) (bad verify retried : List Nat) (xtal tcxo pll : Bool) : State :=
  let causes := s.reg Reg.SYS_RSTCAUSE
  let s1 := ((((s.journalStep verify retried).logRtcLoss).loadPaTable).setReg Reg.SPIM_CTL 0x800000#24).spimUsed
  let stA := s1.headerStatus bad 0
  let stB := s1.headerStatus bad 1
  match s1.tryCopies bad stA stB stB (s1.copyOrder stA stB) with
  | (some (c, rs), a, b, _, s2) => s2.bootApply causes c a b rs xtal tcxo pll
  | (none, a, b, last, s2) => s2.safeState causes last a b 0 [] false xtal tcxo pll

/-- BOOT_SEQUENCE (R295, R297): bad names the blocks of the configuration memory of which all four reads fail, verify and retried the
sectors of bank A that R362 tries twice; xtal, tcxo and pll tell which clocks come up. -/
def execBootSequence (bad verify retried : List Nat) (xtal tcxo pll : Bool) (s : State) : Host.Outcome State Fault Refusal :=
  if s.romRuns && ! s.locked then .next (s.boot bad verify retried xtal tcxo pll) else .next s

/-- The restart after an application reset (R296): the bank A check decides. -/
def State.restart (s : State) (verify retried : List Nat) : State :=
  let causes := s.reg Reg.SYS_RSTCAUSE
  let s1 := (s.journalStep verify retried).logRtcLoss
  let b := s1.bankACheck
  if b.1 then
    let s2 := if s.reg Reg.SYS_A1ENT = 0#24 then b.2 else b.2.wrCorectl 2#24
    let s3 := (s2.storeRams 0x200000 [s2.reg Reg.SYS_BOOTSTAT, causes]).logStart causes
    s3.romLeaves (s3.reg Reg.SYS_A0ENT)
  else
    let s2 := b.2.safeBegin 0x46
    ((s2.storeRams 0x200000 [s2.reg Reg.SYS_BOOTSTAT, causes]).logStart causes).romStays

/-- APPLICATION_RESTART (R296): in the safe commissioning state, which only a wider reset ends, the ROM goes on serving the host link. -/
def execApplicationRestart (verify retried : List Nat) (s : State) : Host.Outcome State Fault Refusal :=
  if s.romRuns && s.locked then
    .next (if s.bit Reg.SYS_BOOTSTAT 15 then s.romStays else s.restart verify retried)
  else .next s

/-! ## Commands on single registers -/

/-- LINK_RAM_LOAD (R288): a write of SYS_LKLDDAT. -/
def execLinkRamLoad (v : Word) (s : State) : Host.Outcome State Fault Refusal := .next (s.onBus (·.wrLklddat v))

/-- A1_RELEASE (R469): a write of SYS_CORECTL. -/
def execA1Release (v : Word) (s : State) : Host.Outcome State Fault Refusal := .next (s.onBus (·.wrCorectl v))

/-- LK_RELEASE (R469): a write of SYS_CORECTL. -/
def execLkRelease (v : Word) (s : State) : Host.Outcome State Fault Refusal := .next (s.onBus (·.wrCorectl v))

end Sys2Proof.Machine
end

