-- ==== Sys2Proof/Machine/Control.lean ====
section
/-! DEFINITION. Branches, calls, the return from exception and the repeat prefix (R186 to R189, R196, R221, R222), the system
instructions (R202 to R204, R223), and interrupt entry (R194, R195). -/
namespace Sys2Proof.Machine

/-! ## Branches (R186, R221, R222) -/

/-- The address after an instruction of len words and its two delay slots. -/
def CoreState.afterSlots (k : CoreState) (len : Nat) (sl : Slots) : Word := nextAddr k.pc (len + slotsLen sl)

/-- A branch at pc to a target, whose two slots follow; the third place is the branch's own. -/
def CoreState.branchTo (k : CoreState) (target : Word) (reti : Option RetiRestore) : CoreState :=
  { k with branch := some { target := target, left := 3, src := k.pc, reti := reti } }

/-- BRANCH (R221, R222): the flags are read as it issues; one not taken goes on after its slots. -/
def execBranch (c : CoreId) (cond : BitVec 4) (t : Target) (slots : Slots) (s : State) : Host.Outcome State Fault Refusal :=
  let own := (s.core c).pairCause slots.bad (if cond = 15#4 then some 2 else none)
  .next (s.issueCore c (targetLen t) own fun k =>
    k.branchTo (if condHolds cond.toNat k.sr then targetOf k.pc t else k.afterSlots (targetLen t) slots) none)

/-- CALL (R222). -/
def execCall (c : CoreId) (t : Target) (slots : Slots) (s : State) : Host.Outcome State Fault Refusal :=
  .next (s.issueCore c (targetLen t) ((s.core c).pairCause slots.bad none) fun k =>
    (k.putG 1 15 (k.afterSlots (targetLen t) slots)).branchTo (targetOf k.pc t) none)

/-- JR (R222): the target is read as it issues. -/
def execJr (c : CoreId) (a : Fin 16) (slots : Slots) (s : State) : Host.Outcome State Fault Refusal :=
  .next (s.issueCore c 1 ((s.core c).pairCause slots.bad none) fun k => k.branchTo (k.gr a) none)

/-- CALR (R222). -/
def execCalr (c : CoreId) (a : Fin 16) (slots : Slots) (s : State) : Host.Outcome State Fault Refusal :=
  .next (s.issueCore c 1 ((s.core c).pairCause slots.bad none) fun k =>
    (k.putG 1 15 (k.afterSlots 1 slots)).branchTo (k.gr a) none)

/-- RETI (R196): what it restores is read as it issues, and restored after its second slot. -/
def execReti (c : CoreId) (slots : Slots) (s : State) : Host.Outcome State Fault Refusal :=
  .next (s.issueCore c 1 ((s.core c).pairCause slots.bad none) fun k =>
    k.branchTo k.epc (some { epc := k.epc, esr := k.esr, elc := k.elc, ebt := k.ebt }))

/-- RPT (R187 to R189): x tells that the repeated instruction has an extension word, bad that it may not be repeated. A count of 0
passes over it, and lc is 0. -/
def execRpt (c : CoreId) (n : RptCount) (x bad : Bool) (s : State) : Host.Outcome State Fault Refusal :=
  let own := (s.core c).pairCause bad none
  let cnt := rptCountOf (s.core c) n
  if cnt = 0 then .next (s.attempt c 1 own 0 fun s => (s.setCore c ((s.core c).put 1 (.special 2 0#24))).finish c (2 + b2n x))
  else .next (s.issueCore c 1 own fun k =>
    { k with pc := k.pc + 1#24, rptPc := some k.pc, rptFresh := true, rptLeft := cnt, lc := BitVec.ofNat 24 cnt, sr := withBit k.sr 22 true })

/-! ## System instructions (R223) -/

/-- NOP (R223). -/
def execNop (c : CoreId) (s : State) : Host.Outcome State Fault Refusal := .next (s.alu c 1 1 fun _ => [])

/-- MFS (R177, R223). -/
def execMfs (c : CoreId) (d : Fin 16) (sp : BitVec 5) (s : State) : Host.Outcome State Fault Refusal :=
  .next (s.issueCore c 1 (if 14 ≤ sp.toNat then some 2 else none) fun k => k.putG 1 d (k.special c sp.toNat))

/-- A special register that `mts` may not write (R177). -/
def mtsIllegal (n : Nat) : Bool := n == 0 || n == 12 || n == 13 || decide (14 ≤ n)

/-- MTS (R177, R188, R223): lc may not be written under a prefix. -/
def execMts (c : CoreId) (sp : BitVec 5) (a : Fin 16) (s : State) : Host.Outcome State Fault Refusal :=
  let own := if mtsIllegal sp.toNat then some 2 else if sp.toNat = 2 ∧ (s.core c).rptPc.isSome = true then some 3 else none
  .next (s.issueCore c 1 own fun k => k.put 4 (.special sp.toNat (k.gr a)))

/-- TRAP (R197, R223). -/
def execTrap (c : CoreId) (n : BitVec 8) (s : State) : Host.Outcome State Fault Refusal :=
  .next (s.attempt c 1 ((s.core c).pairCause false (some 7)) n.toNat id)

/-- BRK (R223, R436): it halts its core at the `brk` while a probe is attached, and raises BRK otherwise. -/
def execBrk (c : CoreId) (s : State) : Host.Outcome State Fault Refusal :=
  let probe := s.dbg.att && c != .ash
  .next (s.attempt c 1 (if probe then none else some 8) 0 fun _ =>
    let s1 := s.drain c
    s1.setCore c { s1.core c with dbgHalt := true })

/-- WFI (R202): writes in flight land; it continues at once where a source routed to the core is pending, and else waits. -/
def execWfi (c : CoreId) (s : State) : Host.Outcome State Fault Refusal :=
  .next (s.attempt c 1 ((s.core c).pairCause false none) 0 fun s =>
    let s1 := (s.finish c 1).drain c
    if s1.pendingTo c then s1 else s1.setCore c { s1.core c with run := .wfi })

/-- A1 waits in the boot ROM for want of an entry, and returns to that wait after any interrupt (R469). -/
def State.parked (s : State) (c : CoreId) : Bool := c == .a1 && s.a1.pc == 0xE00000#24 && s.reg Reg.SYS_A1ENT == 0#24

/-- WFI_WAKE (R202, R253). -/
def execWfiWake (c : CoreId) (s : State) : Host.Outcome State Fault Refusal :=
  if s.running c && (s.core c).run == .wfi && s.wakesCore c && ! s.parked c then .next (s.setCore c { s.core c with run := .run }) else .next s

/-- A `wst` ends (R203): the newest wait. -/
def State.wstEnd (s : State) (c : CoreId) : State :=
  (s.setCore c { s.core c with run := .run, waits := (s.core c).waits.tail }).finish c 1

/-- The newest wait is in the handlers' absence, of the `wst` that issues or waits at pc (R203). -/
def CoreState.resumed (k : CoreState) : Option TickWait := k.waits.head?.filter fun w => w.depth == 0 && w.addr == k.pc

/-- A new wait begins at pc; one that was left without a return has ended. -/
def CoreState.newWait (k : CoreState) : CoreState :=
  { k with run := .wst, waits := { addr := k.pc } :: k.waits.dropWhile (·.depth == 0) }

/-- WST (R203): writes in flight stay in flight while it waits (R182). One that is resumed after an interrupt ends at once where a slot tick
has come since it first issued. -/
def execWst (c : CoreId) (s : State) : Host.Outcome State Fault Refusal :=
  .next (s.attempt c 1 ((s.core c).pairCause false none) 0 fun s =>
    match (s.core c).resumed with
    | some w => if w.seen then s.wstEnd c else s.setCore c { s.core c with run := .wst }
    | none => s.setCore c (s.core c).newWait)

/-- WST_RESUME (R203): the slot tick has reached the core. -/
def execWstResume (c : CoreId) (s : State) : Host.Outcome State Fault Refusal :=
  if s.running c && (s.core c).run == .wst && ((s.core c).resumed.any (·.seen)) then .next (s.wstEnd c) else .next s

/-- The oldest uncollected CP3 operation has ended, or none is uncollected. -/
def cp3Ended (k : CoreState) : Bool :=
  match k.cp3 with
  | [] => true
  | o :: _ => match o.st with
    | .waiting => false
    | .sent => false
    | _ => true

/-- A `cpwait` collects (R204, R231 to R233): the result, or CPFAULT with its cause; with nothing uncollected a discarded operation
faults with QFULL. -/
def State.collect (s : State) (c : CoreId) : State :=
  let k := s.core c
  match k.cp3 with
  | [] =>
    if k.disc = 0 then s.finish c 1
    else (s.setCore c { k with disc := k.disc - 1, cp3cause := 4 }).exception c 9 0
  | o :: rest =>
    match o.st with
    | .result w => (s.setCore c ({ k with cp3 := rest }.put 1 (.g o.rd w))).finish c 1
    | .failed cause => (s.setCore c { k with cp3 := rest, cp3cause := cause }).exception c 9 0
    | _ => s

/-- CPWAIT (R204): it stalls while the oldest operation has not ended; writes in flight stay in flight (R182). -/
def execCpwait (c : CoreId) (s : State) : Host.Outcome State Fault Refusal :=
  .next (s.attempt c 1 ((s.core c).pairCause false none) 0 fun s =>
    if cp3Ended (s.core c) then s.collect c
    else s.setCore c { s.core c with run := .cpwait })

/-- CPWAIT_COLLECT (R231): the stalled `cpwait` completes or faults. -/
def execCpwaitCollect (c : CoreId) (s : State) : Host.Outcome State Fault Refusal :=
  if s.running c && (s.core c).run == .cpwait && cp3Ended (s.core c) then
    .next ((s.setCore c { s.core c with run := .run }).collect c)
  else .next s

/-! ## Interrupts and imprecise faults (R194, R195, R199, R244) -/

/-- The core accepts an interrupt: it runs or waits in `wst` or `cpwait`, unmasked, outside a handler, and not between a prefix and its
first iteration (R189, R194). -/
def State.canAccept (s : State) (c : CoreId) : Bool :=
  let k := s.core c
  s.running c && (k.run == .run || k.run == .wst || k.run == .cpwait) && k.accepted.isNone && k.fault.isNone
    && k.ie.getLsbD 0 && ! k.sr.getLsbD 23 && ! k.rptFresh && ! s.haltAsked c && ! (c != .ash && s.dbg.step.getLsbD c.cid)

/-- INTERRUPT_ACCEPT (R194, R244): the presented source is accepted; the wait of a `wst` or `cpwait` ends there. -/
def execInterruptAccept (c : CoreId) (s : State) : Host.Outcome State Fault Refusal :=
  match s.canAccept c, s.presentedTo c with
  | true, some n =>
    let s1 := if c = .ash then s.acceptAsh n else s.acceptSource c.cid n
    .next (s1.setCore c { s1.core c with accepted := some n, run := .run })
  | _, _ => .next s

/-- The number under which a source is delivered to a core (R193, R252). -/
def State.deliveredTo (s : State) (c : CoreId) (n : Nat) : Nat := if c = .ash then n else (s.delivered n).getD n

/-- INTERRUPT_ENTRY (R195): at the boundary, with no delay slot pending, the handler of the accepted source starts. -/
def execInterruptEntry (c : CoreId) (s : State) : Host.Outcome State Fault Refusal :=
  match (s.core c).accepted with
  | none => .next s
  | some n =>
    if ! s.running c || (s.core c).branch.isSome || (s.core c).fault.isSome then .next s
    else
      let s1 := s.drain c
      let k := s1.core c
      let d := s1.deliveredTo c n
      .next ((s1.setCore c { k with accepted := none }).enterHandler c (k.resumeAt k.pc) 0 none (BitVec.ofNat 24 (0x800000 + d)) (16 + d))

/-- IMPRECISE_FAULT (R199, R200): the failed access is taken at the boundary, with no delay slot pending; it goes before an accepted
interrupt, and is a double fault with exl set. -/
def execImpreciseFault (c : CoreId) (s : State) : Host.Outcome State Fault Refusal :=
  let k := s.core c
  if k.fault.isNone || k.branch.isSome || ! s.running c || k.run == .held || k.run == .halted then .next s
  else .next (s.exception c 0 0)

end Sys2Proof.Machine
end

