-- ==== Sys2Proof/Machine/Coproc.lean ====
section
/-! DEFINITION. The coprocessors CP0, CP1 and CP2 (R99, R224 to R230). -/
namespace Sys2Proof.Machine

/-! ## CP0, the loading coprocessor (R225 to R228) -/

/-- A CP0 register as an operation reads it; register 15 shows busy while a `c0code` runs (R225, R227). -/
def CoreState.c0 (k : CoreState) (r : Nat) : Word :=
  if r = 15 then withBit (k.cp0.getD 15 0#24) 23 k.c0run.isSome else k.cp0.getD r 0#24

/-- Octet i of the thresholds and margins in thr0–thr3: th[1/2][1..5], th[3/4][1..5], m, mf (R99, R227). -/
def CoreState.thr (k : CoreState) (i : Nat) : Nat := octetOf (k.c0 (8 + i / 3)) (i % 3)

/-- The code of a group with an SNR at a rate: the highest whose threshold plus margins it reaches (R99). -/
def CoreState.loadCode (k : CoreState) (rate34 : Bool) (extra snr : Nat) : Nat :=
  (List.range 5).foldl (fun c i => if k.thr ((if rate34 then 5 else 0) + i) + extra ≤ snr then i + 1 else c) 0

/-- The 24 codes at a rate (R99). -/
def CoreState.loadCodes (k : CoreState) (rate34 : Bool) : List Nat :=
  let extra := k.thr 10 + if fieldOf (k.c0 15) 0 5 < 16 then k.thr 11 else 0
  (octetsOf ((List.range 8).map k.c0)).map (k.loadCode rate34 extra)

/-- A list summed. -/
def sumOf (l : List Nat) : Nat := l.foldl (· + ·) 0

/-- Eight codes in a word (R90). -/
def codeWordOf (cs : List Nat) : Word := BitVec.ofNat 24 (cs.foldl (fun w c => w * 8 + c % 8) 0)

/-- Bits 22:11 of res: rate, none and D (R227). -/
def resOf (rate34 none_ : Bool) (d : Nat) : Word := BitVec.ofNat 24 (b2n rate34 * 2 ^ 22 + b2n none_ * 2 ^ 21 + d % 1024 * 2 ^ 11)

/-- The computation of R99: the table of the chosen rate, and rate, none and D. -/
def CoreState.loadTable (k : CoreState) : C0Run :=
  let half := k.loadCodes false
  let tq := k.loadCodes true
  let s2 := sumOf (half.map codeBits)
  let s3 := sumOf (tq.map codeBits)
  let rate := decide (2 * s2 < 3 * s3)
  let cs := if rate then tq else half
  let d := if rate then 3 * s3 else 2 * s2
  { left := 28, tabs := (chunks 8 3 cs).map codeWordOf, res := resOf rate (cs.all (· == 0)) d }

/-- C0WR (R228): busy cannot be written, and the reserved bits of res read 0 (R5). -/
def execC0wr (c : CoreId) (r : Fin 16) (a : Fin 16) (s : State) : Host.Outcome State Fault Refusal :=
  .next (s.alu c 1 1 fun k => [if r = 15 then .cp0 15 0x7FFFFF#24 (k.gr a &&& 0x7FF81F#24) else .cp0 r.val 0xFFFFFF#24 (k.gr a)])

/-- C0RD (R228). -/
def execC0rd (c : CoreId) (d : Fin 16) (r : Fin 16) (s : State) : Host.Outcome State Fault Refusal :=
  .next (s.alu c 1 1 fun k => [.g d.val (k.c0 r.val)])

/-- C0CODE (R225): the inputs are read as it issues; an earlier one that runs is cancelled. -/
def execC0code (c : CoreId) (s : State) : Host.Outcome State Fault Refusal :=
  .next (s.issueCore c 1 none fun k => { k with c0run := some k.loadTable })

/-- C0CODE_DONE (R225): the issue cycles up to distance 28 pass. -/
def execC0codeDone (c : CoreId) (s : State) : Host.Outcome State Fault Refusal :=
  match (s.core c).c0run with
  | some r => .next (s.cycles c r.left)
  | none => .next s

/-- C0EVAL (R88, R228): D and none for the table held. -/
def execC0eval (c : CoreId) (s : State) : Host.Outcome State Fault Refusal :=
  .next (s.alu c 1 2 fun k =>
    let tab := (List.range 3).map fun i => k.c0 (12 + i)
    let rate := (k.c0 15).getLsbD 22
    [.cp0 15 0x3FF800#24 (if tableIllegal tab then resOf false true 0 else resOf false false (tableD tab rate))])

/-- The bits of the eight codes of a word (R89). -/
def wordBits (w : Word) : Nat := sumOf ((List.range 8).map fun i => codeBits (tableCode [w] i))

/-- C0CNT (R228). -/
def execC0cnt (c : CoreId) (d a : Fin 16) (s : State) : Host.Outcome State Fault Refusal :=
  .next (s.alu c 1 1 fun k => [.g d.val (BitVec.ofNat 24 (wordBits (k.gr a)))])

/-- C0EXT (R90, R228). -/
def execC0ext (c : CoreId) (d a b : Fin 16) (s : State) : Host.Outcome State Fault Refusal :=
  .next (s.alu c 1 1 fun k => [.g d.val (BitVec.ofNat 24 (tableCode [k.gr a] (fieldOf (k.gr b) 0 3)))])

/-- C0DEP (R90, R228). -/
def execC0dep (c : CoreId) (d a b : Fin 16) (s : State) : Host.Outcome State Fault Refusal :=
  .next (s.alu c 1 1 fun k =>
    [.g d.val (withField (k.gr d) (21 - 3 * fieldOf (k.gr b) 0 3) 3 (fieldOf (k.gr a) 0 3))])

/-- C0NSYM (R88, R228). -/
def execC0nsym (c : CoreId) (d a : Fin 16) (s : State) : Host.Outcome State Fault Refusal :=
  .next (s.alu c 1 4 fun k => [.g d.val (BitVec.ofNat 24 (ceilDiv (8 * (k.gr a).toNat + 6) (fieldOf (k.c0 15) 11 10)))])

/-! ## CP1, CRC-24 and whitening (R229) -/

/-- A CP1 operation: the Ashlar core does not decode it. -/
def State.cp1 (s : State) (c : CoreId) (f : CoreState → CoreState) : State :=
  s.issueCore c 1 (if c = .ash then some 2 else none) f

/-- One step of the whitening register: the bit it gives, which enters at the top, and its next state (IEEE 802.15.4 SUN FSK;
assumption 16). -/
def pn9Step (p : Nat) : Bool × Nat :=
  let b := p.testBit 0 != p.testBit 5
  (b, p / 2 + 256 * b2n b)

/-- n steps: the bits as a number, the first in bit 0, and the state after them. -/
def pn9Bits : Nat → Nat → Nat × Nat
  | 0, p => (0, p)
  | n + 1, p =>
    let r := pn9Bits n (pn9Step p).2
    (b2n (pn9Step p).1 + 2 * r.1, r.2)

/-- The state that whitening starts from: a state of 0 is replaced by 0x1FF (R229). -/
def pn9Seed (p : BitVec 9) : Nat := if p = 0#9 then 0x1FF else p.toNat

/-- n whitening octets from a state, and the state after them. -/
def pn9Octets : Nat → Nat → List Nat × Nat
  | 0, p => ([], p)
  | n + 1, p =>
    let r := pn9Bits 8 p
    let rest := pn9Octets n r.2
    (r.1 :: rest.1, rest.2)

/-- One step of the Seam scrambler: its bit and its next state (R229). -/
def scrStep (p : Nat) : Bool × Nat :=
  let b := p.testBit 6 != p.testBit 3
  (b, (p * 2 + b2n b) % 128)

/-- n scrambler bits as a number, the first in bit 0, and the state after them. -/
def scrBits : Nat → Nat → Nat × Nat
  | 0, p => (0, p)
  | n + 1, p =>
    let r := scrBits n (scrStep p).2
    (b2n (scrStep p).1 + 2 * r.1, r.2)

/-- n scrambler octets, in air order. -/
def scrOctets : Nat → Nat → List Nat × Nat
  | 0, p => ([], p)
  | n + 1, p =>
    let r := scrBits 8 p
    let rest := scrOctets n r.2
    (r.1 :: rest.1, rest.2)

/-- Octets as one word. -/
def wordOf (os : List Nat) : Word := (packOctets os).headD 0#24

/-- C1CRC (R229). -/
def execC1crc (c : CoreId) (a : Fin 16) (s : State) : Host.Outcome State Fault Refusal :=
  .next (s.cp1 c fun k => { k with crc := BitVec.ofNat 24 (crcOctets k.crc.toNat (octetsOf [k.gr a])) })

/-- C1CRCO (R229). -/
def execC1crco (c : CoreId) (a : Fin 16) (s : State) : Host.Outcome State Fault Refusal :=
  .next (s.cp1 c fun k => { k with crc := BitVec.ofNat 24 (crcOctet k.crc.toNat (fieldOf (k.gr a) 0 8)) })

/-- C1RDC (R229). -/
def execC1rdc (c : CoreId) (d : Fin 16) (s : State) : Host.Outcome State Fault Refusal := .next (s.cp1 c fun k => k.putG 1 d k.crc)

/-- C1WRC (R229). -/
def execC1wrc (c : CoreId) (a : Fin 16) (s : State) : Host.Outcome State Fault Refusal :=
  .next (s.cp1 c fun k => { k with crc := k.gr a })

/-- C1INI (R229, R282). -/
def execC1ini (c : CoreId) (s : State) : Host.Outcome State Fault Refusal := .next (s.cp1 c fun k => { k with crc := 0xB704CE#24 })

/-- C1PN9 (R229). -/
def execC1pn9 (c : CoreId) (d a : Fin 16) (s : State) : Host.Outcome State Fault Refusal :=
  .next (s.cp1 c fun k =>
    let r := pn9Octets 3 (pn9Seed k.pn9)
    { k.putG 1 d (k.gr a ^^^ wordOf r.1) with pn9 := BitVec.ofNat 9 r.2 })

/-- C1PN9O (R229). -/
def execC1pn9o (c : CoreId) (d a : Fin 16) (s : State) : Host.Outcome State Fault Refusal :=
  .next (s.cp1 c fun k =>
    let r := pn9Octets 1 (pn9Seed k.pn9)
    { k.putG 1 d (BitVec.ofNat 24 (fieldOf (k.gr a) 0 8 ^^^ r.1.headD 0)) with pn9 := BitVec.ofNat 9 r.2 })

/-- C1WRP (R229). -/
def execC1wrp (c : CoreId) (a : Fin 16) (s : State) : Host.Outcome State Fault Refusal :=
  .next (s.cp1 c fun k => { k with pn9 := BitVec.ofNat 9 (k.gr a).toNat })

/-- C1RDP (R229). -/
def execC1rdp (c : CoreId) (d : Fin 16) (s : State) : Host.Outcome State Fault Refusal :=
  .next (s.cp1 c fun k => k.putG 1 d (BitVec.ofNat 24 k.pn9.toNat))

/-- C1SCR (R87, R229). -/
def execC1scr (c : CoreId) (d a : Fin 16) (s : State) : Host.Outcome State Fault Refusal :=
  .next (s.cp1 c fun k =>
    let r := scrOctets 3 k.scr.toNat
    { k.putG 1 d (k.gr a ^^^ wordOf r.1) with scr := BitVec.ofNat 7 r.2 })

/-- C1WRS (R229). -/
def execC1wrs (c : CoreId) (a : Fin 16) (s : State) : Host.Outcome State Fault Refusal :=
  .next (s.cp1 c fun k => { k with scr := BitVec.ofNat 7 (k.gr a).toNat })

/-- C1RDS (R229). -/
def execC1rds (c : CoreId) (d : Fin 16) (s : State) : Host.Outcome State Fault Refusal :=
  .next (s.cp1 c fun k => k.putG 1 d (BitVec.ofNat 24 k.scr.toNat))

/-! ## CP2, complex arithmetic (R230) -/

/-- The I part of a cplx12 (R174). -/
def cI (w : Word) : Int := signed 12 (fieldOf w 12 12)

/-- The Q part. -/
def cQ (w : Word) : Int := signed 12 (fieldOf w 0 12)

/-- A part saturated to 12 bits (R230). -/
def sat12 (i : Int) : Int := max (-2048) (min 2047 i)

/-- A cplx12 of two parts, saturated. -/
def cplx (p q : Int) : Word := wordOfInt (sat12 p % 4096 * 4096 + sat12 q % 4096)

/-- A part of a product rounded (R230). -/
def cRound (p : Int) : Int := (p + 1024) / 2048

/-- The exact product of a and b, b conjugated where asked: both parts in units of 2^-22. -/
def cProd (conj : Bool) (a b : Word) : Int × Int :=
  let bq := if conj then - cQ b else cQ b
  (cI a * cI b - cQ a * bq, cI a * bq + cQ a * cI b)

/-- The product rounded and saturated. -/
def cMulWord (conj : Bool) (a b : Word) : Word := cplx (cRound (cProd conj a b).1) (cRound (cProd conj a b).2)

/-- a × j^k (R230). -/
def cRot (a : Word) (k : Nat) : Word :=
  match k with
  | 0 => cplx (cI a) (cQ a)
  | 1 => cplx (- cQ a) (cI a)
  | 2 => cplx (- cI a) (- cQ a)
  | _ => cplx (cQ a) (- cI a)

/-- The accumulators take a product (R230). -/
def CoreState.cAdd (k : CoreState) (p : Int × Int) : CoreState :=
  { k with cre := k.cre + BitVec.ofInt 32 p.1, cim := k.cim + BitVec.ofInt 32 p.2 }

/-- Bits 31:24 of an accumulator, sign-extended. -/
def cHigh (b : BitVec 32) : Word := wordOfInt (signed 8 (b.toNat / 2 ^ 24))

/-- The 32 bits that `cwrr` and `cwri` write. -/
def cWord (a b : Word) : BitVec 32 := BitVec.ofNat 32 (fieldOf b 0 8 * 2 ^ 24 + a.toNat)

/-- CADD (R230). -/
def execCadd (c : CoreId) (d a b : Fin 16) (s : State) : Host.Outcome State Fault Refusal :=
  .next (s.alu c 1 1 fun k => [.g d.val (cplx (cI (k.gr a) + cI (k.gr b)) (cQ (k.gr a) + cQ (k.gr b)))])

/-- CSUB (R230). -/
def execCsub (c : CoreId) (d a b : Fin 16) (s : State) : Host.Outcome State Fault Refusal :=
  .next (s.alu c 1 1 fun k => [.g d.val (cplx (cI (k.gr a) - cI (k.gr b)) (cQ (k.gr a) - cQ (k.gr b)))])

/-- CCONJ (R230). -/
def execCconj (c : CoreId) (d a : Fin 16) (s : State) : Host.Outcome State Fault Refusal :=
  .next (s.alu c 1 1 fun k => [.g d.val (cplx (cI (k.gr a)) (- cQ (k.gr a)))])

/-- CMUL (R230). -/
def execCmul (c : CoreId) (d a b : Fin 16) (s : State) : Host.Outcome State Fault Refusal :=
  .next (s.alu c 1 2 fun k => [.g d.val (cMulWord false (k.gr a) (k.gr b))])

/-- CMULC (R230). -/
def execCmulc (c : CoreId) (d a b : Fin 16) (s : State) : Host.Outcome State Fault Refusal :=
  .next (s.alu c 1 2 fun k => [.g d.val (cMulWord true (k.gr a) (k.gr b))])

/-- CROT (R230). -/
def execCrot (c : CoreId) (d a b : Fin 16) (s : State) : Host.Outcome State Fault Refusal :=
  .next (s.alu c 1 1 fun k => [.g d.val (cRot (k.gr a) (fieldOf (k.gr b) 0 2))])

/-- CPWR (R230). -/
def execCpwr (c : CoreId) (d a : Fin 16) (s : State) : Host.Outcome State Fault Refusal :=
  .next (s.alu c 1 2 fun k => [.g d.val (wordOfInt (cI (k.gr a) * cI (k.gr a) + cQ (k.gr a) * cQ (k.gr a)))])

/-- CMAC (R230). -/
def execCmac (c : CoreId) (a b : Fin 16) (s : State) : Host.Outcome State Fault Refusal :=
  .next (s.issueCore c 1 none fun k => k.cAdd (cProd false (k.gr a) (k.gr b)))

/-- CMACC (R230). -/
def execCmacc (c : CoreId) (a b : Fin 16) (s : State) : Host.Outcome State Fault Refusal :=
  .next (s.issueCore c 1 none fun k => k.cAdd (cProd true (k.gr a) (k.gr b)))

/-- CCLR (R230). -/
def execCclr (c : CoreId) (s : State) : Host.Outcome State Fault Refusal :=
  .next (s.issueCore c 1 none fun k => { k with cre := 0#32, cim := 0#32 })

/-- CRDR (R230): saturated to int24. -/
def execCrdr (c : CoreId) (d : Fin 16) (s : State) : Host.Outcome State Fault Refusal :=
  .next (s.alu c 1 2 fun k => [.g d.val (sat24 k.cre.toInt)])

/-- CRDI (R230). -/
def execCrdi (c : CoreId) (d : Fin 16) (s : State) : Host.Outcome State Fault Refusal :=
  .next (s.alu c 1 2 fun k => [.g d.val (sat24 k.cim.toInt)])

/-- CRDRH (R230). -/
def execCrdrh (c : CoreId) (d : Fin 16) (s : State) : Host.Outcome State Fault Refusal :=
  .next (s.alu c 1 2 fun k => [.g d.val (cHigh k.cre)])

/-- CRDRL (R230). -/
def execCrdrl (c : CoreId) (d : Fin 16) (s : State) : Host.Outcome State Fault Refusal :=
  .next (s.alu c 1 2 fun k => [.g d.val (BitVec.ofNat 24 k.cre.toNat)])

/-- CRDIH (R230). -/
def execCrdih (c : CoreId) (d : Fin 16) (s : State) : Host.Outcome State Fault Refusal :=
  .next (s.alu c 1 2 fun k => [.g d.val (cHigh k.cim)])

/-- CRDIL (R230). -/
def execCrdil (c : CoreId) (d : Fin 16) (s : State) : Host.Outcome State Fault Refusal :=
  .next (s.alu c 1 2 fun k => [.g d.val (BitVec.ofNat 24 k.cim.toNat)])

/-- CWRR (R230). -/
def execCwrr (c : CoreId) (a b : Fin 16) (s : State) : Host.Outcome State Fault Refusal :=
  .next (s.issueCore c 1 none fun k => { k with cre := cWord (k.gr a) (k.gr b) })

/-- CWRI (R230). -/
def execCwri (c : CoreId) (a b : Fin 16) (s : State) : Host.Outcome State Fault Refusal :=
  .next (s.issueCore c 1 none fun k => { k with cim := cWord (k.gr a) (k.gr b) })

/-! ## CP3 (R231, R232) -/

/-- C3 (R231, R232): the operation is recorded to be sent, or discarded and counted. -/
def execC3 (c : CoreId) (d a b : Fin 16) (op : BitVec 6) (s : State) : Host.Outcome State Fault Refusal :=
  let ord := s.nextOrd
  .next (s.issueCore c 1 (if c = .ash ∨ s.aditOn = false then some 2 else none) fun k =>
    if k.disc ≠ 0 ∨ 4 ≤ k.cp3.length then { k with disc := min 7 (k.disc + 1) }
    else { k with cp3 := k.cp3 ++
      [{ rd := d.val, tag := freeTag k, op := op.toNat, ga := k.gr a, gb := k.gr b, st := .waiting, ord := ord }] })

end Sys2Proof.Machine
end

