-- ==== Sys2Proof/Machine/Engine.lean ====
section
/-! DEFINITION. The crypto engine of the Ashlar core (R349 to R352): AES, SHA-512, the RSA engine and the random port. -/
namespace Sys2Proof.Machine

/-- The crypto engine changes. -/
def State.mapEng (s : State) (f : CryptoEngine → CryptoEngine) : State := s.mapAsh fun a => { a with eng := f a.eng }

/-- An operation of the engine issues on the Ashlar core. -/
def State.k1 (s : State) (f : CoreState → CryptoEngine → CryptoEngine) : State :=
  s.issue .ash 1 none fun s => s.mapEng (f s.ashc)

/-- n words of the Ashlar RAM. -/
def State.ashRams (s : State) (a n : Nat) : List Word := (List.range n).map fun i => s.ashRam (a + i)

/-- Words of the Ashlar RAM take those of a list. -/
def State.setAshRams (s : State) (a : Nat) : List Word → State
  | [] => s
  | w :: ws => (s.setAshRam a w).setAshRams (a + 1) ws

/-! ## AES (R350) -/

/-- The AES key in octets. -/
def CryptoEngine.aesKey (e : CryptoEngine) : List Nat := (octetsOf e.key).take (if e.klen then 32 else 16)

/-- The internal distance of an AES operation. -/
def CryptoEngine.aesDist (e : CryptoEngine) : Nat := if e.klen then 15 else 11

/-- The AES block in octets. -/
def CryptoEngine.aesBlock (e : CryptoEngine) : List Nat := (octetsOf e.blk).take 16

/-- K1KEY (R350): kek clears, and an AES operation that runs is cancelled. -/
def execK1key (i : Fin 11) (a : Fin 16) (s : State) : Host.Outcome State Fault Refusal :=
  .next (s.k1 fun k e =>
    { e with key := setAt (if i = 10 then k.gr a &&& 0xFF0000#24 else k.gr a) e.key i.val, kek := false, aes := none })

/-- K1KEK (R325, R350). -/
def execK1kek (s : State) : Host.Outcome State Fault Refusal :=
  .next (s.k1 fun _ e => { e with key := packOctets (Config.kek.take 32), klen := true, kek := true, aes := none })

/-- K1CFG (R350): ignored while kek is 1. -/
def execK1cfg (a : Fin 16) (s : State) : Host.Outcome State Fault Refusal :=
  .next (s.k1 fun k e => if e.kek then { e with aes := none } else { e with klen := (k.gr a).getLsbD 0, aes := none })

/-- K1CLR (R350). -/
def execK1clr (s : State) : Host.Outcome State Fault Refusal :=
  .next (s.k1 fun _ e =>
    { e with
      key := List.replicate 11 0#24, blk := List.replicate 6 0#24, hst := List.replicate 22 0#24, hblk := List.replicate 43 0#24
      kek := false, aes := none, sha := none })

/-- K1BW (R350). -/
def execK1bw (i : Fin 6) (a : Fin 16) (s : State) : Host.Outcome State Fault Refusal :=
  .next (s.k1 fun k e =>
    { e with blk := setAt (if i = 5 then k.gr a &&& 0xFF0000#24 else k.gr a) e.blk i.val, aes := none })

/-- K1BR (R350). -/
def execK1br (d : Fin 16) (i : Fin 6) (s : State) : Host.Outcome State Fault Refusal :=
  .next (s.alu .ash 1 1 fun _ => [.g d.val (s.ash.eng.blk.getD i.val 0#24)])

/-- K1ENC (R350). -/
def execK1enc (s : State) : Host.Outcome State Fault Refusal :=
  .next (s.k1 fun _ e => { e with aes := some (e.aesDist, packOctets (aesEncrypt e.aesKey e.aesBlock)) })

/-- K1DEC (R350). -/
def execK1dec (s : State) : Host.Outcome State Fault Refusal :=
  .next (s.k1 fun _ e => { e with aes := some (e.aesDist, packOctets (aesDecrypt e.aesKey e.aesBlock)) })

/-- AES_DONE (R350): the issue cycles up to its internal distance pass. -/
def execAesDone (s : State) : Host.Outcome State Fault Refusal :=
  match s.ash.eng.aes with
  | some r => .next (s.cycles .ash r.1)
  | none => .next s

/-! ## SHA-512 (R350) -/

/-- The SHA-512 state as eight words of 64 bits. -/
def CryptoEngine.shaState (e : CryptoEngine) : List (BitVec 64) :=
  (chunks 8 8 ((octetsOf e.hst).take 64)).map fun os => BitVec.ofNat 64 (natOfOctets os)

/-- K1HINI (R350). -/
def execK1hini (s : State) : Host.Outcome State Fault Refusal :=
  .next (s.k1 fun _ e => { e with hst := packOctets (sha512Out sha512Init), sha := none })

/-- K1HW (R350). -/
def execK1hw (i : Fin 43) (a : Fin 16) (s : State) : Host.Outcome State Fault Refusal :=
  .next (s.k1 fun k e =>
    { e with hblk := setAt (if i = 42 then k.gr a &&& 0xFFFF00#24 else k.gr a) e.hblk i.val, sha := none })

/-- K1HRUN (R350). -/
def execK1hrun (s : State) : Host.Outcome State Fault Refusal :=
  .next (s.k1 fun _ e =>
    { e with sha := some (84, packOctets (sha512Out (sha512Block e.shaState ((octetsOf e.hblk).take 128)))) })

/-- SHA_DONE (R350): the issue cycles up to distance 84 pass. -/
def execShaDone (s : State) : Host.Outcome State Fault Refusal :=
  match s.ash.eng.sha with
  | some r => .next (s.cycles .ash r.1)
  | none => .next s

/-- K1HR (R350). -/
def execK1hr (d : Fin 16) (i : Fin 22) (s : State) : Host.Outcome State Fault Refusal :=
  .next (s.alu .ash 1 1 fun _ => [.g d.val (s.ash.eng.hst.getD i.val 0#24)])

/-- st (R349). -/
def CryptoEngine.st (e : CryptoEngine) : Word :=
  BitVec.ofNat 24 (b2n e.aes.isSome * 2 ^ 23 + b2n e.sha.isSome * 2 ^ 22 + b2n e.rsa.isSome * 2 ^ 21 + b2n e.rsae * 2 ^ 20
    + b2n e.kek * 2 ^ 19 + b2n e.rnge * 2 ^ 18 + b2n e.hf * 2 ^ 17 + e.avail % 64)

/-- K1ST (R349, R350). -/
def execK1st (d : Fin 16) (s : State) : Host.Outcome State Fault Refusal :=
  .next (s.alu .ash 1 1 fun _ => [.g d.val s.ash.eng.st])

/-! ## The RSA engine and the random port (R350 to R352) -/

/-- Octets of an operand of len words: 512 for the 171 of an RSA-4096 modulus (R332), three a word otherwise. -/
def rsaOctets (len : Nat) : Nat := if len = 171 then 512 else 3 * len

/-- An operand of the RSA engine (R351). -/
def State.rsaArg (s : State) (a len : Nat) : Nat := natOfOctets ((octetsOf (s.ashRams a len)).take (rsaOctets len))

/-- The exponentiation of an operation: none where it fails (R351). -/
def State.rsaPower (s : State) (len x n e bits : Nat) : Option (List Word) :=
  if len = 0 ∨ 171 < len ∨ n ≤ s.rsaArg x len then none
  else some (packOctets (octetsOfNat (rsaOctets len) (powMod n bits (s.rsaArg x len) e 1)))

/-- What an operation on a descriptor gives: where r goes, and its words; none where it fails (R351). -/
def State.rsaRun (s : State) (desc op : Nat) : RsaRun :=
  let w := fun i => (s.ashRam (desc + i)).toNat
  let len := w 0 % 256
  let res := match op with
    | 0 => s.rsaPower len (w 1) (s.rsaArg (w 2) len) (s.ashRam (w 3)).toNat 24
    | 1 => if s.ash.eng.priv then s.rsaPower len (w 1) Config.identityModulus Config.identityPrivate 4096 else none
    | 2 => if s.ash.eng.kek then some [] else none
    | _ => some []
  { op := op, dest := w 4, res := res }

/-- K1RSA (R351): the operation that ran is cancelled. -/
def execK1rsa (a b : Fin 16) (s : State) : Host.Outcome State Fault Refusal :=
  .next (s.issue .ash 1 none fun s =>
    let r := s.rsaRun (s.ashc.gr a).toNat (fieldOf (s.ashc.gr b) 0 2)
    s.mapEng fun e => { e with rsa := some r })

/-- RSA_DONE (R351): r is written, or rsae set; the private register is loaded or cleared; source 3. -/
def execRsaDone (s : State) : Host.Outcome State Fault Refusal :=
  match s.ash.eng.rsa with
  | none => .next s
  | some r =>
    let ok := r.res.isSome
    let priv := if ok && r.op == 2 then true else if ok && r.op == 3 then false else s.ash.eng.priv
    let s1 := s.mapEng fun e => { e with rsa := none, rsae := ! ok, priv := priv }
    .next ((s1.setAshRams r.dest (r.res.getD [])).raiseAsh 3)

/-- K1RNG (R350, R352): the next random word, a free value; with none available gd takes 0 and rnge sets, and clears otherwise. -/
def execK1rng (d : Fin 16) (s : State) : Host.Outcome State Fault Refusal :=
  .next (s.issue .ash 1 none fun s =>
    if s.ash.eng.avail = 0 then (s.mapEng fun e => { e with rnge := true }).setCore .ash (s.ashc.putG 1 d 0#24)
    else
      let r := s.drawFree
      let s1 := r.2.mapEng fun e => { e with rnge := false, avail := e.avail - 1 }
      s1.setCore .ash (s1.ashc.putG 1 d (BitVec.ofNat 24 r.1)))

end Sys2Proof.Machine
end

