-- ==== Sys2Proof/Machine/Mem.lean ====
section
/-! DEFINITION. Loads and stores of the cores (R179, R180, R199, R220), and reads of flash (R302, R304, R312). -/
namespace Sys2Proof.Machine

/-- A data read of a core: outcome, word and state as `State.busRead` gives them. -/
def State.dataRead (s : State) (c : CoreId) (a : Nat) : Nat × Word × State :=
  if c = .ash ∧ isAshRam a = true then (0, s.ashRam a, s) else s.busRead c.master a

/-- A data write of a core. -/
def State.dataWrite (s : State) (c : CoreId) (a : Nat) (v : Word) : Nat × State :=
  if c = .ash ∧ isAshRam a = true then (0, s.setAshRam a v) else s.busWrite c.master a v

/-- The failure of a data access, if it failed, is posted (R199). -/
def State.postIf (s : State) (c : CoreId) (code : Nat) (efa eia : Word) : State :=
  if code = 0 then s else s.postFault c code efa eia

/-- The base register's update, at distance 1 (R179, R220). -/
def CoreState.putBase (k : CoreState) (a : Addr) : CoreState :=
  match addrBase k a with
  | some (b, v) => k.putG 1 b v
  | none => k

/-- What a load does when it issues (R220): the word, or 0 for one that fails, at distance 3, and the base update. -/
def State.load (s : State) (c : CoreId) (r : Fin 16) (a : Addr) : State :=
  let k := s.core c
  let ea := addrOf k a
  let d := s.dataRead c ea.toNat
  State.postIf (d.2.2.setCore c (((d.2.2.core c).putBase a).putG 3 r d.2.1)) c d.1 ea k.pc

/-- A data access waits for a bank whose reads are held (R14, R304). -/
def State.dataWaits (s : State) (c : CoreId) (a : Addr) : Bool :=
  s.canIssue c && (s.causeOf c (memLen a) none).isNone && s.busHolds (addrOf (s.core c) a).toNat

/-- LD (R179, R220). -/
def execLd (c : CoreId) (r : Fin 16) (a : Addr) (s : State) : Host.Outcome State Fault Refusal :=
  if s.dataWaits c a then .next s else .next (s.issue c (memLen a) none fun s => s.load c r a)

/-- ST (R179, R184, R220): r and the base are read at issue, and the word goes to memory in program order (R180). -/
def execSt (c : CoreId) (r : Fin 16) (a : Addr) (s : State) : Host.Outcome State Fault Refusal :=
  .next (s.attempt c (memLen a) none 0 fun s =>
    let k := s.core c
    let ea := addrOf k a
    let d := ((s.setCore c (k.putBase a)).finish c (memLen a)).dataWrite c ea.toNat (k.gr r)
    d.2.postIf c d.1 ea k.pc)

/-- FLASH_READ (R12, R15, R197, R302, R304, R312): a transfer that reads a flash word, of which a number of array reads fail; the first
that passes serves it. A held bank keeps it waiting. A core's data read that fails raises its exception at the next boundary, its fetch at once. -/
def execFlashRead (m : Master) (a : Word) (fetch : Bool) (failed : Nat) (s0 : State) : Host.Outcome State Fault Refusal :=
  let n := a.toNat
  let path := m == .ash || (fetch && (m == .a0 || m == .a1))
  if ! isFlash n || s0.asleep || (fetch && ! path) then .next s0
  else if ! s0.reaches m n false then .next ((s0.served m).noteBus true)
  else if s0.bankHeld (bankOf n) then .next s0
  else
    let s := (s0.served m).noteBus false
    let post := fun (s : State) code => match Master.core? m with
      | some c => if m == .ash then s else s.postFault c code a (s.core c).pc
      | none => s
    if s.xoSector (n / 2048) && ! path then .next (State.answerOr (some 0#24, post (s.xoRead n) 6))
    else
      let r := s.flashWord n failed
      let t := State.answerOr r
      if r.1.isSome then .next t
      else if ! fetch then .next (post t 10)
      else match Master.core? m with
        | some c => .next (if t.canIssue c && (t.core c).pc == a then t.exception c 10 0 else t)
        | none => .next t

end Sys2Proof.Machine
end

