-- ==== Sys2Proof/Machine/Debug.lean ====
section
/-! DEFINITION. The debug port (R343, R432 to R438): attach and detach, the transactions of the probe, bus accesses, halting, and the
registers of halted cores. -/
namespace Sys2Proof.Machine

/-! ## Attach (R432) -/

/-- DEBUG_ATTACH (R432): the probe is attached, source 111 becomes pending, and a transaction in progress is abandoned. -/
def execDebugAttach (s : State) : Host.Outcome State Fault Refusal :=
  if s.sys.power = .off then .next s
  else .next (State.raise { s with dbg := { s.dbg with att := true, read := none, busy := none } } 111)

/-- The port is detached (R432). -/
def State.detach (s : State) : State := { s with dbg := { s.dbg with att := false, read := none, busy := none } }

/-! ## Halting (R436) -/

/-- The cores that the halt, run and step bits of DBG_CTL name, by number. -/
def dbgCores : List CoreId := [.lk, .a0, .a1]

/-- A halt request: the core halts at once where it stands at a boundary, and else when it reaches one. -/
def State.haltCore (s : State) (c : CoreId) : State :=
  if (s.core c).dbgHalt then s
  else State.debugBoundary { s with dbg := { s.dbg with haltReq := s.dbg.haltReq ||| BitVec.ofNat 3 (2 ^ c.cid) } } c

/-- A halted core resumes at its pc. -/
def State.runCore (s : State) (c : CoreId) : State :=
  if (s.core c).dbgHalt then s.setCore c { s.core c with dbgHalt := false } else s

/-- A halted core resumes for one instruction. -/
def State.stepCore (s : State) (c : CoreId) : State :=
  if (s.core c).dbgHalt then
    { s.runCore c with dbg := { s.dbg with step := s.dbg.step ||| BitVec.ofNat 3 (2 ^ c.cid) } }
  else s

/-- The action bits of DBG_CTL from a bit up act on the cores that they name. -/
def State.onCores (s : State) (v : Word) (lo : Nat) (f : State → CoreId → State) : State :=
  dbgCores.foldl (fun s c => if v.getLsbD (lo + c.cid) then f s c else s) s

/-! ## Registers of halted cores (R437) -/

/-- The index of DBG_CSEL names a core register. -/
def cregOk (i : Nat) : Bool := decide (i < 0x1E) || (decide (0x20 ≤ i) && decide (i < 0x2C))

/-- The core that DBG_CSEL selects. -/
def State.csel (s : State) : Option CoreId := dbgCores[s.fld Reg.DBG_CSEL 0 2]?

/-- A core register as DBG_CREG reads it. -/
def CoreState.creg (k : CoreState) (c : CoreId) (i : Nat) : Word :=
  if i = 0 then 0#24
  else if i < 0x10 then k.g.getD i 0#24
  else if i < 0x1E then k.special c (i - 0x10)
  else accPart (k.acc.getD ((i - 0x20) / 3) 0#56) (24 * ((i - 0x20) % 3))

/-- A core register takes a word from DBG_CREG: g0, cid and cyc ignore it, and pc is where the core resumes, out of a `wst` or `cpwait`. -/
def CoreState.setCreg (k : CoreState) (i : Nat) (v : Word) : CoreState :=
  if i = 0 then k
  else if i < 0x10 then { k with g := setAt v k.g i }
  else if i = 0x10 then
    { k with
      pc := v, branch := none, rptPc := none, rptLeft := 0, rptFresh := false, waits := k.waits.dropWhile (·.depth == 0)
      run := if k.run = .wst ∨ k.run = .cpwait then .run else k.run }
  else if i < 0x1E then k.setSpecial (i - 0x10) v
  else
    let n := (i - 0x20) / 3
    let p := (i - 0x20) % 3
    { k with acc := setAt (withAccPart (k.acc.getD n 0#56) (24 * p) (if p = 2 then 8 else 24) v.toNat) k.acc n }

/-! ## Bus accesses of the port (R435) -/

/-- The port's bus access at DBG_ADDR does not complete yet: the bank is held, or the bus has no clock. -/
def State.dbgWaits (s : State) : Bool := s.busHolds (s.reg Reg.DBG_ADDR).toNat || s.asleep || s.sys.inReset.isSome

/-- The port's bus access completes: none for a read, the word of a write. A bus error sets berr; DBG_ADDR advances with inc = 1. -/
def State.dbgBus (s0 : State) (w : Option Word) : State :=
  let s := { s0 with dbg := { s0.dbg with busy := none } }
  let a := (s.reg Reg.DBG_ADDR).toNat
  let t := match w with
    | none =>
      let r := s.busRead .dbg a
      if r.1 = 5 ∨ r.1 = 10 then r.2.2.setBit Reg.DBG_STAT 20 true
      else { r.2.2.setReg Reg.DBG_DATA r.2.1 with dbg := { r.2.2.dbg with read := some r.2.1 } }
    | some v =>
      let r := (s.setReg Reg.DBG_DATA v).busWrite .dbg a v
      if r.1 = 0 then r.2 else r.2.setBit Reg.DBG_STAT 20 true
  if s.bit Reg.DBG_CTL 21 then t.setReg Reg.DBG_ADDR (s.reg Reg.DBG_ADDR + 1#24) else t

/-- An access starts, and completes where nothing holds it. -/
def State.dbgStart (s : State) (w : Option Word) : State :=
  if s.dbgWaits then { s with dbg := { s.dbg with busy := some w } } else s.dbgBus w

/-- An access that was held completes once nothing holds it. -/
def State.dbgSettle (s : State) : State :=
  match s.dbg.busy with
  | some w => if s.dbgWaits then s else s.dbgBus w
  | none => s

/-! ## Transactions (R433, R434) -/

/-- The response to a transaction: 1 OK, 2 WAIT, 0 ERROR, with the data of a read. -/
def State.dbgReply (s : State) (resp : Nat) (data : Word) : State :=
  { s with dbg := { s.dbg with resp := some resp, data := data } }

/-- A write of DBG_CTL through the port (R432, R436, R438); a halt request makes source 111 pending (R239). -/
def State.wrDbgCtl (s : State) (v : Word) : State :=
  let s0 := (s.setBit Reg.DBG_CTL 21 (v.getLsbD 21)).setBit Reg.DBG_CTL 20 (v.getLsbD 20)
  let s1 := if fieldOf v 0 3 = 0 then s0 else s0.raise 111
  let s2 := ((s1.onCores v 3 State.runCore).onCores v 6 State.stepCore).onCores v 0 State.haltCore
  let s3 := if v.getLsbD 22 then s2.detach else s2
  if v.getLsbD 23 then s3.registerCause .system 128 true else s3

/-- What a transaction that is answered OK does with a register (R433, R435, R437). -/
def State.dbgAccess (s : State) (rd : Bool) (idx : Nat) (v : Word) : State :=
  let a := Base.DBG + idx
  if rd then
    if idx = 2 then s.dbgReply 1 s.rdDbgStat
    else if idx = 5 then
      match s.dbg.read with
      | some w => State.dbgReply { s with dbg := { s.dbg with read := none } } 1 w
      | none => (s.dbgStart none).dbgReply 2 0#24
    else if idx = 9 then
      match s.csel with
      | some c => s.dbgReply 1 ((s.core c).creg c (s.fld Reg.DBG_CSEL 8 6))
      | none => s
    else s.dbgReply 1 (s.reg a)
  else
    let s1 := s.dbgReply 1 s.dbg.data
    if idx = 1 then s1.wrDbgCtl v
    else if idx = 5 then State.dbgStart { s1 with dbg := { s1.dbg with read := none } } (some v)
    else if idx = 9 then
      match s.csel with
      | some c => s1.setCore c ((s1.core c).setCreg (s.fld Reg.DBG_CSEL 8 6) v)
      | none => s1
    else s1.storeReg a v

/-- The access to DBG_CREG is answered ERROR (R434, R437). -/
def State.cregError (s : State) : Bool :=
  match s.csel with
  | none => true
  | some c => ! (s.core c).dbgHalt || ! cregOk (s.fld Reg.DBG_CSEL 8 6)

/-- A header of good parity from an attached probe: its response by R434, and what the transaction does. dOk is the parity of a
write's data phase. -/
def State.dbgHeader (s0 : State) (rd : Bool) (idx : Nat) (v : Word) (dOk : Bool) : State :=
  let s := s0.dbgSettle
  if s.debugLocked && ! (rd && idx == 0) then ((s.raiseAsh 11).countAlert).dbgReply 0 0#24
  else if ! ([0, 1, 2, 4, 5, 8, 9] : List Nat).contains idx then s.dbgReply 0 0#24
  else if idx = 5 ∧ s.bit Reg.DBG_STAT 20 = true then s.dbgReply 0 0#24
  else if idx = 5 ∧ s.dbg.busy.isSome = true then s.dbgReply 2 0#24
  else if idx = 9 ∧ s.cregError = true then s.dbgReply 0 0#24
  else if ! rd && ! dOk then (s.dbgReply 1 s.dbg.data).setBit Reg.DBG_STAT 19 true
  else s.dbgAccess rd idx v

/-- A transaction of an attached probe; without an attach the port does not answer (R434). -/
def State.dbgPort (s : State) (rd : Bool) (idx : Nat) (v : Word) (dOk : Bool) : State :=
  if s.dbg.att then s.dbgHeader rd idx v dOk else { s with dbg := { s.dbg with resp := none } }

/-- The 12 bits of a header: start 0b01 and stop 0b11 (R433). -/
def headerFramed (h : BitVec 12) : Bool := h.toNat / 1024 == 1 && h.toNat % 4 == 3

/-- Even parity over bits 9:3 and bit 2 (R433). -/
def headerParity (h : BitVec 12) : Bool := ((List.range 8).filter fun i => h.getLsbD (i + 2)).length % 2 == 0

/-- DEBUG_TRANSACTION (R433, R434): a header, with the word of a write's data phase and its parity; a parity error of the header gets no
response and sets perr. -/
def execDebugTransaction (h : BitVec 12) (v : Word) (dOk : Bool) (s : State) : Host.Outcome State Fault Refusal :=
  if ! headerFramed h then .next s
  else if ! headerParity h then
    .next { (if s.dbg.att then s.setBit Reg.DBG_STAT 19 true else s) with dbg := { s.dbg with resp := none } }
  else .next (s.dbgPort (h.getLsbD 9) (h.toNat / 8 % 64) v dOk)

/-- DEBUG_BUS_READ (R435): a read of DBG_DATA. -/
def execDebugBusRead (s : State) : Host.Outcome State Fault Refusal := .next (s.dbgPort true 5 0#24 true)

/-- DEBUG_BUS_WRITE (R435): a write of DBG_DATA. -/
def execDebugBusWrite (v : Word) (s : State) : Host.Outcome State Fault Refusal := .next (s.dbgPort false 5 v true)

/-- A word for DBG_CTL: inc and wdf as they are, and action bits. -/
def State.ctlWord (s : State) (act : Nat) : Word := (s.reg Reg.DBG_CTL &&& 0x300000#24) ||| BitVec.ofNat 24 act

/-- DEBUG_DETACH (R432). -/
def execDebugDetach (s : State) : Host.Outcome State Fault Refusal := .next (s.dbgPort false 1 (s.ctlWord 0x400000) true)

/-- DEBUG_HALT (R436): the cores are LK, A0 and A1 from bit 0 up. -/
def execDebugHalt (cores : BitVec 3) (s : State) : Host.Outcome State Fault Refusal :=
  .next (s.dbgPort false 1 (s.ctlWord cores.toNat) true)

/-- DEBUG_RUN (R436). -/
def execDebugRun (cores : BitVec 3) (s : State) : Host.Outcome State Fault Refusal :=
  .next (s.dbgPort false 1 (s.ctlWord (cores.toNat * 8)) true)

/-- DEBUG_STEP (R436). -/
def execDebugStep (cores : BitVec 3) (s : State) : Host.Outcome State Fault Refusal :=
  .next (s.dbgPort false 1 (s.ctlWord (cores.toNat * 64)) true)

/-- DEBUG_RESET (R438). -/
def execDebugReset (s : State) : Host.Outcome State Fault Refusal := .next (s.dbgPort false 1 (s.ctlWord 0x800000) true)

/-- CORE_REGISTER_ACCESS (R437): a read or a write of DBG_CREG. -/
def execCoreRegisterAccess (rd : Bool) (v : Word) (s : State) : Host.Outcome State Fault Refusal := .next (s.dbgPort rd 9 v true)

end Sys2Proof.Machine
end

