-- ==== Sys2Proof/Machine/Service.lean ====
section
/-! DEFINITION. The commands of the host (R298 and the command set of chapter 17), served by the boot ROM in the safe commissioning
state and by the factory firmware otherwise. -/
namespace Sys2Proof.Machine

/-- A0 serves: the boot has ended and no reset is in progress. -/
def State.serves (s : State) : Bool := s.locked && s.sys.inReset.isNone && s.sys.power == .on

/-- A command of the host is open: its reply has not been acknowledged, or waits for the end of a DALI transmission. -/
def State.hostBusy (s : State) : Bool :=
  ! s.hl.wait.isEmpty || s.hl.dali.isSome || (match s.hl.tx with
    | some f => f.typ == 2
    | none => false)

/-- Safe commissioning state (R297). -/
def State.safe (s : State) : Bool := s.bit Reg.SYS_BOOTSTAT 15

/-- What is answered without running a command (R298): BUSY while the one before is open, and ILLEGAL for a code that the safe
commissioning state does not serve; none where the command is run. -/
def State.hostBars (s : State) (code : Nat) : Option Nat :=
  if s.hostBusy then some 3 else if s.safe && decide (8 < code) then some 7 else none

/-- A command with a host tag is served and answered: f gives its status, its data and its effect. -/
def State.serve (s : State) (code : Nat) (tag : BitVec 16) (f : State → Nat × List Word × State) : State :=
  if ! (s.serves && s.hlOn) then s
  else
    match s.hostBars code with
    | some st => s.reply code tag.toNat st []
    | none =>
      let r := f s
      r.2.2.reply code tag.toNat r.1 r.2.1

/-- Data whose layout is not given: a free number of free words. -/
def State.freeData (s : State) : Nat × List Word × State :=
  let n := s.drawFree
  let r := n.2.drawWords (n.1 % 255)
  (0, r.1, r.2)

/-! ## The commands of R298 -/

/-- Code 0x01. -/
def State.svcStatus (s : State) : Nat × List Word × State :=
  (0, s.memWords 0x200000 7 ++ [BitVec.ofNat 24 Config.siliconRevision.toNat, s.syncRp.reg Reg.RFE_RPSTAT], s)

/-- STATUS (R298): boot information words 0–6, SYS_REV and RFE_RPSTAT. -/
def execStatus (tag : BitVec 16) (s : State) : Host.Outcome State Fault Refusal := .next (s.serve 0x01 tag State.svcStatus)

/-- Code 0x02. -/
def State.svcNorRead (a n : Nat) (s : State) : Nat × List Word × State :=
  if n = 0 ∨ 255 < n ∨ 0x80000 < a + 3 * n then (7, [], s)
  else (0, (List.range n).map fun i => s.norWord (a + 3 * i), s.spimUsed)

/-- NOR_READ (R298). -/
def execNorRead (tag : BitVec 16) (addr n : Word) (s : State) : Host.Outcome State Fault Refusal :=
  .next (s.serve 0x02 tag (State.svcNorRead addr.toNat n.toNat))

/-- Code 0x03. -/
def State.svcNorErase (a : Nat) (s : State) : Nat × List Word × State :=
  if a % 4096 ≠ 0 ∨ 0x80000 ≤ a then (7, [], s)
  else (0, [], State.spimUsed { s with nor := WordMap.drop (fun k => k / 4096 == a / 4096) s.nor })

/-- NOR_ERASE (R298). -/
def execNorErase (tag : BitVec 16) (addr : Word) (s : State) : Host.Outcome State Fault Refusal :=
  .next (s.serve 0x03 tag (State.svcNorErase addr.toNat))

/-- Octets are programmed from an address: a program changes bits from 1 to 0 alone, as a NOR flash does. -/
def State.norProgram (s : State) (a : Nat) : List Nat → State
  | [] => s
  | o :: os =>
    State.norProgram { s with nor := WordMap.set (fun _ => 0xFF#24) s.nor a (s.norOctet a &&& BitVec.ofNat 24 (o % 256)) } (a + 1) os

/-- Code 0x04. -/
def State.svcNorWrite (a : Nat) (ws : List Word) (s : State) : Nat × List Word × State :=
  if ws.isEmpty ∨ 85 < ws.length ∨ 256 < a % 256 + 3 * ws.length ∨ 0x80000 < a + 3 * ws.length then (7, [], s)
  else (0, [], (s.norProgram a (octetsOf ws)).spimUsed)

/-- NOR_WRITE (R298). -/
def execNorWrite (tag : BitVec 16) (addr : Word) (ws : List Word) (s : State) : Host.Outcome State Fault Refusal :=
  .next (s.serve 0x04 tag (State.svcNorWrite addr.toNat ws))

/-- Code 0x05: an operation that runs is waited for, then the word is programmed. -/
def State.svcProfileWord (i : Nat) (v : Word) (s : State) : Nat × List Word × State :=
  if 29 < i then (7, [s.syncRp.reg Reg.RFE_RPSTAT], s)
  else
    let s1 := s.profileOp.setReg Reg.RFE_RPDATA v
    let s2 := (s1.wrRpctl (BitVec.ofNat 24 (0x974000 + i))).profileOp
    (0, [s2.syncRp.reg Reg.RFE_RPSTAT], s2)

/-- PROFILE_WORD (R298): one step of the locking procedure; the reply carries RFE_RPSTAT. -/
def execProfileWord (tag : BitVec 16) (idx v : Word) (s : State) : Host.Outcome State Fault Refusal :=
  .next (s.serve 0x05 tag (State.svcProfileWord idx.toNat v))

/-- Code 0x06. -/
def State.svcProfileLock (s : State) : Nat × List Word × State :=
  let s1 := (s.profileOp.wrRpctl 0x978000#24).profileOp
  (0, [s1.syncRp.reg Reg.RFE_RPSTAT], s1)

/-- PROFILE_LOCK (R298): the lock step; the reply carries RFE_RPSTAT. -/
def execProfileLock (tag : BitVec 16) (s : State) : Host.Outcome State Fault Refusal := .next (s.serve 0x06 tag State.svcProfileLock)

/-- The mailbox can be claimed by A0. -/
def State.ashFree (s : State) : Bool := s.ash.holder.isNone

/-- Code 0x07: a mailbox that another claim holds gives BUSY. -/
def State.svcAshlar (code : Nat) (ws : List Word) (s : State) : Nat × List Word × State :=
  if ! s.ashFree then (3, [], s)
  else
    let r := s.ashOnce .a0 code ws
    (r.1.1, r.1.2, r.2)

/-- ASHLAR (R298): a mailbox command, passed unchanged by A0; its response is returned. -/
def execAshlar (tag : BitVec 16) (code : Octet) (ws : List Word) (s : State) : Host.Outcome State Fault Refusal :=
  .next (s.serve 0x07 tag (State.svcAshlar code.toNat ws))

/-- RESET (R298): OK, then a system reset 1 ms later, by when the reply has gone to the host. -/
def execReset (tag : BitVec 16) (s : State) : Host.Outcome State Fault Refusal :=
  if ! (s.serves && s.hlOn) then .next s
  else
    match s.hostBars 0x08 with
    | some st => .next (s.reply 0x08 tag.toNat st [])
    | none =>
      let r := s.replyWords 0x08 tag.toNat 0 []
      let t := r.2.registerCause .system 32 false
      .next { t with hl := { t.hl with rsp := r.1 } }

/-! ## The commands of the factory firmware -/

/-- NODE_INFO: the layout of the reply is not given. -/
def execNodeInfo (tag : BitVec 16) (s : State) : Host.Outcome State Fault Refusal := .next (s.serve 0x10 tag State.freeData)

/-- NEIGHBOURS, from a given index: the layout of the summaries is not given. -/
def execNeighbours (tag : BitVec 16) (_first : Word) (s : State) : Host.Outcome State Fault Refusal :=
  .next (s.serve 0x11 tag State.freeData)

/-- COUNTERS: the layout of the reply is not given. -/
def execCounters (tag : BitVec 16) (s : State) : Host.Outcome State Fault Refusal := .next (s.serve 0x12 tag State.freeData)

/-- Every frame that waits for a decision is decided (R159). -/
def State.decideAll (s : State) : Nat → State
  | 0 => s
  | n + 1 => State.decideAll s.decideNext n

/-- Code 0x18: the frame is put into cells and handed to the Hopper with fwd = 1; a refused one is released (R166 to R168). -/
def State.svcMeshSend (os : List Nat) (s : State) : Nat × List Word × State :=
  let n := cellCount os.length
  if os.isEmpty ∨ 2043 < os.length then (7, [], s)
  else if s.hop.free.length < n + 64 then (3, [], s)
  else
    match s.takeCells n 2 with
    | some (c :: cs, s1) =>
      let s2 := (s1.storeRams (s1.cellAddr c + 18) (packOctets (os.take 330))).setCellOctets cs (os.drop 330)
      let bc := ((macHdr os).dst.map fun a => a.length == 2 && natOfLow a == 0xFFFF).getD false
      let f : HopFrame := { cells := c :: cs, olen := os.length }
      let s3 := (s2.setFcWord f 16 (BitVec.ofNat 24 (b2n bc * 2 ^ 14 + classOf os * 2 ^ 12 + os.length))).setFcWord f 17 0#24
      let s4 := s3.decideAll s3.hop.jobs.length
      let s5 := s4.wrEnq .a0 (BitVec.ofNat 24 (0x800000 + c))
      let s6 := s5.decideAll s5.hop.jobs.length
      let w := s6.latch .a0 Reg.HOP_ENQSTAT
      (0, [w], if s6.coreHolds c then s6.wrRelease (BitVec.ofNat 24 c) else s6)
    | _ => (3, [], s)

/-- MESH_SEND: the reply carries HOP_ENQSTAT (R167). -/
def execMeshSend (tag : BitVec 16) (os : List Octet) (s : State) : Host.Outcome State Fault Refusal :=
  .next (s.serve 0x18 tag (State.svcMeshSend (os.map (·.toNat))))

/-- Code 0x20: a DALI transmission by R411 of a forward frame that the spec does not give. -/
def State.svcLampSet (s : State) : Nat × List Word × State :=
  let f := s.drawFree
  let p := f.2.drawFree
  let t := p.2.drawFree
  let s1 := t.2.setReg Reg.DALI_TXD (BitVec.ofNat 24 (f.1 % 0x10000))
  let s2 := s1.freeBit.2.wrDaliTxctl (BitVec.ofNat 24 (0x800000 + t.1 % 2 * 2 ^ 21 + (1 + p.1 % 5) * 2 ^ 17)) s1.freeBit.1
  let r := s2.drawFree
  (r.1 % 256, [], r.2)

/-- LAMP_SET: level and fade through DALI. -/
def execLampSet (tag : BitVec 16) (_level _fade : Word) (s : State) : Host.Outcome State Fault Refusal :=
  .next (s.serve 0x20 tag State.svcLampSet)

/-- LAMP_GET: level, gear status and failures, in a layout that is not given. -/
def execLampGet (tag : BitVec 16) (s : State) : Host.Outcome State Fault Refusal := .next (s.serve 0x21 tag State.freeData)

/-- DALI_FRAME: one transmission by R411; the reply carries DALI_TXSTAT and goes when the transmission has ended. -/
def execDaliFrame (tag : BitVec 16) (frame ctl : Word) (busLow : Bool) (s : State) : Host.Outcome State Fault Refusal :=
  if ! (s.serves && s.hlOn) then .next s
  else
    match s.hostBars 0x22 with
    | some st => .next (s.reply 0x22 tag.toNat st [])
    | none =>
      let s1 := (s.storeReg Reg.DALI_TXD frame).wrDaliTxctl (withBit (withBit ctl 22 false) 23 true) busLow
      if s1.dali.tx.isSome && s.dali.tx.isNone then .next { s1 with hl := { s1.hl with dali := some tag.toNat } }
      else .next (s1.reply 0x22 tag.toNat 0 [s1.reg Reg.DALI_TXSTAT])

/-- ENERGY: D4i energy and diagnostics data, in a layout that is not given. -/
def execEnergy (tag : BitVec 16) (s : State) : Host.Outcome State Fault Refusal := .next (s.serve 0x23 tag State.freeData)

/-- Code 0x28. -/
def State.svcSchedGet (s : State) : Nat × List Word × State :=
  match s.hl.sched with
  | some ws => (0, ws, s)
  | none => s.freeData

/-- SCHED_GET: the lamp schedule, as it was last set. -/
def execSchedGet (tag : BitVec 16) (s : State) : Host.Outcome State Fault Refusal := .next (s.serve 0x28 tag State.svcSchedGet)

/-- Code 0x29: the token is verified as VERIFY_TOKEN does (R333). -/
def State.svcSchedSet (msg sig : List Word) (s : State) : Nat × List Word × State :=
  if ! s.ashFree then (3, [], s)
  else
    let r := s.ashVerify .a0 0x31 msg sig
    (r.1, [], if r.1 = 0 then { r.2 with hl := { r.2.hl with sched := some msg } } else r.2)

/-- SCHED_SET: a schedule under an owner-signed token. -/
def execSchedSet (tag : BitVec 16) (msg sig : List Word) (s : State) : Host.Outcome State Fault Refusal :=
  .next (s.serve 0x29 tag (State.svcSchedSet msg sig))

/-- Code 0x2A: the calendar is set by R394, or the set is refused. -/
def State.svcTimeSet (t0 t1 : Word) (sub : Nat) (s : State) : Nat × List Word × State :=
  let s1 := (s.storeReg Reg.RTC_SETT0 t0).storeReg Reg.RTC_SETT1 t1
  let s2 := s1.wrSetCtl (BitVec.ofNat 24 (0x800000 + sub))
  (if s2.rtc.set.isSome then 0 else 7, [], s2)

/-- TIME_SET: the RTC is set (R394). -/
def execTimeSet (tag : BitVec 16) (t0 t1 : Word) (sub : BitVec 15) (s : State) : Host.Outcome State Fault Refusal :=
  .next (s.serve 0x2A tag (State.svcTimeSet t0 t1 sub.toNat))

/-- Code 0x38. -/
def State.svcLogRead (first n : Nat) (s : State) : Nat × List Word × State :=
  if n = 0 ∨ 32 < n then (7, [], s)
  else (0, (List.range n).flatMap fun i => s.memWords (entryAddr (first + i)) 8, s)

/-- LOG_READ: 1–32 entries of the log, from a given index. -/
def execLogRead (tag : BitVec 16) (first n : Word) (s : State) : Host.Outcome State Fault Refusal :=
  .next (s.serve 0x38 tag (State.svcLogRead first.toNat n.toNat))

end Sys2Proof.Machine
end

