-- ==== Sys2Proof/Machine/Update.lean ====
section
/-! DEFINITION. The update service of the factory firmware (chapter 14, R357 to R361, R367): headers, blocks and the end of a transfer, from
its three sources 0 mesh, 1 host link, 2 twin link. -/
namespace Sys2Proof.Machine

/-- The service runs and can use flash and the mailbox. -/
def State.updRuns (s : State) : Bool :=
  s.serves && ! s.safe && s.nvm.prog.isNone && s.nvm.er.isNone && s.ashFree

/-- The source that owns the staging area (R360); none where none does. -/
def State.updOwner (s : State) : Option Nat :=
  if s.copyState = 0 ∨ s.copyState = 4 then none else some (fieldOf (s.mem1 0x280205) 0 2)

/-- Blocks staged of the open transfer: the service's count, or the journal's after a restart (R359). -/
def State.updCount (s : State) : Nat := s.upd.blocks.getD (s.mem1 0x280206).toNat

/-- The service's count changes. -/
def State.setUpdCount (s : State) (n : Option Nat) : State := { s with upd := { s.upd with blocks := n } }

/-- A source is answered (R367): the answer is recorded, and the host gets its reply. -/
def State.updAnswer (s : State) (src code : Nat) (tag : BitVec 16) (status : Nat) : State :=
  let s1 := { s with upd := { s.upd with answer := some (src, status, s.updCount) } }
  if src = 1 then s1.reply code tag.toNat status [BitVec.ofNat 24 s.updCount] else s1

/-- A final code is written to the copy journal, whose state stays (R367). -/
def State.updFinal (s : State) (status : Nat) : State := s.setCopyState s.copyState status

/-- The transfer is over, and the copy journal returns to IDLE with a status (R358, R360). -/
def State.updIdle (s : State) (status : Nat) : State := (s.setCopyState 0 status).setUpdCount none

/-- The checks of R357 on a header, in order: the status of the first that fails, and the state that the mailbox commands leave. -/
def State.updChecks (s : State) (h : List Word) : Nat × State :=
  let w2 := h.getD 2 0#24
  let owner := fieldOf w2 1 2 == 1
  if h.getD 0 0#24 ≠ 0xB9F1A5#24 then (0x40, s)
  else if ! headerOk h (some (s.reg Reg.SYS_A0ENT)) then (0x41, s)
  else
    let v := s.ashOnce .a0 0x13 [0#24]
    if (h.getD 3 0#24).toNat < (v.1.2.getD 22 0#24).toNat then (0x42, v.2)
    else if fieldOf w2 1 2 == 2 && ! s.ash.vnd then (0x45, v.2)
    else if ! boundOk h || (s.ash.bnd && ! w2.getLsbD 0) then (0x43, v.2)
    else if owner && s.ash.owner.isNone then (0x44, v.2)
    else if owner then
      let r := v.2.ashVerify .a0 0x12 (h.take 85) ((h.drop 85).take 171)
      (if r.1 = 0 then 0 else 9, r.2)
    else (0, v.2)

/-- The digest of a header that the copy journal records (R359). -/
def hdrDigest (h : List Word) : List Word := packOctets (sha512 (octetsOf (h.take 85)))

/-- A row of bank B is programmed, its sector erased first where the row begins it (R358); a flash failure leaves the row failing. -/
def State.stageRow (s : State) (row : Nat) (ws : List Word) (ok : Bool) : State :=
  let s1 := if row % 2048 = 0 then s.romErase (row / 2048) else s
  let s2 := s1.touchBank 1
  if ok then (s2.programRow row ws).nvmEnd 1 1 else (s2.spoilRow row).nvmEnd 0x42 1

/-- An accepted header is programmed and the transfer recorded (R358, R359, R361). -/
def State.updAccept (s : State) (src : Nat) (h : List Word) (ok : Bool) : Nat × State :=
  let s1 := (List.range 4).foldl (fun t i => t.stageRow (0x100000 + 64 * i) ((h.drop (64 * i)).take 64) (ok || i != 3)) s
  if ! ok then (0x48, s1.updIdle 0x48)
  else
    let n := (256 + (h.getD 4 0#24).toNat + 2047) / 2048
    let s2 := s1.romJournal 0x201 [BitVec.ofNat 24 n, 0#24, h.getD 3 0#24]
    let s3 := s2.romJournal 0x205 ([BitVec.ofNat 24 src, 0#24] ++ (h.drop 32).take 22 ++ hdrDigest h)
    (0, (s3.setCopyState 1 0).setUpdCount (some 0))

/-- A header that begins a transfer is checked and, where every check passes, taken (R357, R358, R360): a transfer that was open under
another header is abandoned. -/
def State.updBegin (s : State) (src : Nat) (h : List Word) (ok : Bool) : Nat × State :=
  let s0 := if s.copyState = 1 then s.updIdle 2 else s
  let c := s0.updChecks h
  if c.1 = 0 then c.2.updAccept src h ok else (c.1, c.2.updFinal c.1)

/-- A header from a source (R357, R359, R360). -/
def State.updHeader (s : State) (src : Nat) (h : List Word) (ok : Bool) : Nat × State :=
  match s.updOwner with
  | some o =>
    if o ≠ src then (3, s)
    else if s.copyState = 1 ∧ s.memWords 0x28021D 22 = hdrDigest h then (0, s.setUpdCount (some (s.mem1 0x280206).toNat))
    else s.updBegin src h ok
  | none => s.updBegin src h ok

/-- What the host is answered without the service being asked: none where it is, or where the source is not the host link. -/
def State.updBars (s : State) (src code : Nat) : Option Nat := if src = 1 then s.hostBars code else none

/-- A command of a source is served and answered. -/
def State.updServe (s : State) (src code : Nat) (tag : BitVec 16) (f : State → Nat × State) : State :=
  if src = 1 ∧ s.hlOn = false then s
  else if s.serves && (s.updBars src code).isSome then s.reply code tag.toNat ((s.updBars src code).getD 3) []
  else if ! s.updRuns then s
  else
    let r := f s
    r.2.updAnswer src code tag r.1

/-- UPD_HEADER (R357): the 256 words of a header from a source; ok is false where programming it ends with VERIFY. -/
def execUpdHeader (src : Fin 3) (tag : BitVec 16) (h : List Word) (ok : Bool) (s : State) : Host.Outcome State Fault Refusal :=
  .next (s.updServe src.val 0x30 tag fun t => t.updHeader src.val (h.take 256) ok)

/-- The blocks of a body of B words (R358). -/
def bodyBlocks (b : Nat) : Nat := (b + 63) / 64

/-- The image is whole (R358): VERIFY_IMAGE on bank B decides. -/
def State.updFinish (s : State) : Nat × State :=
  let v := s.ashOnce .a0 0x13 [1#24]
  match v.1.1 with
  | 0 => (1, ((v.2.romJournal 0x206 [BitVec.ofNat 24 v.2.updCount]).setCopyState 2 1).setUpdCount none)
  | 9 => (9, v.2.updIdle 9)
  | 4 => (0x45, v.2.updIdle 0x45)
  | 0x41 => (0x44, v.2.updIdle 0x44)
  | _ => (0x46, v.2.updIdle 0x46)

/-- A block that has been programmed is counted (R358, R359). -/
def State.updCounted (s : State) (k : Nat) : Nat × State :=
  let n := if k = s.updCount then k + 1 else s.updCount
  let s1 := s.setUpdCount (some n)
  let s2 := if n ≠ s.updCount ∧ n % 32 = 0 then s1.romJournal 0x206 [BitVec.ofNat 24 n] else s1
  if bodyBlocks (s.bodyLen 1) ≤ n then s2.updFinish else (0, s2)

/-- A block of a source (R358, R360): programmed as one row; a row that holds its words already is not programmed again. -/
def State.updBlock (s : State) (src k : Nat) (ws : List Word) (crcOk ok : Bool) : Nat × State :=
  let row := 0x100100 + 64 * k
  let bs := (List.range 64).map fun i => ws.getD i 0#24
  if s.copyState ≠ 1 ∨ s.updOwner ≠ some src ∨ bodyBlocks (s.bodyLen 1) ≤ k then (0x47, s)
  else if ! crcOk then (8, s.updFinal 8)
  else if s.memWords row 64 = bs ∧ s.rowOk row = true ∧ s.rowBlank row = false ∧ s.isHalf (row / 2048) = false then s.updCounted k
  else if ! ok || (row % 2048 != 0 && (! s.rowBlank row || s.isHalf (row / 2048))) || (row % 2048 == 0 && s.freeTicket.isNone) then
    (0x48, (if row % 2048 != 0 && ! s.rowBlank row then s else s.stageRow row bs false).updIdle 0x48)
  else (s.stageRow row bs true).updCounted k

/-- UPD_BLOCK (R358): block k of 64 words from a source; crcOk is false where its transport CRC-24 failed after 3 re-sends, ok is false where
programming it ends with VERIFY. -/
def execUpdBlock (src : Fin 3) (tag : BitVec 16) (k : Word) (ws : List Word) (crcOk ok : Bool) (s : State) :
    Host.Outcome State Fault Refusal :=
  .next (s.updServe src.val 0x31 tag fun t => t.updBlock src.val k.toNat ws crcOk ok)

/-- UPD_STATUS (R367): the last status in the copy journal. -/
def execUpdStatus (tag : BitVec 16) (s : State) : Host.Outcome State Fault Refusal :=
  .next (s.serve 0x32 tag fun t => (fieldOf (t.mem1 0x280200) 0 8, [BitVec.ofNat 24 t.updCount], t))

/-- UPD_ABANDON (R360): the host link abandons its own transfer. -/
def execUpdAbandon (tag : BitVec 16) (s : State) : Host.Outcome State Fault Refusal :=
  .next (s.updServe 1 0x33 tag fun t => if t.copyState = 1 ∧ t.updOwner = some 1 then (2, t.updIdle 2) else (0x47, t))

/-- TRANSFER_TIMEOUT (R360): no block has arrived for 10 minutes, and the open transfer is abandoned. -/
def execTransferTimeout (s : State) : Host.Outcome State Fault Refusal :=
  if s.serves && ! s.safe && s.copyState == 1 then .next (s.updIdle 2) else .next s

end Sys2Proof.Machine
end

