-- ==== Sys2Proof/Machine/Dispatch.lean ====
section
/-! DEFINITION. One arm for each command: a direct call of its meaning. -/
namespace Sys2Proof.Machine

def exec (i : Instr) (s : State) : Host.Outcome State Fault Refusal :=
  match i with
  | .registerWrite m a v => Sys2Proof.Machine.execRegisterWrite m a v s
  | .arbitrationRaise m => Sys2Proof.Machine.execArbitrationRaise m s
  | .semaphoreTake m n => Sys2Proof.Machine.execSemaphoreTake m n s
  | .semaphoreRelease m n v => Sys2Proof.Machine.execSemaphoreRelease m n v s
  | .systemResetRequest v => Sys2Proof.Machine.execSystemResetRequest v s
  | .applicationResetRequest v => Sys2Proof.Machine.execApplicationResetRequest v s
  | .linkResetRequest v => Sys2Proof.Machine.execLinkResetRequest v s
  | .resetPin => Sys2Proof.Machine.execResetPin s
  | .resetRelease compatHigh kekOk => Sys2Proof.Machine.execResetRelease compatHigh kekOk s
  | .watchdogKick v => Sys2Proof.Machine.execWatchdogKick v s
  | .watchdogEnable v => Sys2Proof.Machine.execWatchdogEnable v s
  | .watchdogTimeout => Sys2Proof.Machine.execWatchdogTimeout s
  | .powerUp resetNHigh compatHigh kekOk => Sys2Proof.Machine.execPowerUp resetNHigh compatHigh kekOk s
  | .brownOut => Sys2Proof.Machine.execBrownOut s
  | .vddWarning => Sys2Proof.Machine.execVddWarning s
  | .tbCnt0Read m => Sys2Proof.Machine.execTbCnt0Read m s
  | .slotWrap => Sys2Proof.Machine.execSlotWrap s
  | .slotLengthWrite v => Sys2Proof.Machine.execSlotLengthWrite v s
  | .phaseAdjustWrite v => Sys2Proof.Machine.execPhaseAdjustWrite v s
  | .slotPhaseStart v => Sys2Proof.Machine.execSlotPhaseStart v s
  | .preloadWrite n v => Sys2Proof.Machine.execPreloadWrite n v s
  | .armStage m v => Sys2Proof.Machine.execArmStage m v s
  | .armCommit m v => Sys2Proof.Machine.execArmCommit m v s
  | .disarmStage m v => Sys2Proof.Machine.execDisarmStage m v s
  | .disarmCommit m v => Sys2Proof.Machine.execDisarmCommit m v s
  | .absoluteValueStage m n top v => Sys2Proof.Machine.execAbsoluteValueStage m n top v s
  | .absoluteValueLoad m n v => Sys2Proof.Machine.execAbsoluteValueLoad m n v s
  | .slotCompareMatch n => Sys2Proof.Machine.execSlotCompareMatch n s
  | .absoluteCompareMatch n => Sys2Proof.Machine.execAbsoluteCompareMatch n s
  | .rateTrimCarry => Sys2Proof.Machine.execRateTrimCarry s
  | .eventDelivery => Sys2Proof.Machine.execEventDelivery s
  | .slotTickActed => Sys2Proof.Machine.execSlotTickActed s
  | .captureEdge n rising => Sys2Proof.Machine.execCaptureEdge n rising s
  | .captureRead m n => Sys2Proof.Machine.execCaptureRead m n s
  | .captureEnable n v level => Sys2Proof.Machine.execCaptureEnable n v level s
  | .wakeLeadReached n => Sys2Proof.Machine.execWakeLeadReached n s
  | .realignment edges => Sys2Proof.Machine.execRealignment edges s
  | .rtcCalStart v => Sys2Proof.Machine.execRtcCalStart v s
  | .rtcCalDone ticks => Sys2Proof.Machine.execRtcCalDone ticks s
  | .frontEndEnable v => Sys2Proof.Machine.execFrontEndEnable v s
  | .frontEndDisable v => Sys2Proof.Machine.execFrontEndDisable v s
  | .biasStartDone p1 => Sys2Proof.Machine.execBiasStartDone p1 s
  | .synthCalDone sy1 temp => Sys2Proof.Machine.execSynthCalDone sy1 temp s
  | .lockDetected sy1 rechecks => Sys2Proof.Machine.execLockDetected sy1 rechecks s
  | .lockTimeout sy1 => Sys2Proof.Machine.execLockTimeout sy1 s
  | .paRampDone => Sys2Proof.Machine.execPaRampDone s
  | .turnDone => Sys2Proof.Machine.execTurnDone s
  | .txFrameEnd => Sys2Proof.Machine.execTxFrameEnd s
  | .rxStop p1 => Sys2Proof.Machine.execRxStop p1 s
  | .grantStart temp => Sys2Proof.Machine.execGrantStart temp s
  | .bgcalStepDone temp => Sys2Proof.Machine.execBgcalStepDone temp s
  | .grantEnd => Sys2Proof.Machine.execGrantEnd s
  | .bgcalIntervalDue n => Sys2Proof.Machine.execBgcalIntervalDue n s
  | .directStop v => Sys2Proof.Machine.execDirectStop v s
  | .directTune v temp => Sys2Proof.Machine.execDirectTune v temp s
  | .directReceive v temp => Sys2Proof.Machine.execDirectReceive v temp s
  | .directTransmit v temp flen env => Sys2Proof.Machine.execDirectTransmit v temp flen env s
  | .directCw v temp env => Sys2Proof.Machine.execDirectCw v temp env s
  | .directCalibrate v => Sys2Proof.Machine.execDirectCalibrate v s
  | .heldCommandStart env => Sys2Proof.Machine.execHeldCommandStart env s
  | .dutySubwindowEnd => Sys2Proof.Machine.execDutySubwindowEnd s
  | .rpctlProgram v => Sys2Proof.Machine.execRpctlProgram v s
  | .rpctlLock v => Sys2Proof.Machine.execRpctlLock v s
  | .profileOpDone => Sys2Proof.Machine.execProfileOpDone s
  | .phyDisable v => Sys2Proof.Machine.execPhyDisable v s
  | .sequencerTxStart env => Sys2Proof.Machine.execSequencerTxStart env s
  | .receiveWindowOpen => Sys2Proof.Machine.execReceiveWindowOpen s
  | .preambleDetect chB powA powB => Sys2Proof.Machine.execPreambleDetect chB powA powB s
  | .preambleDeadline => Sys2Proof.Machine.execPreambleDeadline s
  | .syncDeadline => Sys2Proof.Machine.execSyncDeadline s
  | .syncWordMatch chB m => Sys2Proof.Machine.execSyncWordMatch chB m s
  | .headerReceived chB h => Sys2Proof.Machine.execHeaderReceived chB h s
  | .frameEnd chB psdu => Sys2Proof.Machine.execFrameEnd chB psdu s
  | .forwardingDecision => Sys2Proof.Machine.execForwardingDecision s
  | .ackTxStart env => Sys2Proof.Machine.execAckTxStart env s
  | .ackReceived psdu => Sys2Proof.Machine.execAckReceived psdu s
  | .ackWindowClose => Sys2Proof.Machine.execAckWindowClose s
  | .noframeDeadline => Sys2Proof.Machine.execNoframeDeadline s
  | .surveySampleDone chB powers => Sys2Proof.Machine.execSurveySampleDone chB powers s
  | .loadingStoreInit v => Sys2Proof.Machine.execLoadingStoreInit v s
  | .loadingStoreInitDone => Sys2Proof.Machine.execLoadingStoreInitDone s
  | .propose v => Sys2Proof.Machine.execPropose v s
  | .proposalWritten => Sys2Proof.Machine.execProposalWritten s
  | .asnRead m => Sys2Proof.Machine.execAsnRead m s
  | .asnSetRequest m v => Sys2Proof.Machine.execAsnSetRequest m v s
  | .hopListCommit m v => Sys2Proof.Machine.execHopListCommit m v s
  | .slotArm m v => Sys2Proof.Machine.execSlotArm m v s
  | .armDeadline => Sys2Proof.Machine.execArmDeadline s
  | .slotAbort m v => Sys2Proof.Machine.execSlotAbort m v s
  | .resultRead m => Sys2Proof.Machine.execResultRead m s
  | .timeSourceFailover => Sys2Proof.Machine.execTimeSourceFailover s
  | .coastEnter m v => Sys2Proof.Machine.execCoastEnter m v s
  | .bankSwitchRequest m v => Sys2Proof.Machine.execBankSwitchRequest m v s
  | .hopperEnable v => Sys2Proof.Machine.execHopperEnable v s
  | .deferExpired q => Sys2Proof.Machine.execDeferExpired q s
  | .cellAlloc m => Sys2Proof.Machine.execCellAlloc m s
  | .cellAllocReserve m => Sys2Proof.Machine.execCellAllocReserve m s
  | .enqueue m v => Sys2Proof.Machine.execEnqueue m v s
  | .dequeue m q => Sys2Proof.Machine.execDequeue m q s
  | .release v => Sys2Proof.Machine.execRelease v s
  | .queueFlush v => Sys2Proof.Machine.execQueueFlush v s
  | .queueBind v => Sys2Proof.Machine.execQueueBind v s
  | .queueUnbind v => Sys2Proof.Machine.execQueueUnbind v s
  | .add c d a b => Sys2Proof.Machine.execAdd c d a b s
  | .addc c d a b => Sys2Proof.Machine.execAddc c d a b s
  | .sub c d a b => Sys2Proof.Machine.execSub c d a b s
  | .subc c d a b => Sys2Proof.Machine.execSubc c d a b s
  | .adds c d a b => Sys2Proof.Machine.execAdds c d a b s
  | .subs c d a b => Sys2Proof.Machine.execSubs c d a b s
  | .and c d a b => Sys2Proof.Machine.execAnd c d a b s
  | .or c d a b => Sys2Proof.Machine.execOr c d a b s
  | .xor c d a b => Sys2Proof.Machine.execXor c d a b s
  | .andn c d a b => Sys2Proof.Machine.execAndn c d a b s
  | .min c d a b => Sys2Proof.Machine.execMin c d a b s
  | .max c d a b => Sys2Proof.Machine.execMax c d a b s
  | .minu c d a b => Sys2Proof.Machine.execMinu c d a b s
  | .maxu c d a b => Sys2Proof.Machine.execMaxu c d a b s
  | .shl c d a b => Sys2Proof.Machine.execShl c d a b s
  | .shr c d a b => Sys2Proof.Machine.execShr c d a b s
  | .sar c d a b => Sys2Proof.Machine.execSar c d a b s
  | .shls c d a b => Sys2Proof.Machine.execShls c d a b s
  | .shli c d a n => Sys2Proof.Machine.execShli c d a n s
  | .shri c d a n => Sys2Proof.Machine.execShri c d a n s
  | .sari c d a n => Sys2Proof.Machine.execSari c d a n s
  | .shlsi c d a n => Sys2Proof.Machine.execShlsi c d a n s
  | .mpy c d a b => Sys2Proof.Machine.execMpy c d a b s
  | .mpf c d a b => Sys2Proof.Machine.execMpf c d a b s
  | .mac c d a b => Sys2Proof.Machine.execMac c d a b s
  | .macf c d a b => Sys2Proof.Machine.execMacf c d a b s
  | .msu c d a b => Sys2Proof.Machine.execMsu c d a b s
  | .msuf c d a b => Sys2Proof.Machine.execMsuf c d a b s
  | .div c d a b => Sys2Proof.Machine.execDiv c d a b s
  | .divu c d a b => Sys2Proof.Machine.execDivu c d a b s
  | .aclr c d => Sys2Proof.Machine.execAclr c d s
  | .aadd c d a => Sys2Proof.Machine.execAadd c d a s
  | .asub c d a => Sys2Proof.Machine.execAsub c d a s
  | .ash c d n => Sys2Proof.Machine.execAsh c d n s
  | .mvgL c d a => Sys2Proof.Machine.execMvgL c d a s
  | .mvgH c d a => Sys2Proof.Machine.execMvgH c d a s
  | .mvgG c d a => Sys2Proof.Machine.execMvgG c d a s
  | .mvgI c d a => Sys2Proof.Machine.execMvgI c d a s
  | .mvgF c d a => Sys2Proof.Machine.execMvgF c d a s
  | .mvaL c d a => Sys2Proof.Machine.execMvaL c d a s
  | .mvaH c d a => Sys2Proof.Machine.execMvaH c d a s
  | .mvaG c d a => Sys2Proof.Machine.execMvaG c d a s
  | .mvaR c d a => Sys2Proof.Machine.execMvaR c d a s
  | .mov c d a => Sys2Proof.Machine.execMov c d a s
  | .not c d a => Sys2Proof.Machine.execNot c d a s
  | .neg c d a => Sys2Proof.Machine.execNeg c d a s
  | .negs c d a => Sys2Proof.Machine.execNegs c d a s
  | .abs c d a => Sys2Proof.Machine.execAbs c d a s
  | .clz c d a => Sys2Proof.Machine.execClz c d a s
  | .exo c d a b => Sys2Proof.Machine.execExo c d a b s
  | .ino c d a b => Sys2Proof.Machine.execIno c d a b s
  | .addi c d a imm => Sys2Proof.Machine.execAddi c d a imm s
  | .subi c d a imm => Sys2Proof.Machine.execSubi c d a imm s
  | .andi c d a imm => Sys2Proof.Machine.execAndi c d a imm s
  | .ori c d a imm => Sys2Proof.Machine.execOri c d a imm s
  | .xori c d a imm => Sys2Proof.Machine.execXori c d a imm s
  | .exoi c d a n => Sys2Proof.Machine.execExoi c d a n s
  | .inoi c d a n => Sys2Proof.Machine.execInoi c d a n s
  | .ldi c d imm => Sys2Proof.Machine.execLdi c d imm s
  | .ld c r a => Sys2Proof.Machine.execLd c r a s
  | .st c r a => Sys2Proof.Machine.execSt c r a s
  | .flashRead m a fetch failed => Sys2Proof.Machine.execFlashRead m a fetch failed s
  | .branch c cond t slots => Sys2Proof.Machine.execBranch c cond t slots s
  | .call c t slots => Sys2Proof.Machine.execCall c t slots s
  | .jr c a slots => Sys2Proof.Machine.execJr c a slots s
  | .calr c a slots => Sys2Proof.Machine.execCalr c a slots s
  | .reti c slots => Sys2Proof.Machine.execReti c slots s
  | .rpt c n x bad => Sys2Proof.Machine.execRpt c n x bad s
  | .nop c => Sys2Proof.Machine.execNop c s
  | .mfs c d sp => Sys2Proof.Machine.execMfs c d sp s
  | .mts c sp a => Sys2Proof.Machine.execMts c sp a s
  | .trap c n => Sys2Proof.Machine.execTrap c n s
  | .brk c => Sys2Proof.Machine.execBrk c s
  | .wfi c => Sys2Proof.Machine.execWfi c s
  | .wfiWake c => Sys2Proof.Machine.execWfiWake c s
  | .wst c => Sys2Proof.Machine.execWst c s
  | .wstResume c => Sys2Proof.Machine.execWstResume c s
  | .cpwait c => Sys2Proof.Machine.execCpwait c s
  | .cpwaitCollect c => Sys2Proof.Machine.execCpwaitCollect c s
  | .interruptAccept c => Sys2Proof.Machine.execInterruptAccept c s
  | .interruptEntry c => Sys2Proof.Machine.execInterruptEntry c s
  | .impreciseFault c => Sys2Proof.Machine.execImpreciseFault c s
  | .c0wr c r a => Sys2Proof.Machine.execC0wr c r a s
  | .c0rd c d r => Sys2Proof.Machine.execC0rd c d r s
  | .c0code c => Sys2Proof.Machine.execC0code c s
  | .c0codeDone c => Sys2Proof.Machine.execC0codeDone c s
  | .c0eval c => Sys2Proof.Machine.execC0eval c s
  | .c0cnt c d a => Sys2Proof.Machine.execC0cnt c d a s
  | .c0ext c d a b => Sys2Proof.Machine.execC0ext c d a b s
  | .c0dep c d a b => Sys2Proof.Machine.execC0dep c d a b s
  | .c0nsym c d a => Sys2Proof.Machine.execC0nsym c d a s
  | .c1crc c a => Sys2Proof.Machine.execC1crc c a s
  | .c1crco c a => Sys2Proof.Machine.execC1crco c a s
  | .c1rdc c d => Sys2Proof.Machine.execC1rdc c d s
  | .c1wrc c a => Sys2Proof.Machine.execC1wrc c a s
  | .c1ini c => Sys2Proof.Machine.execC1ini c s
  | .c1pn9 c d a => Sys2Proof.Machine.execC1pn9 c d a s
  | .c1pn9o c d a => Sys2Proof.Machine.execC1pn9o c d a s
  | .c1wrp c a => Sys2Proof.Machine.execC1wrp c a s
  | .c1rdp c d => Sys2Proof.Machine.execC1rdp c d s
  | .c1scr c d a => Sys2Proof.Machine.execC1scr c d a s
  | .c1wrs c a => Sys2Proof.Machine.execC1wrs c a s
  | .c1rds c d => Sys2Proof.Machine.execC1rds c d s
  | .cadd c d a b => Sys2Proof.Machine.execCadd c d a b s
  | .csub c d a b => Sys2Proof.Machine.execCsub c d a b s
  | .cconj c d a => Sys2Proof.Machine.execCconj c d a s
  | .cmul c d a b => Sys2Proof.Machine.execCmul c d a b s
  | .cmulc c d a b => Sys2Proof.Machine.execCmulc c d a b s
  | .crot c d a b => Sys2Proof.Machine.execCrot c d a b s
  | .cpwr c d a => Sys2Proof.Machine.execCpwr c d a s
  | .cmac c a b => Sys2Proof.Machine.execCmac c a b s
  | .cmacc c a b => Sys2Proof.Machine.execCmacc c a b s
  | .cclr c => Sys2Proof.Machine.execCclr c s
  | .crdr c d => Sys2Proof.Machine.execCrdr c d s
  | .crdi c d => Sys2Proof.Machine.execCrdi c d s
  | .crdrh c d => Sys2Proof.Machine.execCrdrh c d s
  | .crdrl c d => Sys2Proof.Machine.execCrdrl c d s
  | .crdih c d => Sys2Proof.Machine.execCrdih c d s
  | .crdil c d => Sys2Proof.Machine.execCrdil c d s
  | .cwrr c a b => Sys2Proof.Machine.execCwrr c a b s
  | .cwri c a b => Sys2Proof.Machine.execCwri c a b s
  | .c3 c d a b op => Sys2Proof.Machine.execC3 c d a b op s
  | .aditCommandSend => Sys2Proof.Machine.execAditCommandSend s
  | .aditResponse b0 b1 b2 => Sys2Proof.Machine.execAditResponse b0 b1 b2 s
  | .aditTimeout c tag => Sys2Proof.Machine.execAditTimeout c tag s
  | .aditDisable v => Sys2Proof.Machine.execAditDisable v s
  | .k1key imm a => Sys2Proof.Machine.execK1key imm a s
  | .k1kek => Sys2Proof.Machine.execK1kek s
  | .k1cfg a => Sys2Proof.Machine.execK1cfg a s
  | .k1clr => Sys2Proof.Machine.execK1clr s
  | .k1bw imm a => Sys2Proof.Machine.execK1bw imm a s
  | .k1br d imm => Sys2Proof.Machine.execK1br d imm s
  | .k1enc => Sys2Proof.Machine.execK1enc s
  | .k1dec => Sys2Proof.Machine.execK1dec s
  | .aesDone => Sys2Proof.Machine.execAesDone s
  | .k1hini => Sys2Proof.Machine.execK1hini s
  | .k1hw imm a => Sys2Proof.Machine.execK1hw imm a s
  | .k1hrun => Sys2Proof.Machine.execK1hrun s
  | .shaDone => Sys2Proof.Machine.execShaDone s
  | .k1hr d imm => Sys2Proof.Machine.execK1hr d imm s
  | .k1st d => Sys2Proof.Machine.execK1st d s
  | .k1rsa a b => Sys2Proof.Machine.execK1rsa a b s
  | .rsaDone => Sys2Proof.Machine.execRsaDone s
  | .k1rng d => Sys2Proof.Machine.execK1rng d s
  | .endOfInterrupt c v => Sys2Proof.Machine.execEndOfInterrupt c v s
  | .softwareInterrupt v => Sys2Proof.Machine.execSoftwareInterrupt v s
  | .sourceSettingsWrite n v => Sys2Proof.Machine.execSourceSettingsWrite n v s
  | .coalescingDisable u v => Sys2Proof.Machine.execCoalescingDisable u v s
  | .coalescingCountReached u => Sys2Proof.Machine.execCoalescingCountReached u s
  | .coalescingTimeExpiry u => Sys2Proof.Machine.execCoalescingTimeExpiry u s
  | .coalescingSlotExpiry u => Sys2Proof.Machine.execCoalescingSlotExpiry u s
  | .clockControlWrite v => Sys2Proof.Machine.execClockControlWrite v s
  | .sourceStable k => Sys2Proof.Machine.execSourceStable k s
  | .pllLock tpll => Sys2Proof.Machine.execPllLock tpll s
  | .clockSwitchComplete => Sys2Proof.Machine.execClockSwitchComplete s
  | .clockSwitchForced => Sys2Proof.Machine.execClockSwitchForced s
  | .dividerChange => Sys2Proof.Machine.execDividerChange s
  | .gateAccessTimeout m a => Sys2Proof.Machine.execGateAccessTimeout m a s
  | .clockFail k => Sys2Proof.Machine.execClockFail k s
  | .clockReturn k => Sys2Proof.Machine.execClockReturn k s
  | .safeRelease v => Sys2Proof.Machine.execSafeRelease v s
  | .deepSleepEntry abandoned => Sys2Proof.Machine.execDeepSleepEntry abandoned s
  | .deepSleepExit edges => Sys2Proof.Machine.execDeepSleepExit edges s
  | .exitReferenceTimeout => Sys2Proof.Machine.execExitReferenceTimeout s
  | .offRequest v => Sys2Proof.Machine.execOffRequest v s
  | .offEntry => Sys2Proof.Machine.execOffEntry s
  | .bootSequence bad verify retried xtal tcxo pll => Sys2Proof.Machine.execBootSequence bad verify retried xtal tcxo pll s
  | .applicationRestart verify retried => Sys2Proof.Machine.execApplicationRestart verify retried s
  | .linkRamLoad v => Sys2Proof.Machine.execLinkRamLoad v s
  | .a1Release v => Sys2Proof.Machine.execA1Release v s
  | .lkRelease v => Sys2Proof.Machine.execLkRelease v s
  | .status tag => Sys2Proof.Machine.execStatus tag s
  | .norRead tag addr n => Sys2Proof.Machine.execNorRead tag addr n s
  | .norErase tag addr => Sys2Proof.Machine.execNorErase tag addr s
  | .norWrite tag addr ws => Sys2Proof.Machine.execNorWrite tag addr ws s
  | .profileWord tag idx v => Sys2Proof.Machine.execProfileWord tag idx v s
  | .profileLock tag => Sys2Proof.Machine.execProfileLock tag s
  | .ashlar tag code ws => Sys2Proof.Machine.execAshlar tag code ws s
  | .reset tag => Sys2Proof.Machine.execReset tag s
  | .program m v => Sys2Proof.Machine.execProgram m v s
  | .programComplete ok => Sys2Proof.Machine.execProgramComplete ok s
  | .erase m v => Sys2Proof.Machine.execErase m v s
  | .erasePulseEnd => Sys2Proof.Machine.execErasePulseEnd s
  | .blankVerifyEnd blank => Sys2Proof.Machine.execBlankVerifyEnd blank s
  | .suspend m v late => Sys2Proof.Machine.execSuspend m v late s
  | .suspendStop => Sys2Proof.Machine.execSuspendStop s
  | .resume m v => Sys2Proof.Machine.execResume m v s
  | .flashBrownOut written => Sys2Proof.Machine.execFlashBrownOut written s
  | .journalWrite m v => Sys2Proof.Machine.execJournalWrite m v s
  | .journalIncrement m v => Sys2Proof.Machine.execJournalIncrement m v s
  | .calibrationWrite m v => Sys2Proof.Machine.execCalibrationWrite m v s
  | .journalWriteDone => Sys2Proof.Machine.execJournalWriteDone s
  | .mailboxClaim m => Sys2Proof.Machine.execMailboxClaim m s
  | .getInfo m len => Sys2Proof.Machine.execGetInfo m len s
  | .getCert m len => Sys2Proof.Machine.execGetCert m len s
  | .random m len => Sys2Proof.Machine.execRandom m len s
  | .hashStart m len => Sys2Proof.Machine.execHashStart m len s
  | .hashData m len => Sys2Proof.Machine.execHashData m len s
  | .verifyConfig m len => Sys2Proof.Machine.execVerifyConfig m len s
  | .verifyImage m len => Sys2Proof.Machine.execVerifyImage m len s
  | .commitBoot m len => Sys2Proof.Machine.execCommitBoot m len s
  | .applySec m len => Sys2Proof.Machine.execApplySec m len s
  | .registerOwner m len => Sys2Proof.Machine.execRegisterOwner m len s
  | .transferOwner m len => Sys2Proof.Machine.execTransferOwner m len s
  | .attest m len => Sys2Proof.Machine.execAttest m len s
  | .verifyToken m len => Sys2Proof.Machine.execVerifyToken m len s
  | .loadLinkKey m len => Sys2Proof.Machine.execLoadLinkKey m len s
  | .clearLinkKey m len => Sys2Proof.Machine.execClearLinkKey m len s
  | .fcntReserve m len => Sys2Proof.Machine.execFcntReserve m len s
  | .fcntRaise m len => Sys2Proof.Machine.execFcntRaise m len s
  | .debugChallenge m len => Sys2Proof.Machine.execDebugChallenge m len s
  | .debugUnlock m len => Sys2Proof.Machine.execDebugUnlock m len s
  | .mailboxResponse => Sys2Proof.Machine.execMailboxResponse s
  | .mailboxRelease m v past => Sys2Proof.Machine.execMailboxRelease m v past s
  | .withdraw m v past => Sys2Proof.Machine.execWithdraw m v past s
  | .glitch gap => Sys2Proof.Machine.execGlitch gap s
  | .temperatureAlarm => Sys2Proof.Machine.execTemperatureAlarm s
  | .healthTestFail => Sys2Proof.Machine.execHealthTestFail s
  | .healthRecovered => Sys2Proof.Machine.execHealthRecovered s
  | .updHeader src tag h ok => Sys2Proof.Machine.execUpdHeader src tag h ok s
  | .updBlock src tag k ws crcOk ok => Sys2Proof.Machine.execUpdBlock src tag k ws crcOk ok s
  | .updStatus tag => Sys2Proof.Machine.execUpdStatus tag s
  | .updAbandon tag => Sys2Proof.Machine.execUpdAbandon tag s
  | .transferTimeout => Sys2Proof.Machine.execTransferTimeout s
  | .twinLinkEnable v => Sys2Proof.Machine.execTwinLinkEnable v s
  | .commaReceived => Sys2Proof.Machine.execCommaReceived s
  | .linkUp trip => Sys2Proof.Machine.execLinkUp trip s
  | .commaTimeout => Sys2Proof.Machine.execCommaTimeout s
  | .latencyMeasure trip => Sys2Proof.Machine.execLatencyMeasure trip s
  | .blockSend => Sys2Proof.Machine.execBlockSend s
  | .blockAck seq => Sys2Proof.Machine.execBlockAck seq s
  | .blockNak seq full => Sys2Proof.Machine.execBlockNak seq full s
  | .blockAnswerTimeout => Sys2Proof.Machine.execBlockAnswerTimeout s
  | .ringFullRetry => Sys2Proof.Machine.execRingFullRetry s
  | .heartbeatReceived seq ws => Sys2Proof.Machine.execHeartbeatReceived seq ws s
  | .pageReceived seq a ws => Sys2Proof.Machine.execPageReceived seq a ws s
  | .stateReceived seq ws => Sys2Proof.Machine.execStateReceived seq ws s
  | .dataReceived seq ws => Sys2Proof.Machine.execDataReceived seq ws s
  | .handoverReceived seq w0 w1 => Sys2Proof.Machine.execHandoverReceived seq w0 w1 s
  | .dataSend v => Sys2Proof.Machine.execDataSend v s
  | .heartbeatMiss => Sys2Proof.Machine.execHeartbeatMiss s
  | .twFltAssert => Sys2Proof.Machine.execTwFltAssert s
  | .handoverStart v => Sys2Proof.Machine.execHandoverStart v s
  | .handoverDeadline => Sys2Proof.Machine.execHandoverDeadline s
  | .rtcSecond => Sys2Proof.Machine.execRtcSecond s
  | .rtcTrimCarry => Sys2Proof.Machine.execRtcTrimCarry s
  | .calendarFreeze m => Sys2Proof.Machine.execCalendarFreeze m s
  | .calendarRelease m => Sys2Proof.Machine.execCalendarRelease m s
  | .shadowStale m => Sys2Proof.Machine.execShadowStale m s
  | .calendarSetRequest v => Sys2Proof.Machine.execCalendarSetRequest v s
  | .calendarSet => Sys2Proof.Machine.execCalendarSet s
  | .alarmEnable n v => Sys2Proof.Machine.execAlarmEnable n v s
  | .alarmArm n => Sys2Proof.Machine.execAlarmArm n s
  | .alarmFire n => Sys2Proof.Machine.execAlarmFire n s
  | .backupSwitchOver => Sys2Proof.Machine.execBackupSwitchOver s
  | .backupSwitchBack => Sys2Proof.Machine.execBackupSwitchBack s
  | .rtcDomainLoss => Sys2Proof.Machine.execRtcDomainLoss s
  | .switchOverStampClear v => Sys2Proof.Machine.execSwitchOverStampClear v s
  | .lossClear v => Sys2Proof.Machine.execLossClear v s
  | .daliTransmit v busLow => Sys2Proof.Machine.execDaliTransmit v busLow s
  | .daliAbort v => Sys2Proof.Machine.execDaliAbort v s
  | .settlingDone => Sys2Proof.Machine.execSettlingDone s
  | .twiceTimeout => Sys2Proof.Machine.execTwiceTimeout s
  | .collision => Sys2Proof.Machine.execCollision s
  | .collisionBackoffEnd => Sys2Proof.Machine.execCollisionBackoffEnd s
  | .daliFrameSent => Sys2Proof.Machine.execDaliFrameSent s
  | .answerWindowClose frame => Sys2Proof.Machine.execAnswerWindowClose frame s
  | .daliFrameReceived edges => Sys2Proof.Machine.execDaliFrameReceived edges s
  | .daliRxRead m => Sys2Proof.Machine.execDaliRxRead m s
  | .busLowFault => Sys2Proof.Machine.execBusLowFault s
  | .daliHold v => Sys2Proof.Machine.execDaliHold v s
  | .pwmPeriodStart n => Sys2Proof.Machine.execPwmPeriodStart n s
  | .adcSequenceStart v => Sys2Proof.Machine.execAdcSequenceStart v s
  | .adcConversionDone raw => Sys2Proof.Machine.execAdcConversionDone raw s
  | .adcCalibrate v => Sys2Proof.Machine.execAdcCalibrate v s
  | .adcCalibrationDone sum0 sum1 => Sys2Proof.Machine.execAdcCalibrationDone sum0 sum1 s
  | .hlFrameReceived fs => Sys2Proof.Machine.execHlFrameReceived fs s
  | .hlAckReceived seq => Sys2Proof.Machine.execHlAckReceived seq s
  | .hlNakReceived seq reason => Sys2Proof.Machine.execHlNakReceived seq reason s
  | .hlAckTimeout => Sys2Proof.Machine.execHlAckTimeout s
  | .hlGapTimeout => Sys2Proof.Machine.execHlGapTimeout s
  | .hlCsnRise fromHost => Sys2Proof.Machine.execHlCsnRise fromHost s
  | .hlFrameStart => Sys2Proof.Machine.execHlFrameStart s
  | .hlTransmit v => Sys2Proof.Machine.execHlTransmit v s
  | .nodeInfo tag => Sys2Proof.Machine.execNodeInfo tag s
  | .neighbours tag first => Sys2Proof.Machine.execNeighbours tag first s
  | .counters tag => Sys2Proof.Machine.execCounters tag s
  | .meshSend tag os => Sys2Proof.Machine.execMeshSend tag os s
  | .lampSet tag level fade => Sys2Proof.Machine.execLampSet tag level fade s
  | .lampGet tag => Sys2Proof.Machine.execLampGet tag s
  | .daliFrame tag frame ctl busLow => Sys2Proof.Machine.execDaliFrame tag frame ctl busLow s
  | .energy tag => Sys2Proof.Machine.execEnergy tag s
  | .schedGet tag => Sys2Proof.Machine.execSchedGet tag s
  | .schedSet tag msg sig => Sys2Proof.Machine.execSchedSet tag msg sig s
  | .timeSet tag t0 t1 sub => Sys2Proof.Machine.execTimeSet tag t0 t1 sub s
  | .logRead tag first n => Sys2Proof.Machine.execLogRead tag first n s
  | .spimTransfer v => Sys2Proof.Machine.execSpimTransfer v s
  | .spimTransferDone os => Sys2Proof.Machine.execSpimTransferDone os s
  | .i2cTransfer v => Sys2Proof.Machine.execI2cTransfer v s
  | .i2cTransferDone how os => Sys2Proof.Machine.execI2cTransferDone how os s
  | .i2cTimeout stretch => Sys2Proof.Machine.execI2cTimeout stretch s
  | .gpioSet v => Sys2Proof.Machine.execGpioSet v s
  | .gpioClr v => Sys2Proof.Machine.execGpioClr v s
  | .gpioEdge n rising => Sys2Proof.Machine.execGpioEdge n rising s
  | .debugAttach => Sys2Proof.Machine.execDebugAttach s
  | .debugDetach => Sys2Proof.Machine.execDebugDetach s
  | .debugTransaction h v dOk => Sys2Proof.Machine.execDebugTransaction h v dOk s
  | .debugBusRead => Sys2Proof.Machine.execDebugBusRead s
  | .debugBusWrite v => Sys2Proof.Machine.execDebugBusWrite v s
  | .debugHalt cores => Sys2Proof.Machine.execDebugHalt cores s
  | .debugRun cores => Sys2Proof.Machine.execDebugRun cores s
  | .debugStep cores => Sys2Proof.Machine.execDebugStep cores s
  | .debugReset => Sys2Proof.Machine.execDebugReset s
  | .coreRegisterAccess rd v => Sys2Proof.Machine.execCoreRegisterAccess rd v s
  | .entryWrite => Sys2Proof.Machine.execEntryWrite s
  | .headRead m => Sys2Proof.Machine.execHeadRead m s
  | .firmwareEntry m v => Sys2Proof.Machine.execFirmwareEntry m v s
  | .flashBrownOutRelease => Sys2Proof.Machine.execFlashBrownOutRelease s
  | .vddWarningRelease => Sys2Proof.Machine.execVddWarningRelease s
  | .randomDataReady => Sys2Proof.Machine.execRandomDataReady s
  | .dieTemperatureReturn => Sys2Proof.Machine.execDieTemperatureReturn s
  | .badBlockReceived seq => Sys2Proof.Machine.execBadBlockReceived seq s

end Sys2Proof.Machine
end

