-- ==== Sys2Proof/Safety.lean ====
section
/-! DEFINITION. The terms in which claims are stated: the canonical form of what the part stores, a core at a boundary with nothing in
flight, and what an instruction that issues there leaves. -/
namespace Sys2Proof.Machine

/-- Every map of the state is in its canonical form: addresses strictly rising, and no entry equal to what an unlisted address reads
as. -/
abbrev State.Canon (s : State) : Prop :=
  WordMap.wf resetWord s.regs = true ∧ WordMap.wf (fun _ => 0#24) s.latches = true
    ∧ WordMap.wf (memUnlisted s.losses s.scraps) s.mem = true ∧ WordMap.wf (spareUnlisted s.scraps) s.nvm.spare = true
    ∧ WordMap.wf (fun _ => 0xFF#24) s.nor = true ∧ WordMap.wf (fun _ => 0#24) s.ash.ram = true

/-- A core stands at a boundary with nothing in flight, no halt asked of it, and no engine of it running. -/
abbrev State.settled (s : State) (c : CoreId) : Prop :=
  (s.core c).branch = none ∧ (s.core c).rptPc = none ∧ (s.core c).inflight = [] ∧ (s.core c).c0run = none
    ∧ (s.dbg.haltReq ||| s.dbg.step) &&& BitVec.ofNat 3 (2 ^ c.cid) = 0#3
    ∧ s.ash.eng.aes = none ∧ s.ash.eng.sha = none

/-- A settled core issues the instruction of len words at its pc: it runs, and the words can be fetched (R182, R197). -/
abbrev State.ready (s : State) (c : CoreId) (len : Nat) : Prop :=
  s.settled c ∧ s.canIssue c = true ∧ s.causeOf c len none = none

/-- A core after an instruction of len words that has issued (R176, R177, R182): gd written where it is given and is not g0, sr as
given, pc past the instruction, one cycle counted, and nothing else changed. -/
def CoreState.after (k : CoreState) (len : Nat) (d : Option (Fin 16 × Word)) (sr : Word) : CoreState :=
  { k with
    g := match d with
      | some (r, v) => if r = 0 then k.g else setAt v k.g r.val
      | none => k.g
    sr := sr, pc := nextAddr k.pc len, cyc := k.cyc + 1#24, issued := true }

/-- sr after the flags N, Z, C and V that are given (R178): V = 1 sets S with it, no repetition is in progress, every other bit is as it
was. -/
def srAfter (old new : Word) (n z c v : Option Bool) : Prop :=
  ∀ i, i < 24 → new.getLsbD i = match i with
    | 0 => v.getD (old.getLsbD 0)
    | 1 => c.getD (old.getLsbD 1)
    | 2 => z.getD (old.getLsbD 2)
    | 3 => n.getD (old.getLsbD 3)
    | 7 => old.getLsbD 7 || v == some true
    | 22 => false
    | _ => old.getLsbD i

/-- The next state in which a core has issued an instruction of len words that writes a value to gd and the flags given, and nothing else
in the part has changed. -/
def State.Wrote (s t : State) (c : CoreId) (len : Nat) (d : Fin 16) (r : Word) (n z cy v : Option Bool) : Prop :=
  ∃ sr, t = s.setCore c ((s.core c).after len (some (d, r)) sr) ∧ srAfter (s.core c).sr sr n z cy v

/-- N and Z of a result, with C and V. -/
def State.WroteNzcv (s t : State) (c : CoreId) (len : Nat) (d : Fin 16) (r : Word) (cy v : Bool) : Prop :=
  s.Wrote t c len d r (some r.msb) (some (decide (r = 0#24))) (some cy) (some v)

/-- N and Z of a result, with V. -/
def State.WroteNzv (s t : State) (c : CoreId) (len : Nat) (d : Fin 16) (r : Word) (v : Bool) : Prop :=
  s.Wrote t c len d r (some r.msb) (some (decide (r = 0#24))) none (some v)

/-- N and Z of a result. -/
def State.WroteNz (s t : State) (c : CoreId) (len : Nat) (d : Fin 16) (r : Word) : Prop :=
  s.Wrote t c len d r (some r.msb) (some (decide (r = 0#24))) none none

/-- A general register and no flag. -/
def State.WroteG (s t : State) (c : CoreId) (len : Nat) (d : Fin 16) (r : Word) : Prop :=
  s.Wrote t c len d r none none none none

/-- The next state in which a core has issued an instruction of one word that writes an accumulator, with S set where it overflows (R175),
and nothing else in the part has changed. -/
def State.WroteAcc (s t : State) (c : CoreId) (d : Fin 4) (r : Acc) (wrap : Bool) : Prop :=
  ∃ sr, t = s.setCore c { (s.core c).after 1 none sr with acc := setAt r (s.core c).acc d.val }
    ∧ ∀ i, i < 24 → sr.getLsbD i = match i with
      | 7 => (s.core c).sr.getLsbD 7 || wrap
      | 22 => false
      | _ => (s.core c).sr.getLsbD i

/-- The next state in which a core has issued and only its own record is another: k, with what the issue adds. -/
def State.Issued (s t : State) (c : CoreId) (len : Nat) (k : CoreState) : Prop :=
  t = s.setCore c (k.after len none (withBit (s.core c).sr 22 false))

/-- A state with the cycle counter of a core at a value. -/
def State.withCyc (s : State) (c : CoreId) (n : Word) : State := s.setCore c { s.core c with cyc := n }

/-- The results of an instruction come into view at distance d (R182, R184): in t it has issued, every register still reads as before it,
d - 1 more issue cycles are to pass, and once what is in flight has landed cyc has counted d cycles (R177) and the state is, with the
instruction's own cycle alone counted, one that p tells of. -/
def State.Lands (s t : State) (c : CoreId) (len d : Nat) (p : State → Prop) : Prop :=
  t = s.setCore c { (s.core c).after len none (withBit (s.core c).sr 22 false) with inflight := (t.core c).inflight }
    ∧ (t.core c).inflight ≠ [] ∧ (∀ f ∈ (t.core c).inflight, f.left + 1 = d)
    ∧ ((t.drain c).core c).cyc = (s.core c).cyc + BitVec.ofNat 24 d ∧ p ((t.drain c).withCyc c ((s.core c).cyc + 1#24))

/-- The next state in which a core has issued a division (R216): quotient q in gd, remainder r in the register after it, N, Z and V as
given, DZ set where dz is. -/
def State.WroteDiv (s t : State) (c : CoreId) (d : Fin 16) (q r : Word) (n z v dz : Bool) : Prop :=
  ∃ sr, srAfter (s.core c).sr sr (some n) (some z) none (some v)
    ∧ t = s.setCore c { (s.core c).after 1 (some (d, q)) (if dz then sr ||| 0x40#24 else sr) with
        g := setAt r ((s.core c).after 1 (some (d, q)) sr).g (d.val + 1) }

/-- An integer brought into int24 (R174). -/
def clamp24 (i : Int) : Word := BitVec.ofInt 24 (max (-8388608) (min 8388607 i))

/-- An integer lies outside int24. -/
def over24 (i : Int) : Bool := decide (i < -8388608 ∨ 8388607 < i)

/-- An integer lies outside acc56. -/
def over56 (i : Int) : Bool := decide (i < -36028797018963968 ∨ 36028797018963967 < i)

/-- The core finds the vector word of a vector in memory (R193): link RAM for LK, SRAM for A0 and A1, its own RAM for the Ashlar core. -/
abbrev State.vectorReads (s : State) (c : CoreId) (vec : Nat) : Prop :=
  let a := ((s.core c).ivb.toNat + vec) % 2 ^ 24
  vec < 256 ∧ ((c = .lk ∧ isLinkRam a = true) ∨ ((c = .a0 ∨ c = .a1) ∧ isSram a = true) ∨ (c = .ash ∧ isAshRam a = true))

/-- The waits in `wst` of a core whose handler is entered (R203): the newest has one more handler above it. -/
def deeper : List TickWait → List TickWait
  | w :: ws => { w with depth := w.depth + 1 } :: ws
  | [] => []

/-- The waits in `wst` of a core that returns from a handler to an address (R203): one that the return goes past has ended. -/
def returned (a : Word) : List TickWait → List TickWait
  | w :: ws => if w.depth ≤ 1 ∧ w.addr ≠ a then ws else { w with depth := w.depth - 1 } :: ws
  | [] => []

/-- The next state in which a core has entered the handler of a vector (R195): the resume address a in epc, sr in esr with bs delay slots
left, lc, or the iterations left of a repetition, in elc, the cause in ecause, the pending target in ebt where there is one, exl set, the
repetition ended, three cycles counted, pc at the address that the vector word holds, and nothing else changed but the priority that A0 or A1 had for
its read of it (R12). -/
def State.Entered (s t : State) (c : CoreId) (a : Word) (bs : Nat) (target : Option Word) (cause : Word) (vec : Nat) : Prop :=
  let k := s.core c
  let v := (k.ivb.toNat + vec) % 2 ^ 24
  let u := if c = .a0 ∨ c = .a1 then s.served c.master else s
  t = u.setCore c { k with
    epc := a, esr := withField k.sr 20 2 bs, elc := if k.rptPc.isSome then BitVec.ofNat 24 k.rptLeft else k.lc
    ecause := cause, ebt := target.getD k.ebt, cyc := k.cyc + 3#24, waits := deeper k.waits
    sr := withBit (withBit k.sr 23 true) 22 false, branch := none, rptPc := none, rptLeft := 0, rptFresh := false
    pc := if c = .ash then s.ashRam v else s.mem1 v, run := .run }

/-- What an addressing mode stands for (R179, R220): the words of the instruction, the address, and the base with its new value. -/
def addrMeans (k : CoreState) : Addr → Nat × Word × Option (Fin 16 × Word)
  | .offset b i => (1, k.gr b + i.signExtend 24, none)
  | .offsetExt b w => (2, k.gr b + w, none)
  | .postInc b => (1, k.gr b, some (b, k.gr b + 1#24))
  | .preDec b => (1, k.gr b - 1#24, some (b, k.gr b - 1#24))
  | .absolute w => (2, w, none)

/-- Whether a condition code holds of sr (R221). -/
def condTrue (cond : Nat) (sr : Word) : Bool :=
  let n := sr.getLsbD 3
  let z := sr.getLsbD 2
  let c := sr.getLsbD 1
  let v := sr.getLsbD 0
  [true, z, !z, n, !n, v, !v, c, !c, c && !z, !c || z, n == v, n != v, !z && n == v, z || n != v].getD cond false

/-- Where a branch or call goes (R222), and the words of it. -/
def targetMeans (pc : Word) : Target → Nat × Word
  | .rel d => (1, pc + d.signExtend 24)
  | .ext w => (2, w)

/-- The I part of a cplx12 (R174), in units of 2^-11. -/
def partI (w : Word) : Int := (w.extractLsb' 12 12).toInt

/-- The Q part. -/
def partQ (w : Word) : Int := (w.extractLsb' 0 12).toInt

/-- An integer brought into the range of a part (R230). -/
def clamp12 (i : Int) : Int := max (-2048) (min 2047 i)

/-- The next state in which a core has issued an operation that writes to gd the cplx12 of two integers, each brought into range. -/
def State.WroteC (s t : State) (c : CoreId) (d : Fin 16) (i q : Int) : Prop :=
  ∃ r, s.WroteG t c 1 d r ∧ partI r = clamp12 i ∧ partQ r = clamp12 q

/-- The next state in which a core has issued an operation of one word with gd written where it is given, and its coprocessors' registers are
those of k. -/
def State.WroteCp (s t : State) (c : CoreId) (d : Option (Fin 16 × Word)) (k : CoreState) : Prop :=
  t = s.setCore c (k.after 1 d (withBit (s.core c).sr 22 false))

/-- The next state in which the Ashlar core has issued an operation of its crypto engine that leaves the engine as e. -/
def State.WroteEng (s t : State) (e : CryptoEngine) : Prop :=
  t = { s with ash := { s.ash with eng := e }, ashc := s.ashc.after 1 none (withBit s.ashc.sr 22 false) }

/-- Only registers differ between two states, and of those only the ones listed. -/
def State.OnlyRegs (s t : State) (l : List Nat) : Prop :=
  t = { s with regs := t.regs } ∧ ∀ a, a ∉ l → t.reg a = s.reg a

/-- Every register but the ones listed is as it was. -/
def State.KeepsRegs (s t : State) (l : List Nat) : Prop := ∀ a, a ∉ l → t.reg a = s.reg a

/-- The registers that an interrupt source touches when it becomes pending: its word of INT_PEND, and the counts of the coalescing units
(R240, R247, R248). -/
def sourceRegs (n : Nat) : List Nat := Reg.INT_PEND (n / 24) :: (List.range 16).map Reg.INT_CU_STAT

/-- No flash operation and no journal operation is in progress. -/
abbrev State.nvmIdle (s : State) : Prop := s.nvm.prog = none ∧ s.nvm.er = none ∧ s.nvm.jops = []

/-- No reset is in progress. -/
abbrev State.outOfReset (s : State) : Prop := s.sys.inReset = none

/-- The part as a register command of a master finds it once its transfer has begun (R12, R15). -/
abbrev State.begun (s : State) (m : Master) : State := (s.served m).noteBus false

/-- Only registers and the outcome of the transfer differ between two states, and of the registers only the ones listed. -/
def State.OnlyBlockRegs (s t : State) (l : List Nat) : Prop := (s.noteBus false).OnlyRegs t l

/-- A command answers a next state with a property. -/
def Answers (i : Instr) (s : State) (p : State → Prop) : Prop := ∃ t, exec i s = .next t ∧ p t

end Sys2Proof.Machine
end

