-- ==== Sys2Proof/WellFormed.lean ====
section
/-! DEFINITION. Which commands are well formed: what the types of the operands do not say of the masters that may issue a command (R11) and of
the sizes of what a command brings. The meanings are total all the same. -/
namespace Sys2Proof
open Sys2Proof.Machine

/-- A master whose bus transfers reach peripheral space (R11, R17). -/
def reachesPeriph (m : Master) : Bool := m == .lk || m == .a0 || m == .a1 || m == .dbg

/-- A command is well formed. -/
def Instr.wellFormed : Instr → Bool
  | .registerWrite _ a _ => isPeriph a.toNat
  | .arbitrationRaise m => reachesPeriph m || m == .radio || m == .tw || m == .hl || m == .ash
  | .semaphoreTake m _ => reachesPeriph m
  | .semaphoreRelease m _ _ => reachesPeriph m
  | .tbCnt0Read m => reachesPeriph m
  | .armStage m _ => reachesPeriph m
  | .armCommit m _ => reachesPeriph m
  | .disarmStage m _ => reachesPeriph m
  | .disarmCommit m _ => reachesPeriph m
  | .absoluteValueStage m _ _ _ => reachesPeriph m
  | .absoluteValueLoad m _ _ => reachesPeriph m
  | .captureRead m _ => reachesPeriph m
  | .headerReceived _ h => decide (h.mac.length ≤ 2047)
  | .syncWordMatch _ m => decide (m.sigA.length ≤ 96) && decide (m.sigB.length ≤ 96)
  | .ackReceived psdu => decide (psdu.length ≤ 2047)
  | .surveySampleDone _ ps => decide (ps.length ≤ 24)
  | .frameEnd _ psdu => decide (psdu.length ≤ 2047)
  | .asnRead m => reachesPeriph m
  | .asnSetRequest m _ => reachesPeriph m
  | .hopListCommit m _ => reachesPeriph m
  | .slotArm m _ => reachesPeriph m
  | .slotAbort m _ => reachesPeriph m
  | .resultRead m => reachesPeriph m
  | .coastEnter m _ => reachesPeriph m
  | .bankSwitchRequest m _ => reachesPeriph m
  | .cellAlloc m => reachesPeriph m
  | .cellAllocReserve m => reachesPeriph m
  | .enqueue m _ => reachesPeriph m
  | .dequeue m _ => reachesPeriph m
  | .flashRead m a _ failed => decide (failed ≤ 4) && isFlash a.toNat && (reachesPeriph m || m == .ash)
  | .gateAccessTimeout m _ => reachesPeriph m || m == .radio || m == .tw || m == .hl || m == .ash
  | .bootSequence bad verify retried _ _ _ => bad.all (· < 512) && verify.all (· < 512) && retried.all (· < 512)
  | .applicationRestart verify retried => verify.all (· < 512) && retried.all (· < 512)
  | .norWrite _ _ ws => decide (ws.length ≤ 254)
  | .ashlar _ _ ws => decide (ws.length ≤ 512)
  | .program m _ => reachesPeriph m
  | .erase m _ => reachesPeriph m
  | .suspend m _ _ => reachesPeriph m
  | .resume m _ => reachesPeriph m
  | .journalWrite m _ => reachesPeriph m
  | .journalIncrement m _ => reachesPeriph m
  | .calibrationWrite m _ => reachesPeriph m
  | .mailboxClaim m => reachesPeriph m
  | .getInfo m _ => reachesPeriph m
  | .getCert m _ => reachesPeriph m
  | .random m _ => reachesPeriph m
  | .hashStart m _ => reachesPeriph m
  | .hashData m _ => reachesPeriph m
  | .verifyConfig m _ => reachesPeriph m
  | .verifyImage m _ => reachesPeriph m
  | .commitBoot m _ => reachesPeriph m
  | .applySec m _ => reachesPeriph m
  | .registerOwner m _ => reachesPeriph m
  | .transferOwner m _ => reachesPeriph m
  | .attest m _ => reachesPeriph m
  | .verifyToken m _ => reachesPeriph m
  | .loadLinkKey m _ => reachesPeriph m
  | .clearLinkKey m _ => reachesPeriph m
  | .fcntReserve m _ => reachesPeriph m
  | .fcntRaise m _ => reachesPeriph m
  | .debugChallenge m _ => reachesPeriph m
  | .debugUnlock m _ => reachesPeriph m
  | .mailboxRelease m _ _ => reachesPeriph m
  | .withdraw m _ _ => reachesPeriph m
  | .updHeader _ _ h _ => h.length == 256
  | .updBlock _ _ _ ws _ _ => ws.length == 64
  | .heartbeatReceived _ ws => decide (ws.length ≤ 256)
  | .pageReceived _ _ ws => ws.length == 64
  | .stateReceived _ ws => decide (ws.length ≤ 256)
  | .dataReceived _ ws => decide (ws.length ≤ 256)
  | .calendarFreeze m => reachesPeriph m
  | .calendarRelease m => reachesPeriph m
  | .shadowStale m => reachesPeriph m
  | .daliRxRead m => reachesPeriph m
  | .hlFrameReceived fs => decide (fs.length ≤ 513)
  | .meshSend _ os => decide (os.length ≤ 2043)
  | .schedSet _ _ sig => sig.length == 171
  | .spimTransferDone os => decide (os.length ≤ 192)
  | .i2cTransferDone _ os => decide (os.length ≤ 192)
  | .headRead m => reachesPeriph m
  | .firmwareEntry m _ => reachesPeriph m
  | .systemResetRequest _ => true
  | .applicationResetRequest _ => true
  | .linkResetRequest _ => true
  | .resetPin => true
  | .resetRelease _ _ => true
  | .watchdogKick _ => true
  | .watchdogEnable _ => true
  | .watchdogTimeout => true
  | .powerUp _ _ _ => true
  | .brownOut => true
  | .vddWarning => true
  | .slotWrap => true
  | .slotLengthWrite _ => true
  | .phaseAdjustWrite _ => true
  | .slotPhaseStart _ => true
  | .preloadWrite _ _ => true
  | .slotCompareMatch _ => true
  | .absoluteCompareMatch _ => true
  | .rateTrimCarry => true
  | .eventDelivery => true
  | .slotTickActed => true
  | .captureEdge _ _ => true
  | .captureEnable _ _ _ => true
  | .wakeLeadReached _ => true
  | .realignment _ => true
  | .rtcCalStart _ => true
  | .rtcCalDone _ => true
  | .frontEndEnable _ => true
  | .frontEndDisable _ => true
  | .biasStartDone _ => true
  | .synthCalDone _ _ => true
  | .lockDetected _ _ => true
  | .lockTimeout _ => true
  | .paRampDone => true
  | .turnDone => true
  | .txFrameEnd => true
  | .rxStop _ => true
  | .grantStart _ => true
  | .bgcalStepDone _ => true
  | .grantEnd => true
  | .bgcalIntervalDue _ => true
  | .directStop _ => true
  | .directTune _ _ => true
  | .directReceive _ _ => true
  | .directTransmit _ _ _ _ => true
  | .directCw _ _ _ => true
  | .directCalibrate _ => true
  | .heldCommandStart _ => true
  | .dutySubwindowEnd => true
  | .rpctlProgram _ => true
  | .rpctlLock _ => true
  | .profileOpDone => true
  | .phyDisable _ => true
  | .sequencerTxStart _ => true
  | .receiveWindowOpen => true
  | .preambleDetect _ _ _ => true
  | .preambleDeadline => true
  | .syncDeadline => true
  | .forwardingDecision => true
  | .ackTxStart _ => true
  | .ackWindowClose => true
  | .noframeDeadline => true
  | .loadingStoreInit _ => true
  | .loadingStoreInitDone => true
  | .propose _ => true
  | .proposalWritten => true
  | .armDeadline => true
  | .timeSourceFailover => true
  | .hopperEnable _ => true
  | .deferExpired _ => true
  | .release _ => true
  | .queueFlush _ => true
  | .queueBind _ => true
  | .queueUnbind _ => true
  | .add _ _ _ _ => true
  | .addc _ _ _ _ => true
  | .sub _ _ _ _ => true
  | .subc _ _ _ _ => true
  | .adds _ _ _ _ => true
  | .subs _ _ _ _ => true
  | .and _ _ _ _ => true
  | .or _ _ _ _ => true
  | .xor _ _ _ _ => true
  | .andn _ _ _ _ => true
  | .min _ _ _ _ => true
  | .max _ _ _ _ => true
  | .minu _ _ _ _ => true
  | .maxu _ _ _ _ => true
  | .shl _ _ _ _ => true
  | .shr _ _ _ _ => true
  | .sar _ _ _ _ => true
  | .shls _ _ _ _ => true
  | .shli _ _ _ _ => true
  | .shri _ _ _ _ => true
  | .sari _ _ _ _ => true
  | .shlsi _ _ _ _ => true
  | .mpy _ _ _ _ => true
  | .mpf _ _ _ _ => true
  | .mac _ _ _ _ => true
  | .macf _ _ _ _ => true
  | .msu _ _ _ _ => true
  | .msuf _ _ _ _ => true
  | .div _ _ _ _ => true
  | .divu _ _ _ _ => true
  | .aclr _ _ => true
  | .aadd _ _ _ => true
  | .asub _ _ _ => true
  | .ash _ _ _ => true
  | .mvgL _ _ _ => true
  | .mvgH _ _ _ => true
  | .mvgG _ _ _ => true
  | .mvgI _ _ _ => true
  | .mvgF _ _ _ => true
  | .mvaL _ _ _ => true
  | .mvaH _ _ _ => true
  | .mvaG _ _ _ => true
  | .mvaR _ _ _ => true
  | .mov _ _ _ => true
  | .not _ _ _ => true
  | .neg _ _ _ => true
  | .negs _ _ _ => true
  | .abs _ _ _ => true
  | .clz _ _ _ => true
  | .exo _ _ _ _ => true
  | .ino _ _ _ _ => true
  | .addi _ _ _ _ => true
  | .subi _ _ _ _ => true
  | .andi _ _ _ _ => true
  | .ori _ _ _ _ => true
  | .xori _ _ _ _ => true
  | .exoi _ _ _ _ => true
  | .inoi _ _ _ _ => true
  | .ldi _ _ _ => true
  | .ld _ _ _ => true
  | .st _ _ _ => true
  | .branch _ _ _ _ => true
  | .call _ _ _ => true
  | .jr _ _ _ => true
  | .calr _ _ _ => true
  | .reti _ _ => true
  | .rpt _ _ _ _ => true
  | .nop _ => true
  | .mfs _ _ _ => true
  | .mts _ _ _ => true
  | .trap _ _ => true
  | .brk _ => true
  | .wfi _ => true
  | .wfiWake _ => true
  | .wst _ => true
  | .wstResume _ => true
  | .cpwait _ => true
  | .cpwaitCollect _ => true
  | .interruptAccept _ => true
  | .interruptEntry _ => true
  | .impreciseFault _ => true
  | .c0wr _ _ _ => true
  | .c0rd _ _ _ => true
  | .c0code _ => true
  | .c0codeDone _ => true
  | .c0eval _ => true
  | .c0cnt _ _ _ => true
  | .c0ext _ _ _ _ => true
  | .c0dep _ _ _ _ => true
  | .c0nsym _ _ _ => true
  | .c1crc _ _ => true
  | .c1crco _ _ => true
  | .c1rdc _ _ => true
  | .c1wrc _ _ => true
  | .c1ini _ => true
  | .c1pn9 _ _ _ => true
  | .c1pn9o _ _ _ => true
  | .c1wrp _ _ => true
  | .c1rdp _ _ => true
  | .c1scr _ _ _ => true
  | .c1wrs _ _ => true
  | .c1rds _ _ => true
  | .cadd _ _ _ _ => true
  | .csub _ _ _ _ => true
  | .cconj _ _ _ => true
  | .cmul _ _ _ _ => true
  | .cmulc _ _ _ _ => true
  | .crot _ _ _ _ => true
  | .cpwr _ _ _ => true
  | .cmac _ _ _ => true
  | .cmacc _ _ _ => true
  | .cclr _ => true
  | .crdr _ _ => true
  | .crdi _ _ => true
  | .crdrh _ _ => true
  | .crdrl _ _ => true
  | .crdih _ _ => true
  | .crdil _ _ => true
  | .cwrr _ _ _ => true
  | .cwri _ _ _ => true
  | .c3 _ _ _ _ _ => true
  | .aditCommandSend => true
  | .aditResponse _ _ _ => true
  | .aditTimeout _ _ => true
  | .aditDisable _ => true
  | .k1key _ _ => true
  | .k1kek => true
  | .k1cfg _ => true
  | .k1clr => true
  | .k1bw _ _ => true
  | .k1br _ _ => true
  | .k1enc => true
  | .k1dec => true
  | .aesDone => true
  | .k1hini => true
  | .k1hw _ _ => true
  | .k1hrun => true
  | .shaDone => true
  | .k1hr _ _ => true
  | .k1st _ => true
  | .k1rsa _ _ => true
  | .rsaDone => true
  | .k1rng _ => true
  | .endOfInterrupt _ _ => true
  | .softwareInterrupt _ => true
  | .sourceSettingsWrite _ _ => true
  | .coalescingDisable _ _ => true
  | .coalescingCountReached _ => true
  | .coalescingTimeExpiry _ => true
  | .coalescingSlotExpiry _ => true
  | .clockControlWrite _ => true
  | .sourceStable _ => true
  | .pllLock _ => true
  | .clockSwitchComplete => true
  | .clockSwitchForced => true
  | .dividerChange => true
  | .clockFail _ => true
  | .clockReturn _ => true
  | .safeRelease _ => true
  | .deepSleepEntry _ => true
  | .deepSleepExit _ => true
  | .exitReferenceTimeout => true
  | .offRequest _ => true
  | .offEntry => true
  | .linkRamLoad _ => true
  | .a1Release _ => true
  | .lkRelease _ => true
  | .status _ => true
  | .norRead _ _ _ => true
  | .norErase _ _ => true
  | .profileWord _ _ _ => true
  | .profileLock _ => true
  | .reset _ => true
  | .programComplete _ => true
  | .erasePulseEnd => true
  | .blankVerifyEnd _ => true
  | .suspendStop => true
  | .flashBrownOut _ => true
  | .journalWriteDone => true
  | .mailboxResponse => true
  | .glitch _ => true
  | .temperatureAlarm => true
  | .healthTestFail => true
  | .healthRecovered => true
  | .updStatus _ => true
  | .updAbandon _ => true
  | .transferTimeout => true
  | .twinLinkEnable _ => true
  | .commaReceived => true
  | .linkUp _ => true
  | .commaTimeout => true
  | .latencyMeasure _ => true
  | .blockSend => true
  | .blockAck _ => true
  | .blockNak _ _ => true
  | .blockAnswerTimeout => true
  | .ringFullRetry => true
  | .handoverReceived _ _ _ => true
  | .dataSend _ => true
  | .heartbeatMiss => true
  | .twFltAssert => true
  | .handoverStart _ => true
  | .handoverDeadline => true
  | .rtcSecond => true
  | .rtcTrimCarry => true
  | .calendarSetRequest _ => true
  | .calendarSet => true
  | .alarmEnable _ _ => true
  | .alarmArm _ => true
  | .alarmFire _ => true
  | .backupSwitchOver => true
  | .backupSwitchBack => true
  | .rtcDomainLoss => true
  | .switchOverStampClear _ => true
  | .lossClear _ => true
  | .daliTransmit _ _ => true
  | .daliAbort _ => true
  | .settlingDone => true
  | .twiceTimeout => true
  | .collision => true
  | .collisionBackoffEnd => true
  | .daliFrameSent => true
  | .answerWindowClose _ => true
  | .daliFrameReceived _ => true
  | .busLowFault => true
  | .daliHold _ => true
  | .pwmPeriodStart _ => true
  | .adcSequenceStart _ => true
  | .adcConversionDone _ => true
  | .adcCalibrate _ => true
  | .adcCalibrationDone _ _ => true
  | .hlAckReceived _ => true
  | .hlNakReceived _ _ => true
  | .hlAckTimeout => true
  | .hlGapTimeout => true
  | .hlCsnRise _ => true
  | .hlFrameStart => true
  | .hlTransmit _ => true
  | .nodeInfo _ => true
  | .neighbours _ _ => true
  | .counters _ => true
  | .lampSet _ _ _ => true
  | .lampGet _ => true
  | .daliFrame _ _ _ _ => true
  | .energy _ => true
  | .schedGet _ => true
  | .timeSet _ _ _ _ => true
  | .logRead _ _ _ => true
  | .spimTransfer _ => true
  | .i2cTransfer _ => true
  | .i2cTimeout _ => true
  | .gpioSet _ => true
  | .gpioClr _ => true
  | .gpioEdge _ _ => true
  | .debugAttach => true
  | .debugDetach => true
  | .debugTransaction _ _ _ => true
  | .debugBusRead => true
  | .debugBusWrite _ => true
  | .debugHalt _ => true
  | .debugRun _ => true
  | .debugStep _ => true
  | .debugReset => true
  | .coreRegisterAccess _ _ => true
  | .entryWrite => true
  | .flashBrownOutRelease => true
  | .vddWarningRelease => true
  | .randomDataReady => true
  | .dieTemperatureReturn => true
  | .badBlockReceived _ => true

end Sys2Proof
end

