-- ==== Sys2Proof/Certificates/Slice0/Obligations.lean ====
section
/-! DEFINITION. The statements for the provers: one definition each, with the rules of the spec that it says in its docstring. -/
section
open Sys2Proof Sys2Proof.Machine

/-! ## The integer instructions (R174 to R178, R181, R190 to R192, R214 to R219) -/

/-- R178, R214: on a core with nothing in flight, every ALU instruction completes with its result in gd and its flags, at distance 1. R190, R215: the shifts, by the low 6 bits of gb or by the count of the instruction. -/
def Obligations.AluAndShiftResults : Prop :=
  (
  ∀ (s : State) (c : CoreId) (d a b : Fin 16), s.ready c 1 →
    let x := (s.core c).gr a
    let y := (s.core c).gr b
    let cy := (s.core c).sr.getLsbD 1
    Answers (.add c d a b) s (fun t => s.WroteNzcv t c 1 d (x + y) (decide (2 ^ 24 ≤ x.toNat + y.toNat)) (over24 (x.toInt + y.toInt)))
    ∧ Answers (.addc c d a b) s (fun t => s.WroteNzcv t c 1 d (x + y + BitVec.ofNat 24 cy.toNat)
        (decide (2 ^ 24 ≤ x.toNat + y.toNat + cy.toNat)) (over24 (x.toInt + y.toInt + cy.toNat)))
    ∧ Answers (.sub c d a b) s (fun t => s.WroteNzcv t c 1 d (x - y) (decide (y.toNat ≤ x.toNat)) (over24 (x.toInt - y.toInt)))
    ∧ Answers (.subc c d a b) s (fun t => s.WroteNzcv t c 1 d (x - y - BitVec.ofNat 24 (1 - cy.toNat))
        (decide (y.toNat + (1 - cy.toNat) ≤ x.toNat)) (over24 (x.toInt - y.toInt - 1 + cy.toNat)))
    ∧ Answers (.adds c d a b) s (fun t => s.WroteNzv t c 1 d (clamp24 (x.toInt + y.toInt)) (over24 (x.toInt + y.toInt)))
    ∧ Answers (.subs c d a b) s (fun t => s.WroteNzv t c 1 d (clamp24 (x.toInt - y.toInt)) (over24 (x.toInt - y.toInt)))
    ∧ Answers (.and c d a b) s (fun t => s.WroteNz t c 1 d (x &&& y))
    ∧ Answers (.or c d a b) s (fun t => s.WroteNz t c 1 d (x ||| y))
    ∧ Answers (.xor c d a b) s (fun t => s.WroteNz t c 1 d (x ^^^ y))
    ∧ Answers (.andn c d a b) s (fun t => s.WroteNz t c 1 d (x &&& ~~~ y))
    ∧ Answers (.min c d a b) s (fun t => s.WroteNz t c 1 d (if x.toInt < y.toInt then x else y))
    ∧ Answers (.max c d a b) s (fun t => s.WroteNz t c 1 d (if x.toInt < y.toInt then y else x))
    ∧ Answers (.minu c d a b) s (fun t => s.WroteNz t c 1 d (if x.toNat < y.toNat then x else y))
    ∧ Answers (.maxu c d a b) s (fun t => s.WroteNz t c 1 d (if x.toNat < y.toNat then y else x)))
  ∧ (
  ∀ (s : State) (c : CoreId) (d a b : Fin 16) (n : BitVec 6), s.ready c 1 →
    let x := (s.core c).gr a
    let k := ((s.core c).gr b).toNat % 64
    Answers (.shl c d a b) s (fun t => s.WroteNz t c 1 d (x <<< k))
    ∧ Answers (.shr c d a b) s (fun t => s.WroteNz t c 1 d (x >>> k))
    ∧ Answers (.sar c d a b) s (fun t => s.WroteNz t c 1 d (x.sshiftRight k))
    ∧ Answers (.shls c d a b) s (fun t => s.WroteNzv t c 1 d (clamp24 (x.toInt * 2 ^ k)) (over24 (x.toInt * 2 ^ k)))
    ∧ Answers (.shli c d a n) s (fun t => s.WroteNz t c 1 d (x <<< n.toNat))
    ∧ Answers (.shri c d a n) s (fun t => s.WroteNz t c 1 d (x >>> n.toNat))
    ∧ Answers (.sari c d a n) s (fun t => s.WroteNz t c 1 d (x.sshiftRight n.toNat))
    ∧ Answers (.shlsi c d a n) s (fun t => s.WroteNzv t c 1 d (clamp24 (x.toInt * 2 ^ n.toNat)) (over24 (x.toInt * 2 ^ n.toNat))))

/-- R181, R218, R219: moves, octets and immediates; an immediate is extended as its instruction says, or is the extension word, which adds
one to the instruction's length. R190, R192, R216: a division by an even d; quotient and remainder come into view with the flags at distance 4, DZ sets where the
divisor is 0. -/
def Obligations.MovesAndDivisions : Prop :=
  (
  ∀ (s : State) (c : CoreId) (d a b : Fin 16),
    let x := (s.core c).gr a
    let k := ((s.core c).gr b).toNat % 4
    (s.ready c 1 →
      Answers (.mov c d a) s (fun t => s.WroteG t c 1 d x)
      ∧ Answers (.not c d a) s (fun t => s.WroteNz t c 1 d (~~~ x))
      ∧ Answers (.neg c d a) s (fun t => s.WroteNzcv t c 1 d (- x) (decide (x = 0#24)) (decide (x = 0x800000#24)))
      ∧ Answers (.negs c d a) s (fun t => s.WroteNzv t c 1 d (clamp24 (- x.toInt)) (decide (x = 0x800000#24)))
      ∧ Answers (.abs c d a) s (fun t => s.WroteNzv t c 1 d (if x.msb then - x else x) (decide (x = 0x800000#24)))
      ∧ Answers (.clz c d a) s (fun t => ∃ n, n ≤ 24 ∧ x.toNat < 2 ^ (24 - n) ∧ (n < 24 → 2 ^ (23 - n) ≤ x.toNat)
          ∧ s.WroteNz t c 1 d (BitVec.ofNat 24 n))
      ∧ Answers (.exo c d a b) s (fun t => s.WroteG t c 1 d (if k = 3 then 0#24 else x >>> (16 - 8 * k) &&& 0xFF#24))
      ∧ Answers (.ino c d a b) s (fun t => s.WroteG t c 1 d (if k = 3 then (s.core c).gr d
          else ((s.core c).gr d &&& ~~~ (0xFF#24 <<< (16 - 8 * k))) ||| ((x &&& 0xFF#24) <<< (16 - 8 * k))))
      ∧ ∀ n : BitVec 2, n ≠ 3#2 →
        Answers (.exoi c d a n) s (fun t => s.WroteG t c 1 d (x >>> (16 - 8 * n.toNat) &&& 0xFF#24))
        ∧ Answers (.inoi c d a n) s (fun t => s.WroteG t c 1 d
            (((s.core c).gr d &&& ~~~ (0xFF#24 <<< (16 - 8 * n.toNat))) ||| ((x &&& 0xFF#24) <<< (16 - 8 * n.toNat)))))
    ∧ (∀ (i : Imm9) (len : Nat) (v u : Word), (match i with
          | .short j => len = 1 ∧ v = j.signExtend 24 ∧ u = j.zeroExtend 24
          | .ext w => len = 2 ∧ v = w ∧ u = w) → s.ready c len →
        Answers (.addi c d a i) s (fun t => s.WroteNzcv t c len d (x + v) (decide (2 ^ 24 ≤ x.toNat + v.toNat)) (over24 (x.toInt + v.toInt)))
        ∧ Answers (.subi c d a i) s (fun t => s.WroteNzcv t c len d (x - v) (decide (v.toNat ≤ x.toNat)) (over24 (x.toInt - v.toInt)))
        ∧ Answers (.andi c d a i) s (fun t => s.WroteNz t c len d (x &&& u))
        ∧ Answers (.ori c d a i) s (fun t => s.WroteNz t c len d (x ||| u))
        ∧ Answers (.xori c d a i) s (fun t => s.WroteNz t c len d (x ^^^ u)))
    ∧ ∀ (i : Imm13) (len : Nat) (v : Word), (match i with
          | .short j => len = 1 ∧ v = j.signExtend 24
          | .ext w => len = 2 ∧ v = w) → s.ready c len →
        Answers (.ldi c d i) s (fun t => s.WroteG t c len d v))
  ∧ (
  ∀ (s : State) (c : CoreId) (d a b : Fin 16), s.ready c 1 → d.val % 2 = 0 →
    let x := (s.core c).gr a
    let y := (s.core c).gr b
    (y ≠ 0#24 ∨ (s.core c).sr.getLsbD 19 = false) →
    Answers (.div c d a b) s (fun t => s.Lands t c 1 4 fun u =>
        if y = 0#24 then
          s.WroteDiv u c d (if x.toInt < 0 then 0x800000#24 else 0x7FFFFF#24) x (decide (x.toInt < 0)) false false true
        else
          let q := clamp24 (x.toInt.tdiv y.toInt)
          s.WroteDiv u c d q (BitVec.ofInt 24 (x.toInt.tmod y.toInt)) q.msb (decide (q = 0#24)) (over24 (x.toInt.tdiv y.toInt)) false)
    ∧ Answers (.divu c d a b) s (fun t => s.Lands t c 1 4 fun u =>
        if y = 0#24 then s.WroteDiv u c d 0xFFFFFF#24 x false false false true
        else s.WroteDiv u c d (x / y) (x % y) false (decide (x / y = 0#24)) false false))

/-- R175, R216, R217: multiplication and the accumulators; a result is the exact one modulo 2^56, S sets where the exact one lies outside
acc56, a multiplication comes into view at distance 3, the others at distance 1. R191, R217: the moves from an accumulator, which come into view at distance 2; `mva.r` rounds halves upwards and saturates, with V. -/
def Obligations.Accumulators : Prop :=
  (
  ∀ (s : State) (c : CoreId) (d e : Fin 4) (a b : Fin 16) (n : BitVec 6), s.ready c 1 →
    let x := ((s.core c).gr a).toInt
    let y := ((s.core c).gr b).toInt
    let p := ((s.core c).ar d).toInt
    let q := ((s.core c).ar e).toInt
    let acc := fun (i : Int) (t : State) => s.WroteAcc t c d (BitVec.ofInt 56 i) (over56 i)
    let part := fun (lo len : Nat) (t : State) => ∃ r : Acc, s.WroteAcc t c d r false ∧
      ∀ i, i < 56 → r.getLsbD i = if lo ≤ i ∧ i < lo + len then ((s.core c).gr a).getLsbD (i - lo) else ((s.core c).ar d).getLsbD i
    Answers (.mpy c d a b) s (fun t => s.Lands t c 1 3 (acc (x * y)))
    ∧ Answers (.mpf c d a b) s (fun t => s.Lands t c 1 3 (acc (2 * x * y)))
    ∧ Answers (.mac c d a b) s (fun t => s.Lands t c 1 3 (acc (p + x * y)))
    ∧ Answers (.macf c d a b) s (fun t => s.Lands t c 1 3 (acc (p + 2 * x * y)))
    ∧ Answers (.msu c d a b) s (fun t => s.Lands t c 1 3 (acc (p - x * y)))
    ∧ Answers (.msuf c d a b) s (fun t => s.Lands t c 1 3 (acc (p - 2 * x * y)))
    ∧ Answers (.aclr c d) s (acc 0)
    ∧ Answers (.aadd c d e) s (acc (p + q))
    ∧ Answers (.asub c d e) s (acc (p - q))
    ∧ Answers (.ash c d n) s (fun t => s.WroteAcc t c d
        (if 0 ≤ n.toInt then (s.core c).ar d <<< n.toInt.toNat else ((s.core c).ar d).sshiftRight (- n.toInt).toNat) false)
    ∧ Answers (.mvgL c d a) s (part 0 24)
    ∧ Answers (.mvgH c d a) s (part 24 24)
    ∧ Answers (.mvgG c d a) s (part 48 8)
    ∧ Answers (.mvgI c d a) s (fun t => s.WroteAcc t c d (((s.core c).gr a).signExtend 56) false)
    ∧ Answers (.mvgF c d a) s (fun t => s.WroteAcc t c d (((s.core c).gr a).signExtend 56 <<< 24) false))
  ∧ (
  ∀ (s : State) (c : CoreId) (d : Fin 16) (a : Fin 4), s.ready c 1 →
    let x := (s.core c).ar a
    let r := (x.toInt + 2 ^ 23) / 2 ^ 24
    Answers (.mvaL c d a) s (fun t => s.Lands t c 1 2 fun u => s.WroteG u c 1 d (x.extractLsb' 0 24))
    ∧ Answers (.mvaH c d a) s (fun t => s.Lands t c 1 2 fun u => s.WroteG u c 1 d (x.extractLsb' 24 24))
    ∧ Answers (.mvaG c d a) s (fun t => s.Lands t c 1 2 fun u => s.WroteG u c 1 d ((x.extractLsb' 48 8).zeroExtend 24))
    ∧ Answers (.mvaR c d a) s (fun t => s.Lands t c 1 2 fun u =>
        s.Wrote u c 1 d (clamp24 r) none none none (some (decide (x.toInt < -(2 ^ 47) ∨ 2 ^ 23 ≤ r)))))

/-! ## Loads, stores, branches and the repeat prefix (R179, R180, R184 to R189, R199, R220 to R222) -/

/-- R179, R180, R184, R220: a load from SRAM brings its word to the register at distance 3; a store to SRAM puts its register's word there, and
every other word of memory is as it was; the base is updated at distance 1, and no flag changes; the same for the Ashlar core and its RAM (R323). R15, R199: an access of LK, A0 or A1 to an address that its data port does not reach fails: a load brings 0, a store leaves memory as it was, and
BUS_ERR waits for the boundary with the address and the instruction. -/
def Obligations.LoadsAndStores : Prop :=
  (
  ∀ (s : State) (c : CoreId) (r : Fin 16) (a : Addr),
    let k := s.core c
    let m := addrMeans k a
    s.ready c m.1 → c ≠ .ash → isSram m.2.1.toNat = true →
    Answers (.ld c r a) s (fun t => t = (s.served c.master).setCore c { k.after m.1 m.2.2 (withBit k.sr 22 false) with
        inflight := [{ left := 2, w := .g r.val (s.mem1 m.2.1.toNat) }] })
    ∧ Answers (.st c r a) s (fun t =>
        t = { (s.served c.master).setCore c (k.after m.1 m.2.2 (withBit k.sr 22 false)) with mem := t.mem, dirty := t.dirty }
        ∧ ∀ x, t.mem1 x = if x = m.2.1.toNat then k.gr r else s.mem1 x))
  ∧ (
  ∀ (s : State) (c : CoreId) (r : Fin 16) (a : Addr),
    let k := s.core c
    let m := addrMeans k a
    s.ready c m.1 → c ≠ .ash → isFlash m.2.1.toNat = false → canRead c.master m.2.1.toNat = false →
    Answers (.ld c r a) s (fun t => t = (s.served c.master).setCore c { k.after m.1 m.2.2 (withBit k.sr 22 false) with
        inflight := [{ left := 2, w := .g r.val 0#24 }], fault := some { code := 5, efa := m.2.1, eia := k.pc } })
    ∧ Answers (.st c r a) s (fun t => t = (s.served c.master).setCore c { k.after m.1 m.2.2 (withBit k.sr 22 false) with
        fault := some { code := 5, efa := m.2.1, eia := k.pc } }))
  ∧ (
  ∀ (s : State) (r : Fin 16) (a : Addr),
    let k := s.ashc
    let m := addrMeans k a
    s.ready .ash m.1 → isAshRam m.2.1.toNat = true →
    Answers (.ld .ash r a) s (fun t => t = s.setCore .ash { k.after m.1 m.2.2 (withBit k.sr 22 false) with
        inflight := [{ left := 2, w := .g r.val (s.ashRam m.2.1.toNat) }] })
    ∧ Answers (.st .ash r a) s (fun t =>
        t = { s.setCore .ash (k.after m.1 m.2.2 (withBit k.sr 22 false)) with ash := { s.ash with ram := t.ash.ram } }
        ∧ ∀ x, x < 2 ^ 24 → t.ashRam x = if x = m.2.1.toNat then k.gr r else s.ashRam x))

/-- R186, R196, R221, R222: a branch, call or jump issues with its two slots still to run, reads its flags and its target as it issues, and
writes the return address where it is a call; one not taken goes on after its slots. R186, R196: the slots of a branch: an instruction in the first leaves one to run, the second goes on at the target; after the second slot of a `reti`,
pc, sr and lc are epc, esr and elc with bs and rp read as 0, the slots that esr.bs counts run before ebt, and a
repetition that esr.rp tells of goes on with elc iterations, or, with none left, after the repeated instruction; a `wst` that is returned to goes on waiting (R203). That the
Ashlar core's source ends there is the model's choice (assumption 104). -/
def Obligations.BranchesAndSlots : Prop :=
  (
  ∀ (s : State) (c : CoreId) (sl : Slots), sl.bad = false →
    let k := s.core c
    let slots := 2 + sl.x1.toNat + sl.x2.toNat
    let goes := fun (len : Nat) (a : Word) (link : Option (Fin 16 × Word)) (r : Option RetiRestore) (t : State) =>
      t = s.setCore c { k.after len link k.sr with
        branch := some { target := a, left := 2, src := k.pc, reti := r } }
    (∀ (cond : BitVec 4) (g : Target), cond ≠ 15#4 → s.ready c (targetMeans k.pc g).1 →
      let m := targetMeans k.pc g
      Answers (.branch c cond g sl) s
        (goes m.1 (if condTrue cond.toNat k.sr then m.2 else k.pc + BitVec.ofNat 24 (m.1 + slots)) none none))
    ∧ (∀ g : Target, s.ready c (targetMeans k.pc g).1 →
      let m := targetMeans k.pc g
      Answers (.call c g sl) s (goes m.1 m.2 (some (15, k.pc + BitVec.ofNat 24 (m.1 + slots))) none))
    ∧ (s.ready c 1 →
      (∀ a : Fin 16, Answers (.jr c a sl) s (goes 1 (k.gr a) none none)
        ∧ Answers (.calr c a sl) s (goes 1 (k.gr a) (some (15, k.pc + BitVec.ofNat 24 (1 + slots))) none))
      ∧ Answers (.reti c sl) s (goes 1 k.epc none (some { epc := k.epc, esr := k.esr, elc := k.elc, ebt := k.ebt }))))
  ∧ (
  ∀ (s : State) (c : CoreId) (b : BranchState), s.ready c 1 →
    let k := s.core c
    let u := fun (b : BranchState) => s.setCore c { k with branch := some b }
    let went := k.after 1 none k.sr
    (b.left = 2 → Answers (.nop c) (u b) fun t => t = s.setCore c { went with branch := some { b with left := 1 } })
    ∧ (b.left = 1 → b.reti = none → Answers (.nop c) (u b) fun t => t = s.setCore c { went with pc := b.target })
    ∧ ∀ r, b.left = 1 → b.reti = some r →
        let back := { went with pc := r.epc, sr := r.esr &&& 0x8800CF#24, lc := r.elc &&& 0x0007FF#24, rptLeft := 0, rptFresh := false
                                waits := returned r.epc k.waits }
        let left := r.elc.toNat % 2 ^ 11
        let v := if c = .ash then s.endAsh else s
        (fieldOf r.esr 20 2 = 0 → r.esr.getLsbD 22 = false → Answers (.nop c) (u b) fun t => t = v.setCore c back)
        ∧ (fieldOf r.esr 20 2 = 0 → r.esr.getLsbD 22 = true → left ≠ 0 →
          Answers (.nop c) (u b) fun t => t = v.setCore c { back with
            pc := r.epc + 1#24, rptPc := some r.epc, rptLeft := left, sr := withBit back.sr 22 true })
        ∧ (fieldOf r.esr 20 2 = 0 → r.esr.getLsbD 22 = true → left = 0 → c = .a0 ∨ c = .a1 → isSram (r.epc + 1#24).toNat = true →
          Answers (.nop c) (u b) fun t => t = s.setCore c { back with
            pc := r.epc + BitVec.ofNat 24 (2 + (hasExt (s.mem1 (r.epc + 1#24).toNat)).toNat) })
        ∧ ∀ n, 1 ≤ n → n ≤ 2 → fieldOf r.esr 20 2 = n →
          (Answers (.nop c) (u b) fun t => t = v.setCore c { back with
            branch := some { target := r.ebt, left := n, src := r.epc, reti := none } }))

/-- R187: the prefix latches its count, 1 to 1,024, and sets rp; a count of 0 passes over the instruction, with lc 0; the latched count governs the iterations, each
shows in lc those that are left, and the last one ends the repetition. R177, R223: `nop` only issues; `mfs` reads a special register, and `mts` writes one at distance 4, in the bits that it holds. -/
def Obligations.RepetitionAndSpecialRegisters : Prop :=
  (
  ∀ (s : State) (c : CoreId) (n : RptCount) (x : Bool), s.ready c 1 →
    let k := s.core c
    let count := match n with
      | .imm i => i.toNat + 1
      | .reg g => min 1024 (k.gr g).toNat
    (count ≠ 0 → Answers (.rpt c n x false) s fun t => t = s.setCore c { k.after 1 none (withBit k.sr 22 true) with
      lc := BitVec.ofNat 24 count, rptLeft := count, rptPc := some k.pc, rptFresh := true })
    ∧ (count = 0 → Answers (.rpt c n x false) s (fun t => s.Issued t c (2 + x.toNat) { k with lc := 0#24 }))
    ∧ ∀ (p l : Word) (i : Nat), i < 1024 →
      let u := s.setCore c { k with rptPc := some p, rptLeft := i + 1, lc := l }
      Answers (.nop c) u fun t => t = if i = 0 then
          s.setCore c { k.after 1 none (withBit k.sr 22 false) with lc := 0#24, rptLeft := 0, rptPc := none, rptFresh := false }
        else s.setCore c { k.after 0 none k.sr with lc := BitVec.ofNat 24 i, rptLeft := i, rptPc := some p, rptFresh := false })
  ∧ (
  ∀ (s : State) (c : CoreId) (d a : Fin 16) (p : BitVec 5), s.ready c 1 →
    let k := s.core c
    let v := k.gr a
    let lands := fun (f : CoreState → CoreState) => Answers (.mts c p a) s fun t => s.Lands t c 1 4 fun u =>
      u = s.setCore c (f (k.after 1 none (withBit k.sr 22 false)))
    Answers (.nop c) s (fun t => s.Issued t c 1 k)
    ∧ (p.toNat < 14 → Answers (.mfs c d p) s fun t => s.WroteG t c 1 d
        ([k.pc, k.sr, k.lc, k.ie, k.ivb, k.epc, k.esr, k.elc, k.ebt, k.ecause, k.efa, k.eia, BitVec.ofNat 24 c.cid, k.cyc].getD p.toNat 0#24))
    ∧ (p = 1#5 → Answers (.mts c p a) s fun t => s.Lands t c 1 4 fun u => ∃ sr, u = s.setCore c (k.after 1 none sr)
        ∧ ∀ i, i < 24 → sr.getLsbD i = if i ∈ [0, 1, 2, 3, 6, 7, 19, 23] then v.getLsbD i else if i = 22 then false else k.sr.getLsbD i)
    ∧ (p = 2#5 → lands fun k => { k with lc := v &&& 0x7FF#24 })
    ∧ (p = 3#5 → lands fun k => { k with ie := v &&& 1#24 })
    ∧ (p = 4#5 → lands fun k => { k with ivb := v &&& 0xFFFF00#24 })
    ∧ (p = 5#5 → lands fun k => { k with epc := v })
    ∧ (p = 6#5 → lands fun k => { k with esr := v &&& 0xF800CF#24 })
    ∧ (p = 7#5 → lands fun k => { k with elc := v })
    ∧ (p = 8#5 → lands fun k => { k with ebt := v })
    ∧ (p = 9#5 → lands fun k => { k with ecause := v &&& 0xEFFFFF#24 })
    ∧ (p = 10#5 → lands fun k => { k with efa := v })
    ∧ (p = 11#5 → lands fun k => { k with eia := v }))

/-! ## Special registers, exceptions, waiting and interrupts (R177, R186, R192, R193 to R204) -/

/-- R177, R186, R192, R195, R197, R198: a precise exception outside a handler: its instruction does nothing else, and the core enters the handler of its code
with the instruction's own address, or for `trap` the one after it; `brk` halts a core of the three while a probe is attached; the Ashlar core has no CP1 and no CP3. R201: an exception in a handler is a double fault: epc, esr, elc, ebt, efa and eia keep their values, ecause gains dbl and the second code, and A0 or A1 halts
with the core-halted source raised. -/
def Obligations.Exceptions : Prop :=
  (
  ∀ (s : State) (c : CoreId), s.ready c 1 → (s.core c).sr.getLsbD 23 = false → (∀ e, 2 ≤ e → e ≤ 9 → s.vectorReads c e) →
    let k := s.core c
    let enters := fun (i : Instr) (code : Nat) => Answers i s fun t => s.Entered t c k.pc 0 none (BitVec.ofNat 24 code) code
    let illegalPair := fun (i : Instr) => Answers i s fun t =>
      (s.setCore c { k with sr := withBit k.sr 22 false }).Entered t c k.pc 0 none 3#24 3
    (∀ n : BitVec 8, Answers (.trap c n) s fun t => s.Entered t c (k.pc + 1#24) 0 none (BitVec.ofNat 24 (n.toNat * 256 + 7)) 7)
    ∧ (s.dbg.att = false ∨ c = .ash → enters (.brk c) 8)
    ∧ (s.dbg.att = true → c ≠ .ash → Answers (.brk c) s fun t => t = s.setCore c { k with dbgHalt := true })
    ∧ (∀ d a : Fin 16, enters (.exoi c d a 3#2) 2 ∧ enters (.inoi c d a 3#2) 2)
    ∧ (∀ (d : Fin 16) (p : BitVec 5), 14 ≤ p.toNat → enters (.mfs c d p) 2)
    ∧ (∀ (a : Fin 16) (p : BitVec 5), p.toNat = 0 ∨ 12 ≤ p.toNat → enters (.mts c p a) 2)
    ∧ (∀ d a b : Fin 16, d.val % 2 = 1 → enters (.div c d a b) 2 ∧ enters (.divu c d a b) 2)
    ∧ (∀ (d a b : Fin 16) (op : BitVec 6), s.bit Reg.ADIT_CTL 23 = false ∨ c = .ash → enters (.c3 c d a b op) 2)
    ∧ (∀ d a : Fin 16, c = .ash → ∀ i ∈ [Instr.c1crc c a, .c1crco c a, .c1rdc c d, .c1wrc c a, .c1ini c, .c1pn9 c d a, .c1pn9o c d a, .c1wrp c a, .c1rdp c d, .c1scr c d a,
        .c1wrs c a, .c1rds c d], enters i 2)
    ∧ (∀ (g : Target) (sl : Slots), s.causeOf c (targetMeans k.pc g).1 none = none → enters (.branch c 15#4 g sl) 2
        ∧ (sl.bad = true → ∀ cond : BitVec 4, cond ≠ 15#4 → illegalPair (.branch c cond g sl))
        ∧ (sl.bad = true → illegalPair (.call c g sl)))
    ∧ (∀ (a : Fin 16) (sl : Slots), sl.bad = true → illegalPair (.jr c a sl) ∧ illegalPair (.calr c a sl) ∧ illegalPair (.reti c sl))
    ∧ (∀ (n : RptCount) (x : Bool), illegalPair (.rpt c n x true))
    ∧ ∀ d a b : Fin 16, d.val % 2 = 0 → k.gr b = 0#24 → k.sr.getLsbD 19 = true →
        let u := s.setCore c { k with sr := k.sr ||| 0x40#24 }
        (Answers (.div c d a b) s fun t => u.Entered t c k.pc 0 none 4#24 4)
        ∧ Answers (.divu c d a b) s fun t => u.Entered t c k.pc 0 none 4#24 4)
  ∧ (
  ∀ (s : State) (c : CoreId) (n : BitVec 8), s.ready c 1 → (s.core c).sr.getLsbD 23 = true → (c = .a0 ∨ c = .a1) → s.asleep = false →
    let k := s.core c
    Answers (.trap c n) s fun t =>
      t.core c = { k with ecause := withField (withBit k.ecause 21 true) 16 4 7, run := .halted, branch := none, rptPc := none, rptLeft := 0, rptFresh := false }
      ∧ t.isPending (if c = .a0 then 108 else 109) = true ∧ t.mem = s.mem)

/-- R202 to R204: `wfi` goes on where a source that is routed to the core is pending, and waits otherwise until one wakes it; `wst` waits until a slot tick has reached the core since
it first issued, an interrupt in between notwithstanding. R204, R231 to R233: `cpwait` collects the oldest operation: its result, or CPFAULT, which consumes it; it waits for one that has not ended, and with none
uncollected it passes, or faults with QFULL for a discarded one. -/
def Obligations.WaitingAndCollecting : Prop :=
  (
  ∀ (s : State) (c : CoreId),
    let k := s.core c
    let comes : Prop := if c = .ash then s.intc.ashPend ≠ 0#16 else ∃ n, n < 124 ∧ s.fld (Reg.INT_SRC n) 21 2 = c.cid ∧ s.isPending n = true
    (s.ready c 1 → comes → Answers (.wfi c) s fun t => s.Issued t c 1 k)
    ∧ (s.ready c 1 → ¬ comes → Answers (.wfi c) s fun t => s.Issued t c 1 { k with run := .wfi })
    ∧ (s.running c = true → k.run = .wfi → s.wakesCore c = true → s.parked c = false →
        Answers (.wfiWake c) s fun t => t = s.setCore c { k with run := .run })
    ∧ (s.ready c 1 → (∀ w ∈ k.waits.head?, w.depth ≠ 0 ∨ w.addr ≠ k.pc) →
        Answers (.wst c) s fun t => t = s.setCore c { k with run := .wst, waits := { addr := k.pc } :: k.waits.dropWhile fun w => w.depth == 0 })
    ∧ ∀ (w : TickWait) (ws : List TickWait), k.waits = w :: ws → w.depth = 0 → w.addr = k.pc →
      (s.ready c 1 → w.seen = true → Answers (.wst c) s fun t => s.Issued t c 1 { k with waits := ws })
      ∧ (s.ready c 1 → w.seen = false → Answers (.wst c) s fun t => t = s.setCore c { k with run := .wst })
      ∧ (s.settled c → s.running c = true → k.run = .wst → w.seen = true →
        Answers (.wstResume c) s fun t => s.Issued t c 1 { k with run := .run, waits := ws }))
  ∧ (
  ∀ (s : State) (c : CoreId) (i : Instr),
    let k := s.core c
    s.settled c →
    (i = .cpwait c ∧ s.ready c 1 ∨ i = .cpwaitCollect c ∧ s.running c = true ∧ k.run = .cpwait) → k.fault = none → k.accepted = none →
    let j := { k with run := .run }
    (k.cp3 = [] → k.disc = 0 → Answers i s fun t => s.Issued t c 1 j)
    ∧ (∀ (o : Cp3Op) (rest : List Cp3Op), k.cp3 = o :: rest →
      (∀ (d : Fin 16) (w : Word), o.rd = d.val → o.st = .result w →
        Answers i s fun t => t = s.setCore c { j.after 1 (some (d, w)) (withBit k.sr 22 false) with cp3 := rest })
      ∧ (∀ cause, o.st = .failed cause → k.sr.getLsbD 23 = false → s.vectorReads c 9 →
        Answers i s fun t => (s.setCore c { k with cp3 := rest, cp3cause := cause }).Entered t c k.pc 0 none 9#24 9)
      ∧ (i = .cpwait c → o.st = .waiting ∨ o.st = .sent → Answers i s fun t => t = s.setCore c { k with run := .cpwait }))
    ∧ (k.cp3 = [] → k.disc ≠ 0 → k.sr.getLsbD 23 = false → s.vectorReads c 9 →
      Answers i s fun t => (s.setCore c { k with disc := k.disc - 1, cp3cause := 4 }).Entered t c k.pc 0 none 9#24 9))

/-- R194, R195, R199, R200: a presented source is accepted by a core that runs unmasked outside a handler, and entered at the boundary; a failed access is entered there
with imp, its addresses in efa and eia, and goes before an accepted interrupt. -/
def Obligations.InterruptEntry : Prop :=
  ∀ (s : State) (c : CoreId) (n : Nat),
    let k := s.core c
    let free := s.running c = true ∧ k.branch = none ∧ k.inflight = []
    (s.running c = true → (k.run = .run ∨ k.run = .wst ∨ k.run = .cpwait) → k.accepted = none → k.fault = none → k.ie.getLsbD 0 = true →
      k.sr.getLsbD 23 = false → k.rptFresh = false → s.haltAsked c = false → (c = .ash ∨ s.dbg.step.getLsbD c.cid = false) →
      s.presentedTo c = some n →
      Answers (.interruptAccept c) s fun t => t.core c = { k with accepted := some n, run := .run }
        ∧ (c = .ash → n < 16 → t.intc.ashAct.getLsbD n = true ∧ t.intc.ashPend.getLsbD n = false ∧ t.regs = s.regs)
        ∧ (c ≠ .ash → t.activeFor n c.cid = true ∧ (isLevel n = false → t.isPending n = false)))
    ∧ (free → k.accepted = some n → k.fault = none → ∀ d, (if c = .ash then d = n else s.delivered n = some d) → s.vectorReads c (16 + d) →
      Answers (.interruptEntry c) s fun t => (s.setCore c { k with accepted := none }).Entered t c (k.rptPc.getD k.pc) 0 none
        (BitVec.ofNat 24 (0x800000 + d)) (16 + d))
    ∧ ∀ f : MemFault, free → k.run ≠ .held → k.run ≠ .halted → k.accepted = none → k.fault = some f → k.sr.getLsbD 23 = false →
      s.vectorReads c f.code →
      Answers (.impreciseFault c) s fun t => (s.setCore c { k with fault := none, efa := f.efa, eia := f.eia }).Entered t c (k.rptPc.getD k.pc) 0 none
        (BitVec.ofNat 24 (0x400000 + f.code)) f.code

/-! ## Coprocessors (R89, R90, R99, R224 to R237, R349 to R352) -/

/-- R224, R225, R227, R228: the loading coprocessor: its registers are written and read, `c0code` reads its inputs as it issues and is to write its table at distance 28,
busy reads 1 until then, `c0eval` gives D and none, and the operations on codes and symbols. R225: when the issue cycles that a `c0code` still has have passed, its table and its rate, none and D are in CP0's registers, fc is kept and busy reads 0. -/
def Obligations.LoadingCoprocessor : Prop :=
  (
  ∀ (s : State) (c : CoreId) (r : Fin 16) (d a b : Fin 16), s.ready c 1 →
    let k := s.core c
    let x := k.gr a
    let j := (k.gr b).toNat % 8
    let D := (k.cp0.getD 15 0#24).toNat / 2 ^ 11 % 2 ^ 10
    (r ≠ 15 → Answers (.c0wr c r a) s fun t => s.WroteCp t c none { k with cp0 := setAt x k.cp0 r.val })
    ∧ Answers (.c0wr c 15 a) s (fun t => s.WroteCp t c none
        { k with cp0 := setAt (k.cp0.getD 15 0#24 &&& 0x800000#24 ||| x &&& 0x7FF81F#24) k.cp0 15 })
    ∧ (r ≠ 15 → Answers (.c0rd c d r) s fun t => s.WroteG t c 1 d (k.cp0.getD r.val 0#24))
    ∧ Answers (.c0rd c d 15) s (fun t => s.WroteG t c 1 d (k.cp0.getD 15 0#24 &&& 0x7FFFFF#24))
    ∧ Answers (.c0code c) s (fun t => s.WroteCp t c none { k with c0run := some { k.loadTable with left := 27 } }
        ∧ ((t.core c).c0 15).getLsbD 23 = true)
    ∧ Answers (.c0eval c) s (fun t => s.Lands t c 1 2 fun u => s.WroteCp u c none
        (let tab := [k.cp0.getD 12 0#24, k.cp0.getD 13 0#24, k.cp0.getD 14 0#24]
        let old := k.cp0.getD 15 0#24 &&& 0xC007FF#24
        { k with cp0 := setAt (old ||| if tableIllegal tab then 0x200000#24
          else BitVec.ofNat 24 (tableD tab ((k.cp0.getD 15 0#24).getLsbD 22) % 1024 * 2 ^ 11)) k.cp0 15 }))
    ∧ Answers (.c0cnt c d a) s (fun t => s.WroteG t c 1 d
        (BitVec.ofNat 24 ((List.range 8).map fun i => codeBits (x.toNat / 8 ^ (7 - i) % 8)).sum))
    ∧ Answers (.c0ext c d a b) s (fun t => s.WroteG t c 1 d (BitVec.ofNat 24 (x.toNat / 8 ^ (7 - j) % 8)))
    ∧ Answers (.c0dep c d a b) s (fun t => s.WroteG t c 1 d
        (k.gr d &&& ~~~ (7#24 <<< (21 - 3 * j)) ||| (x &&& 7#24) <<< (21 - 3 * j)))
    ∧ Answers (.c0nsym c d a) s (fun t => s.Lands t c 1 4 fun u => s.WroteG u c 1 d
        (if D = 0 then 0#24 else BitVec.ofNat 24 ((8 * x.toNat + 6 + D - 1) / D))))
  ∧ (
  ∀ (s : State) (c : CoreId) (r : C0Run), (s.core c).c0run = some r → 1 ≤ r.left → (s.core c).inflight = [] → s.ash.eng.aes = none →
    s.ash.eng.sha = none →
    let k := s.core c
    Answers (.c0codeDone c) s fun t => t = s.setCore c { k with
      c0run := none, cyc := k.cyc + BitVec.ofNat 24 r.left
      cp0 := setAt (k.cp0.getD 15 0#24 &&& 0x8007FF#24 ||| r.res &&& 0x7FF800#24)
        (setAt (r.tabs.getD 2 0#24) (setAt (r.tabs.getD 1 0#24) (setAt (r.tabs.getD 0 0#24) k.cp0 12) 13) 14) 15 })

/-- R224, R229: CP1 on LK, A0 and A1: crc, pn9 and scr are written and read, and a word or an octet goes through the CRC, the whitening or the scrambler, which
advance. R174, R230: complex arithmetic: each part is brought into range, products are exact and rounded as (p + 2^10) >> 11, re and im wrap modulo 2^32 and chain in
consecutive cycles. -/
def Obligations.CrcAndComplexArithmetic : Prop :=
  (
  ∀ (s : State) (c : CoreId) (d a : Fin 16), s.ready c 1 → c ≠ .ash →
    let k := s.core c
    let x := k.gr a
    let os := [x.toNat / 65536, x.toNat / 256 % 256, x.toNat % 256]
    let p := if k.pn9 = 0#9 then 0x1FF else k.pn9.toNat
    Answers (.c1crc c a) s (fun t => s.WroteCp t c none { k with crc := BitVec.ofNat 24 (crcOctets k.crc.toNat os) })
    ∧ Answers (.c1crco c a) s (fun t => s.WroteCp t c none { k with crc := BitVec.ofNat 24 (crcOctet k.crc.toNat (x.toNat % 256)) })
    ∧ Answers (.c1rdc c d) s (fun t => s.WroteG t c 1 d k.crc)
    ∧ Answers (.c1wrc c a) s (fun t => s.WroteCp t c none { k with crc := x })
    ∧ Answers (.c1ini c) s (fun t => s.WroteCp t c none { k with crc := 0xB704CE#24 })
    ∧ Answers (.c1pn9 c d a) s (fun t => s.WroteCp t c (some (d, x ^^^ wordOf (pn9Octets 3 p).1)) { k with pn9 := BitVec.ofNat 9 (pn9Octets 3 p).2 })
    ∧ Answers (.c1pn9o c d a) s (fun t => s.WroteCp t c (some (d, BitVec.ofNat 24 (x.toNat % 256 ^^^ (pn9Octets 1 p).1.headD 0)))
        { k with pn9 := BitVec.ofNat 9 (pn9Octets 1 p).2 })
    ∧ Answers (.c1wrp c a) s (fun t => s.WroteCp t c none { k with pn9 := x.extractLsb' 0 9 })
    ∧ Answers (.c1rdp c d) s (fun t => s.WroteG t c 1 d (k.pn9.zeroExtend 24))
    ∧ Answers (.c1scr c d a) s (fun t => s.WroteCp t c (some (d, x ^^^ wordOf (scrOctets 3 k.scr.toNat).1))
        { k with scr := BitVec.ofNat 7 (scrOctets 3 k.scr.toNat).2 })
    ∧ Answers (.c1wrs c a) s (fun t => s.WroteCp t c none { k with scr := x.extractLsb' 0 7 })
    ∧ Answers (.c1rds c d) s (fun t => s.WroteG t c 1 d (k.scr.zeroExtend 24)))
  ∧ (
  ∀ (s : State) (c : CoreId) (d a b : Fin 16), s.ready c 1 →
    let k := s.core c
    let x := k.gr a
    let y := k.gr b
    let i := partI x
    let q := partQ x
    let re := fun (yq : Int) => i * partI y - q * yq
    let im := fun (yq : Int) => i * yq + q * partI y
    let round := fun (p : Int) => (p + 1024) / 2048
    let takes := fun (yq : Int) => { k with cre := k.cre + BitVec.ofInt 32 (re yq), cim := k.cim + BitVec.ofInt 32 (im yq) }
    Answers (.cadd c d a b) s (fun t => s.WroteC t c d (i + partI y) (q + partQ y))
    ∧ Answers (.csub c d a b) s (fun t => s.WroteC t c d (i - partI y) (q - partQ y))
    ∧ Answers (.cconj c d a) s (fun t => s.WroteC t c d i (- q))
    ∧ Answers (.cmul c d a b) s (fun t => s.Lands t c 1 2 fun u => s.WroteC u c d (round (re (partQ y))) (round (im (partQ y))))
    ∧ Answers (.cmulc c d a b) s (fun t => s.Lands t c 1 2 fun u => s.WroteC u c d (round (re (- partQ y))) (round (im (- partQ y))))
    ∧ (y.toNat % 4 = 0 → Answers (.crot c d a b) s fun t => s.WroteC t c d i q)
    ∧ (y.toNat % 4 = 1 → Answers (.crot c d a b) s fun t => s.WroteC t c d (- q) i)
    ∧ (y.toNat % 4 = 2 → Answers (.crot c d a b) s fun t => s.WroteC t c d (- i) (- q))
    ∧ (y.toNat % 4 = 3 → Answers (.crot c d a b) s fun t => s.WroteC t c d q (- i))
    ∧ Answers (.cpwr c d a) s (fun t => s.Lands t c 1 2 fun u => ∃ r : Word, (r.toNat : Int) = i * i + q * q ∧ s.WroteG u c 1 d r)
    ∧ Answers (.cmac c a b) s (fun t => s.WroteCp t c none (takes (partQ y)))
    ∧ Answers (.cmacc c a b) s (fun t => s.WroteCp t c none (takes (- partQ y)))
    ∧ Answers (.cclr c) s (fun t => s.WroteCp t c none { k with cre := 0#32, cim := 0#32 })
    ∧ Answers (.crdr c d) s (fun t => s.Lands t c 1 2 fun u => s.WroteG u c 1 d (clamp24 k.cre.toInt))
    ∧ Answers (.crdi c d) s (fun t => s.Lands t c 1 2 fun u => s.WroteG u c 1 d (clamp24 k.cim.toInt))
    ∧ Answers (.crdrh c d) s (fun t => s.Lands t c 1 2 fun u => s.WroteG u c 1 d ((k.cre.extractLsb' 24 8).signExtend 24))
    ∧ Answers (.crdrl c d) s (fun t => s.Lands t c 1 2 fun u => s.WroteG u c 1 d (k.cre.extractLsb' 0 24))
    ∧ Answers (.crdih c d) s (fun t => s.Lands t c 1 2 fun u => s.WroteG u c 1 d ((k.cim.extractLsb' 24 8).signExtend 24))
    ∧ Answers (.crdil c d) s (fun t => s.Lands t c 1 2 fun u => s.WroteG u c 1 d (k.cim.extractLsb' 0 24))
    ∧ Answers (.cwrr c a b) s (fun t => s.WroteCp t c none { k with cre := y.extractLsb' 0 8 ++ x })
    ∧ Answers (.cwri c a b) s (fun t => s.WroteCp t c none { k with cim := y.extractLsb' 0 8 ++ x }))

/-- R231, R232, R235 to R237: a CP3 operation is recorded with the values read as it issues, or discarded and counted; the one issued first is sent in five beats once a tag is free; a response of
three beats, a timeout or
the port's disabling ends it; a response that matches none sets stray, raises source 101 and gives a retired tag back, and a tag that a timeout retires raises it too. -/
def Obligations.AditPort : Prop :=
  ∀ (s : State), s.bit Reg.ADIT_CTL 23 = true →
    (∀ (c : CoreId) (d a b : Fin 16) (op : BitVec 6), s.ready c 1 → c ≠ .ash →
      let k := s.core c
      (k.disc = 0 → k.cp3.length < 4 → Answers (.c3 c d a b op) s fun t => s.Issued t c 1 { k with cp3 := k.cp3 ++
        [{ rd := d.val, tag := freeTag k, op := op.toNat, ga := k.gr a, gb := k.gr b, st := .waiting, ord := s.nextOrd }] })
      ∧ (k.disc ≠ 0 ∨ 4 ≤ k.cp3.length → Answers (.c3 c d a b op) s fun t => s.Issued t c 1 { k with disc := min 7 (k.disc + 1) }))
    ∧ (s.blockRuns Base.ADIT = true →
      (∀ (c : CoreId) (o : Cp3Op), s.aditNext = some c → firstWaiting (s.core c) = some o →
        let tag := if o.tag < 4 then o.tag else freeTag (s.core c)
        (tag < 4 → Answers .aditCommandSend s (fun t => t = s.setCore c { s.core c with
            cp3 := (s.core c).cp3.map fun p => if p.ord = o.ord then { p with tag := tag, st := .sent } else p })
          ∧ s.aditDrives = [BitVec.ofNat 2 tag ++ BitVec.ofNat 2 c.cid ++ BitVec.ofNat 6 o.op ++ 0#2, o.ga.extractLsb' 12 12, o.ga.extractLsb' 0 12,
            o.gb.extractLsb' 12 12, o.gb.extractLsb' 0 12])
        ∧ (4 ≤ tag → Answers .aditCommandSend s fun t => t = s))
      ∧ (∀ (c : CoreId) (tag : BitVec 2) (err : Bool) (low : BitVec 7) (w : Word), c ≠ .ash →
        let hit := fun (o : Cp3Op) => o.tag = tag.toNat ∧ o.st = .sent
        let i := Instr.aditResponse (tag ++ BitVec.ofNat 2 c.cid ++ BitVec.ofBool err ++ low) (w.extractLsb' 12 12) (w.extractLsb' 0 12)
        ((∃ o ∈ (s.core c).cp3, hit o) → Answers i s fun t => t = s.setCore c { s.core c with
          cp3 := (s.core c).cp3.map fun o => if o.tag = tag.toNat ∧ o.st = .sent then { o with st := if err then .failed 1 else .result w } else o })
        ∧ ((∀ o ∈ (s.core c).cp3, ¬ hit o) → Answers i s fun t =>
          t.bit Reg.ADIT_STAT 0 = true ∧ t.isPending 101 = true ∧ (t.core c).retired = (s.core c).retired.filter (· ≠ tag.toNat)
          ∧ (t.core c).cp3 = (s.core c).cp3))
      ∧ (∀ (tag : BitVec 2) (low : BitVec 8) (b1 b2 : BitVec 12), Answers (.aditResponse (tag ++ 3#2 ++ low) b1 b2) s fun t =>
          t.bit Reg.ADIT_STAT 0 = true ∧ t.isPending 101 = true ∧ ∀ c, t.core c = s.core c)
      ∧ (∀ (c : CoreId) (tag : Fin 4), c ≠ .ash → s.fld Reg.ADIT_CTL 0 12 ≠ 0 → (∃ o ∈ (s.core c).cp3, o.tag = tag.val ∧ o.st = .sent) →
        Answers (.aditTimeout c tag) s fun t => t = (s.setCore c { s.core c with
          cp3 := (s.core c).cp3.map fun o => if o.tag = tag.val ∧ o.st = .sent then { o with st := .failed 2 } else o
          retired := tag.val :: (s.core c).retired }).raise 101)
      ∧ ∀ v : Word, v.getLsbD 23 = false → Answers (.aditDisable v) s fun t =>
        t.bit Reg.ADIT_CTL 23 = false ∧ t.fld Reg.ADIT_CTL 16 4 = s.fld Reg.ADIT_CTL 16 4
        ∧ ∀ c, c ≠ .ash → ∀ o ∈ (t.core c).cp3, o.st ≠ .waiting ∧ o.st ≠ .sent)

/-- R349, R350: the AES and SHA-512 parts of the crypto engine: the key, block, state and message words are written as the operations say, an encryption, a decryption
or a compression starts and ends at its internal distance, and the rest of the part is as it was. R254, R350: the engine's operation that runs ends after the issue cycles it still has: its block or state is written, and source 2 becomes pending. -/
def Obligations.CryptoEngine : Prop :=
  (
  ∀ (s : State) (d a : Fin 16), s.ready .ash 1 →
    let e := s.ash.eng
    let x := s.ashc.gr a
    let cut := fun (last : Bool) (m : Word) => if last then x &&& m else x
    (∀ i : Fin 11, Answers (.k1key i a) s fun t => s.WroteEng t
      { e with key := setAt (cut (decide (i = 10)) 0xFF0000#24) e.key i.val, kek := false })
    ∧ Answers .k1kek s (fun t => s.WroteEng t { e with key := packOctets (Config.kek.take 32), klen := true, kek := true })
    ∧ (e.kek = true → Answers (.k1cfg a) s fun t => s.WroteEng t e)
    ∧ (e.kek = false → Answers (.k1cfg a) s fun t => s.WroteEng t { e with klen := x.getLsbD 0 })
    ∧ Answers .k1clr s (fun t => s.WroteEng t { e with
        key := List.replicate 11 0#24, blk := List.replicate 6 0#24, hst := List.replicate 22 0#24
        hblk := List.replicate 43 0#24, kek := false })
    ∧ (∀ i : Fin 6, Answers (.k1bw i a) s (fun t => s.WroteEng t { e with blk := setAt (cut (decide (i = 5)) 0xFF0000#24) e.blk i.val })
        ∧ Answers (.k1br d i) s fun t => s.WroteG t .ash 1 d (e.blk.getD i.val 0#24))
    ∧ (let n := if e.klen then 15 else 11
      let key := (octetsOf e.key).take (if e.klen then 32 else 16)
      let blk := (octetsOf e.blk).take 16
      Answers .k1enc s (fun t => s.WroteEng t { e with aes := some (n - 1, packOctets (aesEncrypt key blk)) })
      ∧ Answers .k1dec s (fun t => s.WroteEng t { e with aes := some (n - 1, packOctets (aesDecrypt key blk)) }))
    ∧ Answers .k1hini s (fun t => s.WroteEng t { e with hst := packOctets (sha512Out sha512Init) })
    ∧ (∀ i : Fin 43, Answers (.k1hw i a) s fun t => s.WroteEng t { e with hblk := setAt (cut (decide (i = 42)) 0xFFFF00#24) e.hblk i.val })
    ∧ Answers .k1hrun s (fun t => s.WroteEng t { e with
        sha := some (83, packOctets (sha512Out (sha512Block e.shaState ((octetsOf e.hblk).take 128)))) })
    ∧ (∀ i : Fin 22, Answers (.k1hr d i) s fun t => s.WroteG t .ash 1 d (e.hst.getD i.val 0#24))
    ∧ (Answers (.k1st d) s fun t => ∃ w, s.WroteG t .ash 1 d w ∧ w.getLsbD 23 = false ∧ w.getLsbD 22 = false ∧ w.getLsbD 21 = e.rsa.isSome
        ∧ w.getLsbD 20 = e.rsae ∧ w.getLsbD 19 = e.kek ∧ w.getLsbD 18 = e.rnge ∧ w.getLsbD 17 = e.hf ∧ w.toNat % 64 = e.avail % 64))
  ∧ (
  ∀ (s : State) (n : Nat) (b : List Word), s.ashc.inflight = [] → s.ashc.c0run = none → 1 ≤ n →
    (s.ash.eng.aes = some (n, b) → s.ash.eng.sha = none → Answers .aesDone s fun t =>
      t = State.raiseAsh { s with ash := { s.ash with eng := { s.ash.eng with aes := none, blk := b } }
                                  ashc := { s.ashc with cyc := s.ashc.cyc + BitVec.ofNat 24 n } } 2)
    ∧ (s.ash.eng.sha = some (n, b) → s.ash.eng.aes = none → Answers .shaDone s fun t =>
      t = State.raiseAsh { s with ash := { s.ash with eng := { s.ash.eng with sha := none, hst := b } }
                                  ashc := { s.ashc with cyc := s.ashc.cyc + BitVec.ofNat 24 n } } 2))

/-- R350 to R352: `k1rsa` starts the operation that its descriptor tells of; at its end r is in Ashlar RAM, or rsae is set, and source 3 becomes pending; `k1rng` gives
the next random word, a free value, or 0 with rnge where none is available. R345, R352: an alarm of the die temperature and its return, the failure and the recovery of the health tests, and a random word. -/
def Obligations.RandomAndAlarms : Prop :=
  (
  ∀ (s : State) (d a b : Fin 16),
    (s.ready .ash 1 → Answers (.k1rsa a b) s fun t => s.WroteEng t { s.ash.eng with
      rsa := some (s.rsaRun (s.ashc.gr a).toNat ((s.ashc.gr b).toNat % 4)) })
    ∧ (∀ r, s.ash.eng.rsa = some r → Answers .rsaDone s fun t =>
        t.ash.eng.rsa = none ∧ t.ash.eng.rsae = r.res.isNone ∧ t.intc.ashPend.getLsbD 3 = true ∧ t.regs = s.regs ∧ t.mem = s.mem
        ∧ (r.res = none → t.ash.ram = s.ash.ram)
        ∧ t.ash.eng.priv = (if r.res.isNone then s.ash.eng.priv else if r.op = 2 then true else if r.op = 3 then false else s.ash.eng.priv))
    ∧ (s.ready .ash 1 → s.ash.eng.avail = 0 → Answers (.k1rng d) s fun t =>
        t = { s with ash := { s.ash with eng := { s.ash.eng with rnge := true } }
                     ashc := s.ashc.after 1 (some (d, 0#24)) (withBit s.ashc.sr 22 false) })
    ∧ (s.ready .ash 1 → s.ash.eng.avail ≠ 0 → Answers (.k1rng d) s fun t =>
        t = { s with fresh := s.fresh + 1
                     ash := { s.ash with eng := { s.ash.eng with rnge := false, avail := s.ash.eng.avail - 1 } }
                     ashc := s.ashc.after 1 (some (d, BitVec.ofNat 24 (Config.freeValue s.fresh))) (withBit s.ashc.sr 22 false) }))
  ∧ (
  ∀ (s : State), s.asleep = false →
    (s.ash.tempOut = false → s.mem1 0x280407 ≠ 0xFFFFFF#24 → Answers .temperatureAlarm s fun t => t.ash.tempOut = true ∧ t.intc.ashPend.getLsbD 10 = true ∧ t.bit Reg.ASH_INFO 19 = true ∧ t.isPending 77 = true
        ∧ t.mem1 0x280407 = s.mem1 0x280407 + 1#24 ∧ ∀ a, a ≠ 0x280407 → t.mem1 a = s.mem1 a)
    ∧ (s.ash.tempOut = true → Answers .temperatureAlarm s fun t => t = s)
    ∧ Answers .dieTemperatureReturn s (fun t => t = { s with ash := { s.ash with tempOut := false } })
    ∧ Answers .healthTestFail s (fun t => t.ash = { s.ash with eng := { s.ash.eng with hf := true, avail := 0 } } ∧ t.bit Reg.ASH_INFO 17 = true ∧ t.intc.ashPend.getLsbD 5 = true
        ∧ s.KeepsRegs t [Reg.ASH_INFO] ∧ t.mem = s.mem)
    ∧ Answers .healthRecovered s (fun t => t = { s with ash := { s.ash with eng := { s.ash.eng with hf := false } } })
    ∧ (s.ash.eng.hf = false → s.ash.eng.avail < 32 → Answers .randomDataReady s fun t => t.ash = { s.ash with eng := { s.ash.eng with avail := s.ash.eng.avail + 1 } } ∧ t.regs = s.regs ∧ t.mem = s.mem
        ∧ t.intc.ashPend.getLsbD 4 = (s.intc.ashPend.getLsbD 4 || decide (s.ash.eng.avail = 15)))
    ∧ (s.ash.eng.hf = true ∨ 32 ≤ s.ash.eng.avail → Answers .randomDataReady s fun t => t = s))

/-! ## The bus, resets, the watchdog and the supplies (R5, R6, R11, R12, R15, R26 to R30, R276 to R278, R345, R346, R400, R401) -/

/-- R5, R6: a write of a register stores the bits that its access codes let it store: RW bits take the value, but for those of code LK while the configuration is locked, a 1 clears a W1C bit and
sets a W1S bit, every other bit is kept, and nothing but that register changes; an unassigned offset holds nothing. R11, R15, R17, R18, R21: which master reads and which writes what. R5, R15, R264: a
register write of a master that reaches its block lands, one to an unassigned offset is ignored, one that the master, the SLOT block, the debug lock or a closed gate bars ends with a bus error and changes no
register. R12: a master that has waited is raised, and is granted before every other but the radio datapath; a raised priority holds for one transfer. -/
def Obligations.RegisterWrites : Prop :=
  (
  ∀ (s : State) (a : Nat) (v : Word),
    (∀ r, regRow a = some r →
      s.OnlyRegs (s.storeReg a v) [a] ∧ ∀ i, i < 24 → ((s.storeReg a v).reg a).getLsbD i =
        let o := if r.rw.testBit i && !(r.lk && s.locked) then v.getLsbD i else (s.reg a).getLsbD i
        if v.getLsbD i && r.w1s.testBit i then true else if v.getLsbD i && r.w1c.testBit i then false else o)
    ∧ (regRow a = none → s.storeReg a v = s))
  ∧ (
  ∀ (m : Master) (a : Nat), a < 2 ^ 24 →
    let flash := a < 0x200000
    let sram := 0x200000 ≤ a ∧ a < 0x280000
    let journal := 0x280000 ≤ a ∧ a < 0x290000
    let link := 0xD00000 ≤ a ∧ a < 0xD08000
    let rom := 0xE00000 ≤ a ∧ a < 0xE08000
    let periph := 0xF00000 ≤ a ∧ a < 0xF14000
    let slot := 0xF07000 ≤ a ∧ a < 0xF08000
    let hop := 0xF08000 ≤ a ∧ a < 0xF09000
    (canRead m a = true ↔
      ((flash ∨ journal) ∧ m ∈ [.lk, .a0, .a1, .ash, .dbg]) ∨ (sram ∧ m ≠ .ash) ∨ (link ∧ m = .lk) ∨ (rom ∧ m ∈ [.a0, .a1, .dbg])
        ∨ (periph ∧ (m ∈ [.lk, .a0, .a1, .dbg] ∨ (m = .radio ∧ hop))))
    ∧ (canWrite m a = true ↔ canRead m a = true ∧ (sram ∨ link ∨ periph) ∧ (slot → m = .lk)))
  ∧ (
  ∀ (s : State) (m : Master) (a v : Word), s.asleep = false → isPeriph a.toNat = true →
    let done := fun (e : Bool) => { s.served m with sys := { (s.served m).sys with busErr := e } }
    (s.reaches m a.toNat true = true → regRow a.toNat = none → Answers (.registerWrite m a v) s fun t => t = done false)
    ∧ ((m = .lk ∨ m = .a0 ∨ m = .a1) → Answers (.registerWrite m 0xF00065#24 v) s fun t =>
        t.sys.busErr = false ∧ t.mem = s.mem ∧ s.KeepsRegs t [Reg.SYS_A1ENT]
        ∧ t.reg Reg.SYS_A1ENT = if s.locked then s.reg Reg.SYS_A1ENT else v)
    ∧ (s.reaches m a.toNat true = false → Answers (.registerWrite m a v) s fun t => t = done true))
  ∧ (
  ∀ (s : State) (m : Master),
    (m ∉ s.sys.raised → Answers (.arbitrationRaise m) s fun t => t = { s with sys := { s.sys with raised := s.sys.raised ++ [m] } })
    ∧ (m ∈ s.sys.raised → Answers (.arbitrationRaise m) s fun t => t = s)
    ∧ ∀ waiting : List Master, waiting ≠ [] → ∃ g ∈ waiting, s.grantedNext waiting = some g
      ∧ (.radio ∈ waiting → g = .radio)
      ∧ (.radio ∉ waiting → (∃ r ∈ waiting, r ∈ s.sys.raised) → g ∈ s.sys.raised))

/-- R28: a read of a free semaphore by a core takes it for that core and shows taken; a read of a held one, or by another master, changes nothing; the owner's write
of 0 releases it, and every other write is ignored. -/
def Obligations.Semaphores : Prop :=
  ∀ (s : State) (m : Master) (n : Fin 16) (v : Word),
    let w := s.reg (Reg.SYS_SEM n.val)
    let owner := w.toNat % 4
    let num := match m with
      | .lk => 1
      | .a0 => 2
      | .a1 => 3
      | _ => 0
    let u := s.begun m
    let read := fun (d : Word) (t : State) => { u with sys := { u.sys with rdata := d } } = { t with regs := s.regs }
    s.asleep = false →
    (s.reaches m (Reg.SYS_SEM n.val) false = true → owner = 0 → num ≠ 0 → Answers (.semaphoreTake m n) s fun t => read (BitVec.ofNat 24 (0x800000 + num)) t
        ∧ s.KeepsRegs t [Reg.SYS_SEM n.val] ∧ t.reg (Reg.SYS_SEM n.val) = BitVec.ofNat 24 num)
    ∧ (s.reaches m (Reg.SYS_SEM n.val) false = true → owner ≠ 0 ∨ num = 0 → Answers (.semaphoreTake m n) s fun t => read w t ∧ t.regs = s.regs)
    ∧ (s.reaches m (Reg.SYS_SEM n.val) true = true → num ≠ 0 → owner = num → v = 0#24 → Answers (.semaphoreRelease m n v) s fun t =>
        u.OnlyRegs t [Reg.SYS_SEM n.val] ∧ t.reg (Reg.SYS_SEM n.val) = 0#24)
    ∧ (s.reaches m (Reg.SYS_SEM n.val) true = true → num = 0 ∨ owner ≠ num ∨ v ≠ 0#24 → Answers (.semaphoreRelease m n v) s fun t => t = u)

/-- R26, R27, R30, R469: a write of SYS_RSTCTL without its key is ignored; with it the widest class asked for takes hold with its cause recorded, and reaches what the table of
R26 says: a link reset LK alone, an application reset A0 and A1, a system reset every register that is not of the RTC domain or a cause; memory is kept. -/
def Obligations.SoftwareResets : Prop :=
  ∀ (s : State) (v : Word),
    let key := v.toNat / 256
    (∀ i ∈ [Instr.systemResetRequest v, .applicationResetRequest v, .linkResetRequest v],
      (key ≠ 0x9740 ∨ v.toNat % 8 = 0 → Answers i s fun t => t = s)
      ∧ (key = 0x9740 → s.asleep = false → s.outOfReset → s.nvmIdle →
        (v.getLsbD 2 = true → Answers i s fun t => t.sys.inReset = some .system ∧ t.mem = s.mem ∧ t.bit Reg.SYS_RSTCAUSE 5 = true
          ∧ t.rtc = s.rtc ∧ t.hop = {} ∧ t.tb = {} ∧ t.slot = {} ∧ t.a0.run = .held ∧ t.a1.run = .held ∧ t.lk.run = .held
          ∧ ∀ a, keptReg a = false → a ≠ Reg.SYS_CLKSTAT → t.reg a = resetWord a)
        ∧ (v.getLsbD 2 = false → v.getLsbD 1 = true → Answers i s fun t => t.sys.inReset = some .application ∧ t.mem = s.mem
          ∧ t.bit Reg.SYS_RSTCAUSE 4 = true ∧ t.bit Reg.SYS_CORECTL 1 = false ∧ t.lk = s.lk ∧ t.tb = s.tb ∧ t.hop = s.hop ∧ t.slot = s.slot
          ∧ t.a0.run = .held ∧ t.a1.run = .held ∧ t.a0.pc = 0xE00000#24 ∧ t.a1.pc = 0xE00000#24 ∧ t.a0.ivb = 0xE07F00#24
          ∧ t.sys.wdCount = 0 ∧ t.sys.wdDiv = 0)
        ∧ (v.getLsbD 2 = false → v.getLsbD 1 = false → v.getLsbD 0 = true → Answers i s fun t => t.sys.inReset = some .link ∧ t.mem = s.mem
          ∧ t.bit Reg.SYS_RSTCAUSE 3 = true ∧ t.a0 = s.a0 ∧ t.a1 = s.a1 ∧ t.tb = s.tb ∧ t.hop = s.hop ∧ t.bit Reg.SLOT_CTL 22 = true
          ∧ t.lk.run = .held ∧ t.lk.pc.toNat = 0xD00000 + (if s.bit Reg.SLOT_LKBANK 23 then 0x4000 else 0)))
      ∧ (key = 0x9740 → v.toNat % 8 ≠ 0 → s.asleep = false → s.sys.inReset = some .power → Answers i s fun t =>
        { s with regs := t.regs, intc := { s.intc with ashPend := s.intc.ashPend ||| 0x4000#16 } } = t ∧ s.KeepsRegs t [Reg.SYS_RSTCAUSE] ∧ ∀ j, (s.reg Reg.SYS_RSTCAUSE).getLsbD j = true → (t.reg Reg.SYS_RSTCAUSE).getLsbD j = true))

/-- R27, R205: RESET_N begins a system reset with its cause; a release starts the cores that the reset reached where R205 says they start, and no reset is in progress after it. -/
def Obligations.ResetRelease : Prop :=
  ∀ (s : State) (compat kek : Bool),
    (s.outOfReset → s.nvmIdle → s.sys.power ≠ .off → Answers .resetPin s fun t =>
      t.sys.inReset = some .system ∧ t.sys.pinLow = true ∧ t.bit Reg.SYS_RSTCAUSE 2 = true ∧ t.mem = s.mem)
    ∧ (s.outOfReset → Answers (.resetRelease compat kek) s fun t => t = s)
    ∧ (s.sys.vddLow = false → s.sys.power ≠ .off →
      (s.sys.inReset = some .link → Answers (.resetRelease compat kek) s fun t => t.sys.inReset = none
        ∧ t.lk = { s.lk with run := if s.bit Reg.SYS_CORECTL 0 then .run else .held } ∧ t.a0 = s.a0 ∧ t.a1 = s.a1 ∧ t.regs = s.regs)
      ∧ (s.sys.inReset = some .application → Answers (.resetRelease compat kek) s fun t => t.sys.inReset = none
        ∧ t.a0 = { s.a0 with run := .run } ∧ t.a1 = s.a1 ∧ t.lk = s.lk ∧ t.regs = s.regs)
      ∧ (s.sys.inReset = some .system ∨ s.sys.inReset = some .power → Answers (.resetRelease compat kek) s fun t => t.sys.inReset = none
        ∧ t.a0 = { s.a0 with run := .run } ∧ t.a1 = s.a1 ∧ t.lk = s.lk ∧ t.ashc.run = .run ∧ t.mem = s.mem
        ∧ (compat = true → t.bit Reg.SLOT_CTL 20 = true ∧ t.bit Reg.HOP_CTL 22 = true ∧ t.bit Reg.INT_CTL 23 = true)))

/-- R26, R27, R29: the watchdog's kick, its enabling and its timeout, which a link or application reset does not stop. R345, R346: a glitch raises the enclave's source 9; the fourth within 60 s begins a system reset with the Ashlar's cause. -/
def Obligations.WatchdogAndGlitches : Prop :=
  (
  ∀ (s : State) (v : Word),
    (s.asleep = false → Answers (.watchdogKick v) s fun t => t = if v = 0x00A5C3#24 then { s with sys := { s.sys with wdCount := 0, wdDiv := 0 } } else s)
    ∧ (s.asleep = false → Answers (.watchdogEnable v) s fun t => s.KeepsRegs t [Reg.SYS_WDCTL]
        ∧ t.bit Reg.SYS_WDCTL 23 = (s.bit Reg.SYS_WDCTL 23 || v.getLsbD 23) ∧ t.bit Reg.SYS_WDCTL 22 = v.getLsbD 22
        ∧ t.fld Reg.SYS_WDCTL 0 12 = v.toNat % 4096
        ∧ (s.bit Reg.SYS_WDCTL 23 = false → v.getLsbD 23 = true → t.sys.wdCount = 0 ∧ t.sys.wdDiv = 0))
    ∧ (s.bit Reg.SYS_WDCTL 23 = true → s.outOfReset → s.nvmIdle → s.bit Reg.DBG_CTL 20 = false → Answers .watchdogTimeout s fun t =>
        t.bit Reg.SYS_RSTCAUSE 6 = true ∧ t.mem = s.mem
        ∧ t.sys.inReset = some (if s.bit Reg.SYS_WDCTL 22 then .system else .application))
    ∧ (∀ c, s.bit Reg.SYS_WDCTL 23 = true → s.sys.inReset = some c → c = .link ∨ c = .application → s.nvmIdle → s.bit Reg.DBG_CTL 20 = false →
        Answers .watchdogTimeout s fun t => t.bit Reg.SYS_RSTCAUSE 6 = true ∧ t.mem = s.mem
        ∧ t.sys.inReset = some (if s.bit Reg.SYS_WDCTL 22 then .system else .application))
    ∧ (s.bit Reg.SYS_WDCTL 23 = false → Answers .watchdogTimeout s fun t => t = s))
  ∧ (
  ∀ (s : State) (gap : Nat),
    let quick := 3 ≤ s.ash.gaps.length ∧ (((gap :: s.ash.gaps).take 3).sum ≤ 60000)
    (¬ quick → Answers (.glitch gap) s fun t => t.ash.gaps = (gap :: s.ash.gaps).take 3 ∧ t.intc.ashPend.getLsbD 9 = true
      ∧ (∀ x, isJournal x = false → t.mem1 x = s.mem1 x)
      ∧ t.sys.inReset = s.sys.inReset)
    ∧ (quick → s.outOfReset → s.nvmIdle → Answers (.glitch gap) s fun t => t.sys.inReset = some .system ∧ t.bit Reg.SYS_RSTCAUSE 8 = true
      ∧ ∀ x, isJournal x = false → t.mem1 x = s.mem1 x))

/-- R26, R271, R276, R278, R400, R401, R452: a brown-out begins a power reset with its cause and takes the RTC domain to VBK, where the count of switch-overs counts; SRAM and link RAM
lose their contents; a switch-over with VDD absent leaves the part off with the RTC (assumption 107); the rise of VDD releases it, or starts the part from off; the warning of VDD; the loss of the RTC domain. -/
def Obligations.Supplies : Prop :=
  ∀ (s : State) (high compat kek : Bool),
    (∀ i ∈ [Instr.brownOut, .backupSwitchOver], s.sys.power ≠ .off → s.outOfReset → s.nvmIdle → s.losses.length = 9 → s.rtc.onVbk = false →
      Answers i s fun t => t.sys.inReset = some .power ∧ t.sys.power = (if i = .brownOut then s.sys.power else .off) ∧ t.sys.vddLow = true ∧ t.reg Reg.SYS_RSTCAUSE = 2#24 ∧ t.rtc.onVbk = true
        ∧ t.bit Reg.RTC_STAT 19 = true ∧ (s.reg Reg.RTC_SWCNT ≠ 0xFFFFFF#24 → t.reg Reg.RTC_SWCNT = s.reg Reg.RTC_SWCNT + 1#24)
        ∧ (∀ a, isFlash a = true ∨ isJournal a = true → t.mem1 a = s.mem1 a)
        ∧ ∀ a, isSram a = true ∨ isLinkRam a = true → t.mem1 a = Config.lostWord (s.losses.getD (lossRegion a) 0 + 1) a)
    ∧ Answers .backupSwitchBack s (fun t => t = { s with rtc := { s.rtc with onVbk := false } })
    ∧ (s.sys.inReset = some .power → s.sys.power ≠ .off → Answers (.powerUp high compat kek) s fun t =>
        t.rtc.onVbk = false ∧ t.sys.vddLow = false ∧ t.sys.inReset = (if high then none else some .power)
        ∧ (high = true → t.a0 = { s.a0 with run := .run }) ∧ t.mem = s.mem)
    ∧ (s.sys.power = .off → s.outOfReset ∨ s.sys.inReset = some .power → s.nvmIdle → s.losses.length = 9 → Answers (.powerUp high compat kek) s fun t =>
        t.rtc.onVbk = false ∧ t.sys.power = .on ∧ t.sys.vddLow = false ∧ t.sys.inReset = (if high then none else some .power)
        ∧ t.bit Reg.SYS_OFFSTAT 0 = true ∧ t.reg Reg.SYS_RSTCAUSE = 1#24 ∧ t.a0.pc = 0xE00000#24 ∧ (high = true → t.a0.run = .run)
        ∧ (∀ a, isFlash a = true ∨ isJournal a = true → t.mem1 a = s.mem1 a)
        ∧ ∀ a, isSram a = true ∨ isLinkRam a = true → t.mem1 a = Config.lostWord (s.losses.getD (lossRegion a) 0 + 1) a)
    ∧ (s.bit Reg.SYS_SUPCTL 9 = true → s.bit Reg.SYS_SUPSTAT 1 = false → s.asleep = false → Answers .vddWarning s fun t =>
        t.bit Reg.SYS_SUPSTAT 1 = true ∧ t.bit Reg.SYS_SUPSTAT 0 = true ∧ t.isPending 83 = true
        ∧ s.KeepsRegs t (Reg.SYS_SUPSTAT :: sourceRegs 83) ∧ t.mem = s.mem)
    ∧ Answers .vddWarningRelease s (fun t => s.OnlyRegs t [Reg.SYS_SUPSTAT] ∧ t.bit Reg.SYS_SUPSTAT 1 = false)
    ∧ Answers .rtcDomainLoss s (fun t => t.isPending 106 = true ∧ t.reg Reg.SYS_OFFSTAT = 0#24 ∧ t.mem = s.mem ∧ t.rtc = { onVbk := s.rtc.onVbk }
        ∧ ∀ a, isRtcReg a = true → t.reg a = resetWord a)

/-! ## The interrupt controller (R239 to R251) -/

/-- R239, R240, R247: an event of a type-E source makes it pending outside deep sleep, and changes the pending state of no other source and nothing
but the controller; a source of 124 and above never becomes pending. R241 to R243: the source presented to a core is presentable and of a group more urgent than the core's running level, and no such source has a
smaller pri, or the same pri and a lower number; with none presented there is no such source. -/
def Obligations.InterruptSources : Prop :=
  (
  ∀ (s : State) (n : Nat),
    (n < 124 → s.asleep = false → isLevel n = false →
      (s.raise n).isPending n = true ∧ s.KeepsRegs (s.raise n) (sourceRegs n)
      ∧ (∀ m, m < 124 → m ≠ n → isLevel m = false → (s.raise n).isPending m = s.isPending m)
      ∧ s.raise n = { s with regs := (s.raise n).regs, intc := { s.intc with released := (s.raise n).intc.released } })
    ∧ (124 ≤ n → s.raise n = s))
  ∧ (
  ∀ (s : State) (c : Nat),
    let can := fun (n : Nat) => n < 124 ∧ s.presentable c n = true ∧ s.groupOf c n < s.level c
    let pri := fun (n : Nat) => s.fld (Reg.INT_SRC n) 16 5
    (∀ n, s.presented c = some n → can n ∧ ∀ m, can m → pri n < pri m ∨ (pri n = pri m ∧ n ≤ m))
    ∧ (s.presented c = none → ∀ n, ¬ can n))

/-- R239, R245 to R250: the end of an interrupt, software interrupts, source settings, and the ends of coalescing windows: the window closes with the conditions that held, its
pending members are presentable again, and nothing outside the controller changes. -/
def Obligations.InterruptCommands : Prop :=
  ∀ (s : State) (v : Word), s.asleep = false →
    (∀ (c : Fin 3), s.bit Reg.INT_CTL 23 = false →
      (s.activeFor (v.toNat % 128) c.val = true → Answers (.endOfInterrupt c v) s fun t =>
        t.activeFor (v.toNat % 128) c.val = false ∧ t = { s with intc := { s.intc with active := t.intc.active } }
        ∧ ∀ n k, (n ≠ v.toNat % 128 ∨ k ≠ c.val) → t.activeFor n k = s.activeFor n k)
      ∧ (s.activeFor (v.toNat % 128) c.val = false → Answers (.endOfInterrupt c v) s fun t =>
        s.OnlyRegs t [Reg.INT_STAT] ∧ t.bit Reg.INT_STAT 0 = true))
    ∧ Answers (.softwareInterrupt v) s (fun t =>
        (∀ i, i < 4 → t.isPending (112 + i) = (v.getLsbD i || s.isPending (112 + i)))
        ∧ (∀ n, n < 112 → isLevel n = false → t.isPending n = s.isPending n)
        ∧ s.KeepsRegs t (sourceRegs 112) ∧ t.mem = s.mem)
    ∧ (∀ n : Fin 128, (124 ≤ n.val → Answers (.sourceSettingsWrite n v) s fun t => t = s)
        ∧ (n.val < 124 → Answers (.sourceSettingsWrite n v) s fun t => t.reg (Reg.INT_SRC n.val) = (s.storeReg (Reg.INT_SRC n.val) v).reg (Reg.INT_SRC n.val)
          ∧ s.KeepsRegs t (Reg.INT_SRC n.val :: sourceRegs 106) ∧ t.mem = s.mem))
    ∧ (∀ u : Fin 16,
      let closed := fun (count time slots : Bool) (t : State) =>
        t.reg (Reg.INT_CU_STAT u.val) = BitVec.ofNat 24 (count.toNat * 2 ^ 22 + time.toNat * 2 ^ 21 + slots.toNat * 2 ^ 20)
        ∧ (∀ n, n < 124 → s.isMember u.val n = true → s.isPending n = true → n ∈ t.intc.released) ∧ t.mem = s.mem
      let stat := Reg.INT_CU_STAT u.val
      (s.windowOpen u.val = true → s.countReached u.val = true → Answers (.coalescingCountReached u) s fun t =>
          closed true false (s.slotsReached u.val) t ∧ s.KeepsRegs t [stat])
      ∧ (s.windowOpen u.val = true → s.bit (Reg.INT_CU_CTL u.val) 22 = true → Answers (.coalescingTimeExpiry u) s fun t =>
          closed (s.countReached u.val) true (s.slotsReached u.val) t ∧ s.KeepsRegs t [stat])
      ∧ (s.windowOpen u.val = true → s.slotsReached u.val = true → Answers (.coalescingSlotExpiry u) s fun t =>
          closed (s.countReached u.val) false true t ∧ s.KeepsRegs t [stat])
      ∧ (s.bit (Reg.INT_CU_CTL u.val) 23 = true → v.getLsbD 23 = false → Answers (.coalescingDisable u v) s fun t =>
          t.bit (Reg.INT_CU_CTL u.val) 23 = false ∧ t.bit stat 23 = false ∧ s.KeepsRegs t [stat, Reg.INT_CU_CTL u.val]
          ∧ (∀ n, n < 124 → s.isMember u.val n = true → s.isPending n = true → n ∈ t.intc.released) ∧ t.mem = s.mem))

/-! ## Bedrock (R32 to R52) -/

/-- R32, R34, R35, R38, R40, R42, R52: the registers of Bedrock: the count as a read finds and shadows it, the slot length in its range, the phase adjustment, the preloads, the staged and
committed words of the arming and of the absolute values. -/
def Obligations.BedrockRegisters : Prop :=
  ∀ (s : State) (m : Master) (v : Word),
    let c := s.tb.count.toNat
    s.asleep = false →
    (s.reaches m Reg.TB_CNT0 false = true → Answers (.tbCnt0Read m) s fun t => t.sys.rdata = BitVec.ofNat 24 c ∧ t.latch m Reg.TB_CNT1 = BitVec.ofNat 24 (c / 2 ^ 24)
      ∧ t.latch m Reg.TB_CNT2 = BitVec.ofNat 24 (c / 2 ^ 48) ∧ t.regs = s.regs ∧ t.tb = s.tb ∧ t.mem = s.mem)
    ∧ (500000 ≤ v.toNat → v.toNat ≤ 16000000 → s.gen1 = false → Answers (.slotLengthWrite v) s fun t =>
        s.OnlyRegs t [Reg.TB_SLOTLEN] ∧ t.reg Reg.TB_SLOTLEN = v)
    ∧ (v.toNat < 500000 ∨ 16000000 < v.toNat → Answers (.slotLengthWrite v) s fun t =>
        t.reg Reg.TB_SLOTLEN = s.reg Reg.TB_SLOTLEN ∧ t.bit Reg.TB_STAT 0 = true ∧ t.isPending 56 = true ∧ t.tb = s.tb)
    ∧ (s.bit Reg.SLOT_CTL 21 = false → Answers (.phaseAdjustWrite v) s fun t =>
        s.OnlyRegs t [Reg.TB_PHADJ] ∧ t.reg Reg.TB_PHADJ = v &&& 0x01FFFF#24 ||| 0x800000#24)
    ∧ (∀ n : Fin 32, Answers (.preloadWrite n v) s fun t => s.OnlyRegs t [Reg.TB_SCMP n.val, Reg.TB_CHSTAT n.val]
        ∧ t.reg (Reg.TB_SCMP n.val) = v ∧ t.bit (Reg.TB_CHSTAT n.val) 22 = true)
    ∧ (s.reaches m Reg.TB_ARMSETH true = true → Answers (.armStage m v) s fun t => t = (s.begun m).setLatch m Reg.TB_ARMSETH (v &&& 0x80FFFF#24))
    ∧ (s.reaches m Reg.TB_DISARMH true = true → Answers (.disarmStage m v) s fun t => t = (s.begun m).setLatch m Reg.TB_DISARMH (v &&& 0x00FFFF#24))
    ∧ (∀ (n : Fin 8) (top : Bool),
      let a := if top then Reg.TB_ACMP_2 n.val else Reg.TB_ACMP_1 n.val
      s.reaches m a true = true → Answers (.absoluteValueStage m n top v) s fun t => t = (s.begun m).setLatch m a v)
    ∧ (∀ n : Fin 8, s.reaches m (Reg.TB_ACMP_0 n.val) true = true → Answers (.absoluteValueLoad m n v) s fun t => t.reg (Reg.TB_ACMP_0 n.val) = v
        ∧ t.reg (Reg.TB_ACMP_1 n.val) = s.latch m (Reg.TB_ACMP_1 n.val) ∧ t.reg (Reg.TB_ACMP_2 n.val) = s.latch m (Reg.TB_ACMP_2 n.val)
        ∧ s.KeepsRegs t [Reg.TB_ACMP_0 n.val, Reg.TB_ACMP_1 n.val, Reg.TB_ACMP_2 n.val] ∧ t.latches = s.latches ∧ t.tb.count = s.tb.count
        ∧ (s.armed (32 + n.val) = true → s.tb.lateAt.length = 8 → t.lateAt n.val = if t.acmp n.val ≤ c then some (c + 1) else none))
    ∧ (∀ r : BitVec 48, s.bit Reg.TB_RTCCAL 23 = true → s.bit Reg.SYS_CLKSTAT 21 = true → Answers (.rtcCalDone r) s fun t =>
        t.reg Reg.TB_RTCRES0 = r.extractLsb' 0 24 ∧ t.reg Reg.TB_RTCRES1 = r.extractLsb' 24 24 ∧ t.bit Reg.TB_RTCCAL 23 = false
        ∧ t.bit Reg.TB_RTCCAL 22 = true ∧ t.isPending 57 = true ∧ t.tb = s.tb)
    ∧ Answers (.rtcCalStart v) s (fun t => s.OnlyRegs t [Reg.TB_RTCCAL] ∧ t.fld Reg.TB_RTCCAL 0 4 = v.toNat % 16
        ∧ t.bit Reg.TB_RTCCAL 23 = (s.bit Reg.TB_RTCCAL 23 || (v.getLsbD 23 && s.bit Reg.SYS_CLKSTAT 21)))

/-- R40, R41: a commit of arms arms exactly the channels that its two words choose, at once or, with the wrap-tick bit staged, at the next wrap tick; a commit of disarms disarms the
chosen ones, one whose match tick this is fires, and one that this wrap tick has armed is as before. R42: an absolute channel whose value lies at or below the count as it is armed fires late
one tick on. -/
def Obligations.ArmingChannels : Prop :=
  ∀ (s : State) (m : Master) (v : Word) (n : Nat), n < 40 →
    let staged := s.latch m Reg.TB_ARMSETH
    let dis := s.latch m Reg.TB_DISARMH
    let picks := fun (h : Word) => if n < 24 then v.getLsbD n else h.getLsbD (n - 24)
    let event : FabricEntry := { raised := s.tb.count.toNat, ev := .channel n }
    s.asleep = false →
    (s.reaches m Reg.TB_ARMSET true = true →
      (staged.getLsbD 23 = false → Answers (.armCommit m v) s fun t => t.armed n = (s.armed n || picks staged) ∧ t.tb.wrapArm = s.tb.wrapArm
        ∧ t.latch m Reg.TB_ARMSETH = 0#24 ∧ t.tb.count = s.tb.count
        ∧ (32 ≤ n → s.tb.lateAt.length = 8 → s.armed n = false → picks staged = true →
          t.lateAt (n - 32) = if s.acmp (n - 32) ≤ s.tb.count.toNat then some (s.tb.count.toNat + 1) else none))
      ∧ (staged.getLsbD 23 = true → Answers (.armCommit m v) s fun t => t.regs = s.regs
        ∧ t.tb.wrapArm.getLsbD n = (s.tb.wrapArm.getLsbD n || picks staged) ∧ t.latch m Reg.TB_ARMSETH = 0#24))
    ∧ (s.reaches m Reg.TB_DISARM true = true → s.bit Reg.TB_CTL 3 = false ∨ s.bit Reg.TB_CTL 0 = true →
      (s.tb.wrapped = [] → Answers (.disarmCommit m v) s fun t => t.armed n = (s.armed n && !picks dis)
        ∧ t.tb.wrapArm.getLsbD n = (s.tb.wrapArm.getLsbD n && !picks dis) ∧ t.latch m Reg.TB_DISARMH = 0#24
        ∧ (picks dis = true → s.matchesNow n = true → event ∈ t.tb.fabric ∧ t.bit (Reg.TB_CHSTAT n) 0 = true))
      ∧ ∀ w : WrapArmed, s.tb.wrapped = [w] → w.ch = n → picks dis = true → Answers (.disarmCommit m v) s fun t =>
          t.reg (Reg.TB_CHSTAT n) = w.was ∧ event ∉ t.tb.fabric)

/-- R31, R33, R36, R37, R42, R43: time at Bedrock: a wrap takes the phase to 0 and counts the rest of the slot and a slot tick; an armed channel fires in its match tick, once, with its event on the fabric; the rate
trim's carry advances count and phase by 2 and its borrow holds them. -/
def Obligations.BedrockTime : Prop :=
  ∀ (s : State), s.bedrockRuns = true →
    (s.bit Reg.TB_CTL 0 = true → s.tb.phase < s.tb.len → Answers .slotWrap s fun t =>
      t.tb.count = s.tb.count + BitVec.ofNat 72 (s.tb.len - s.tb.phase) ∧ t.tb.phase = 0
      ∧ { raised := t.tb.count.toNat, ev := .slotTick } ∈ t.tb.fabric
      ∧ (s.standby = false → s.bit Reg.SLOT_CTL 21 = false →
        let l := (s.reg Reg.TB_SLOTLEN).toNat
        let n := (l : Int) - ((s.reg Reg.TB_PHADJ).extractLsb' 0 17).toInt
        t.tb.len = (if s.bit Reg.TB_PHADJ 23 = true ∧ 500000 ≤ n ∧ n ≤ 16000000 then n.toNat else l) ∧ t.bit Reg.TB_PHADJ 23 = false)
      ∧ (∀ n : Fin 32, t.bit (Reg.TB_CHSTAT n.val) 22 = false
        ∧ t.scact n.val = if s.bit (Reg.TB_CHSTAT n.val) 22 then (s.reg (Reg.TB_SCMP n.val)).toNat else s.scact n.val)
      ∧ (s.slot.asnReq = none → t.slot.asn = if s.bit Reg.SLOT_CTL 23 then s.slot.asn + 1#40 else s.slot.asn)
      ∧ ∀ a, s.slot.asnReq = some a → t.slot.asn = BitVec.ofNat 40 a)
    ∧ (∀ v : Word, s.asleep = false → v.getLsbD 0 = false → Answers (.slotPhaseStart v) s fun t => s.KeepsRegs t [Reg.TB_CTL] ∧ t.bit Reg.TB_CTL 0 = false
        ∧ t.tb = { s.tb with phase := 0 })
    ∧ (∀ v : Word, s.asleep = false → v.getLsbD 0 = true → s.bit Reg.TB_CTL 0 = false → Answers (.slotPhaseStart v) s fun t =>
        t.tb.count = s.tb.count + 1#72 ∧ t.tb.phase = 0 ∧ { raised := t.tb.count.toNat, ev := .slotTick } ∈ t.tb.fabric)
    ∧ (∀ n : Fin 32, s.bit Reg.TB_CTL 0 = true → s.armed n.val = true → s.tb.phase < s.scact n.val → s.scact n.val < s.tb.len →
      Answers (.slotCompareMatch n) s fun t => t.tb.phase = s.scact n.val ∧ t.armed n.val = false ∧ t.bit (Reg.TB_CHSTAT n.val) 0 = true
        ∧ t.tb.fabric = s.tb.fabric ++ [{ raised := t.tb.count.toNat, ev := .channel n.val }] ∧ s.KeepsRegs t [Reg.TB_CHSTAT n.val]
        ∧ t.tb.count = s.tb.count + BitVec.ofNat 72 (s.scact n.val - s.tb.phase))
    ∧ (∀ n : Fin 8, s.armed (32 + n.val) = true →
      let at_ := (s.lateAt n.val).getD (s.acmp n.val)
      s.tb.count.toNat < at_ → at_ < 2 ^ 72 → s.bit Reg.TB_CTL 3 = false → (s.bit Reg.TB_CTL 0 = false ∨ s.tb.phase + (at_ - s.tb.count.toNat) < s.tb.len) →
      Answers (.absoluteCompareMatch n) s fun t => t.tb.count = BitVec.ofNat 72 at_ ∧ t.armed (32 + n.val) = false
        ∧ t.bit (Reg.TB_CHSTAT (32 + n.val)) 0 = true ∧ ((s.lateAt n.val).isSome = true → t.bit (Reg.TB_CHSTAT (32 + n.val)) 1 = true)
        ∧ t.tb.fabric = s.tb.fabric ++ [{ raised := at_, ev := .channel (32 + n.val) }]
        ∧ s.KeepsRegs t [Reg.TB_CHSTAT (32 + n.val)])
    ∧ (s.bit Reg.TB_CTL 0 = false → s.bit Reg.TB_CTL 3 = true → s.armed 33 = true → s.lateAt 1 = none → s.tb.count.toNat < s.acmp 1 →
      Answers (.absoluteCompareMatch 1) s fun t => t.tb.count = BitVec.ofNat 72 (s.acmp 1) ∧ t.bit Reg.TB_CTL 0 = true ∧ t.tb.phase = 0
        ∧ { raised := s.acmp 1, ev := .slotTick } ∈ t.tb.fabric)
    ∧ (s.bit Reg.TB_CTL 2 = true → (s.reg Reg.TB_RATE).msb = true → (s.bit Reg.TB_CTL 0 = false ∨ s.tb.phase + s.carryTicks ≤ s.tb.len) →
      Answers .rateTrimCarry s fun t => t.tb.count = s.tb.count + BitVec.ofNat 72 (s.carryTicks - 1) ∧ t.regs = s.regs)
    ∧ (s.bit Reg.TB_CTL 2 = true → 0 < (s.reg Reg.TB_RATE).toInt → s.bit Reg.TB_CTL 0 = false → s.bit Reg.TB_CTL 3 = false →
      Answers .rateTrimCarry s fun t => t.tb.count = s.tb.count + BitVec.ofNat 72 (s.carryTicks + 1) ∧ t.tb.phase = s.tb.phase)

/-- R44 to R48: the oldest event on the fabric acts 8 ticks after it was raised, where it is routed; a slot tick reaches the cores and source 48; a selected edge of an enabled input captures the count less its
lag; a read of a capture brings the hold forward. -/
def Obligations.EventsAndCaptures : Prop :=
  ∀ (s : State), s.asleep = false →
    (∀ (n at_ : Nat) (rest : List FabricEntry), n < 40 → s.tb.fabric = { raised := at_, ev := .channel n } :: rest → Answers .eventDelivery s fun t =>
      t.tb.fabric = rest ∧ ((s.reg (Reg.TB_CHCTL n)).getLsbD 5 = true → t.isPending n = true)
      ∧ (s.bedrockRuns = true → s.bit Reg.TB_CTL 0 = false → at_ + 8 < 2 ^ 72 → t.tb.count.toNat = max s.tb.count.toNat (at_ + 8))
      ∧ (s.reg (Reg.TB_CHCTL n) &&& 0x3E#24 = 0#24 → at_ + 8 ≤ s.tb.count.toNat → t = { s with tb := { s.tb with fabric := rest } }))
    ∧ (∀ (n at_ : Nat) (rest : List FabricEntry), n < 8 → s.tb.fabric = { raised := at_, ev := .capture n } :: rest → Answers .eventDelivery s fun t =>
      t.tb.fabric = rest ∧ ((s.reg (Reg.TB_CAPSRC n)).getLsbD 7 = true → t.isPending (40 + n) = true))
    ∧ (s.tb.fabric = [] → Answers .eventDelivery s fun t => t = s)
    ∧ (∀ (at_ : Nat) (rest : List FabricEntry), s.tb.fabric = { raised := at_, ev := .slotTick } :: rest → s.tw.change = none → s.bit Reg.SLOT_CTL 23 = false →
      Answers .slotTickActed s fun t => t.tb.fabric = rest ∧ t.isPending 48 = true
      ∧ ∀ c, t.core c = { s.core c with waits := (s.core c).waits.map ({ · with seen := true }), cyc := (t.core c).cyc, tickCyc := (t.core c).tickCyc })
    ∧ (∀ (n : Fin 8) (rising : Bool), s.bedrockRuns = true → s.bit (Reg.TB_CAPCTL n.val) 23 = true → s.fld (Reg.TB_CAPSRC n.val) 0 5 < 28 →
      (s.cap n.val).level ≠ rising → s.tb.caps.length = 8 → s.edgeSelected n.val rising = true →
      (s.fld (Reg.TB_CAPCTL n.val) 6 8 ≤ s.fld (Reg.TB_CAPSTAT n.val) 8 8 → (s.cap n.val).visible = none →
        Answers (.captureEdge n rising) s fun t => (t.cap n.val).visible = some (s.tb.count - BitVec.ofNat 72 (s.captureLag n.val))
          ∧ t.tb.fabric = s.tb.fabric ++ [{ raised := s.tb.count.toNat, ev := .capture n.val }] ∧ t.bit (Reg.TB_CAPSTAT n.val) 1 = true
          ∧ t.fld (Reg.TB_CAPSTAT n.val) 8 8 = 0 ∧ s.KeepsRegs t [Reg.TB_CAPSTAT n.val])
      ∧ (s.fld (Reg.TB_CAPSTAT n.val) 8 8 < s.fld (Reg.TB_CAPCTL n.val) 6 8 → Answers (.captureEdge n rising) s fun t =>
          t.fld (Reg.TB_CAPSTAT n.val) 8 8 = s.fld (Reg.TB_CAPSTAT n.val) 8 8 + 1 ∧ t.tb.fabric = s.tb.fabric
          ∧ (t.cap n.val).visible = (s.cap n.val).visible))
    ∧ (∀ (m : Master) (n : Fin 8) (w : BitVec 72), s.reaches m (Reg.TB_CAP_0 n.val) false = true → s.tb.caps.length = 8 → (s.cap n.val).visible = some w →
        Answers (.captureRead m n) s fun t =>
        t.sys.rdata = w.extractLsb' 0 24 ∧ t.latch m (Reg.TB_CAP_1 n.val) = w.extractLsb' 24 24 ∧ t.latch m (Reg.TB_CAP_2 n.val) = w.extractLsb' 48 24
        ∧ (t.cap n.val).visible = (s.cap n.val).hold ∧ (t.cap n.val).hold = none ∧ t.bit (Reg.TB_CAPSTAT n.val) 1 = (s.cap n.val).hold.isSome)
    ∧ ∀ (n : Fin 8) (v : Word) (level : Bool), v.getLsbD 23 = true → s.bit (Reg.TB_CAPCTL n.val) 23 = false → s.tb.caps.length = 8 →
        Answers (.captureEnable n v level) s fun t => t.bit (Reg.TB_CAPCTL n.val) 23 = true ∧ t.fld (Reg.TB_CAPSTAT n.val) 8 8 = 0
          ∧ (t.cap n.val).level = (level && decide (s.fld (Reg.TB_CAPSRC n.val) 0 5 < 28))

/-- R49 to R51, R140, R274: in deep sleep the count goes on by RTC edges; at a wake channel's lead the exit begins, and at the re-alignment ticks count again, realn is set, and the ASN takes the wraps
that passed; with the time-base PLL disabled the exit ends and Bedrock goes on extrapolating. -/
def Obligations.Realignment : Prop :=
  ∀ (s : State), s.tb.extrap = true →
    (∀ n : Fin 8, s.sys.power = .deepSleep → s.armed (32 + n.val) = true → s.bit (Reg.TB_CHCTL (32 + n.val)) 6 = true →
      Answers (.wakeLeadReached n) s fun t => t.sys.power = .exiting ∧ t.tb.extrap = true ∧ t.regs = s.regs ∧ t.mem = s.mem
        ∧ t.tb.count = s.tb.count + BitVec.ofNat 72 ((s.tb.acc.toNat + s.edgesToWake n.val * s.tb.inc) / 2 ^ 32))
    ∧ ∀ edges : Nat, s.sys.power = .exiting → s.sourcesReady = true →
      (s.bit Reg.SYS_CLKSTAT 21 = true → Answers (.realignment edges) s fun t =>
        t.tb.extrap = false ∧ t.sys.power = .on ∧ t.bit Reg.TB_STAT 2 = true ∧ t.mem = s.mem
        ∧ t.tb.count = s.tb.count + BitVec.ofNat 72 ((s.tb.acc.toNat + edges * s.tb.inc) / 2 ^ 32)
        ∧ (s.bit Reg.SLOT_CTL 23 = true → t.slot.asn = s.slot.asn + BitVec.ofNat 40 (s.extrapolate edges).tb.wraps))
      ∧ (s.bit Reg.SYS_CLKSTAT 21 = false → Answers (.realignment edges) s fun t =>
        t.tb.extrap = true ∧ t.sys.power = .on ∧ t.slot = { s.slot with es := t.slot.es } ∧ t.mem = s.mem
        ∧ t.tb.count = s.tb.count + BitVec.ofNat 72 ((s.tb.acc.toNat + edges * s.tb.inc) / 2 ^ 32))

/-! ## The radio front end (R53 to R73, R471) -/

/-- R58, R59, R61, R63, R69, R129: the paths of the front end: enabling and disabling, bias start, synthesiser calibration, lock and its failure, the turn, the ramp, and the steps and the ends of
an idle grant, where no further step fits in it; and the FEM lines, whose bypass code follows pol too (the model's choice, assumption 113). -/
def Obligations.FrontEndPaths : Prop :=
  ∀ (s : State) (p1 : Bool) (v : Word) (temp : BitVec 8) (k : Fin 3),
    let still := s.granted = false ∨ s.gend < s.tb.phase + 4400
    let stat := [Reg.RFE_STAT, Reg.RFE_SYSTAT]
    let reached := s.asleep = false ∧ s.gateOpen Reg.RFE_CTL = true
    let fem := fun (a b c : Bool) => s.femPads = (a != s.bit Reg.RFE_FEMCFG 1, b != s.bit Reg.RFE_FEMCFG 1, c != s.bit Reg.RFE_FEMCFG 1)
    (reached → s.bit Reg.RFE_CTL 0 = false → v.getLsbD 0 = true → s.bit Reg.SYS_CLKSTAT 17 = false → Answers (.frontEndEnable v) s fun t =>
        t.bit Reg.RFE_CTL 0 = true ∧ t.rfe.bias0 = true ∧ t.rfe.bias1 = v.getLsbD 1 ∧ t.mem = s.mem ∧ s.KeepsRegs t [Reg.RFE_CTL, Reg.RFE_BGSTAT])
    ∧ (reached → s.bit Reg.RFE_CTL 0 = true → v.getLsbD 0 = false → s.slot.op = none → s.phy.rx = [] → Answers (.frontEndDisable v) s fun t =>
        t.bit Reg.RFE_CTL 0 = false ∧ t.path false = 0 ∧ t.path true = 0 ∧ t.syLocked false = false ∧ t.syLocked true = false ∧ t.rfe.tx = none
        ∧ t.rfe.direct = none ∧ (s.rfe.direct.isSome = true → t.fld Reg.RFE_DSTAT 0 8 = 2 ∧ t.isPending 58 = true) ∧ t.mem = s.mem)
    ∧ ((if p1 then s.rfe.bias1 else s.rfe.bias0) = true → s.rfe.direct = none → Answers (.biasStartDone p1) s fun t =>
        t.path p1 = (if s.syValid p1 then 1 else 2) ∧ t.path (!p1) = s.path (!p1) ∧ s.KeepsRegs t [Reg.RFE_STAT] ∧ t.mem = s.mem)
    ∧ (∀ g d, s.path p1 = 2 → s.tuneOf p1 = some (g, d) → Answers (.synthCalDone p1 temp) s fun t =>
        t.path p1 = 3 ∧ t.tuneOf p1 = some (g, d) ∧ t.syValid p1 = true ∧ t.syTemp p1 = temp.toInt ∧ t.syLocked p1 = false ∧ t.mem = s.mem
        ∧ (if p1 then t.rfe.chan1 else t.rfe.chan0) = g)
    ∧ (s.path p1 = 2 → s.tuneOf p1 = none → s.rfe.direct = none → still → Answers (.synthCalDone p1 temp) s fun t =>
        t.path p1 = 1 ∧ t.syValid p1 = true ∧ t.syTemp p1 = temp.toInt ∧ t.syLocked p1 = false ∧ s.KeepsRegs t (Reg.RFE_BGSTAT :: stat) ∧ t.mem = s.mem)
    ∧ (s.path p1 = 3 → s.rfe.direct = none → still → Answers (.lockDetected p1 k) s fun t =>
        t.path p1 = 1 ∧ t.syLocked p1 = true ∧ t.tuneOf p1 = none ∧ s.KeepsRegs t stat ∧ t.mem = s.mem)
    ∧ (s.path p1 = 3 → s.slot.op = none → (s.tuneOf p1).map (·.2) ≠ some true → s.asleep = false → Answers (.lockTimeout p1) s fun t =>
        t.path p1 = 1 ∧ t.bit Reg.RFE_STAT 1 = true ∧ t.isPending 60 = true ∧ t.syValid p1 = false ∧ s.KeepsRegs t (stat ++ sourceRegs 60) ∧ t.mem = s.mem)
    ∧ (∀ g, s.path p1 = 3 → s.tuneOf p1 = some (g, true) → s.phy.rx = [] → s.asleep = false → Answers (.lockTimeout p1) s fun t =>
        t.path p1 = 1 ∧ t.bit Reg.RFE_STAT 1 = true ∧ t.syValid p1 = false ∧ t.fld Reg.RFE_DSTAT 0 8 = 0x40 ∧ t.rfe.direct = none ∧ t.isPending 58 = true)
    ∧ (s.path false = 6 → Answers .turnDone s fun t =>
        t.path false = (if s.rfe.tx.isSome then 5 else 4) ∧ s.KeepsRegs t [Reg.RFE_STAT] ∧ t.rfe = s.rfe ∧ t.mem = s.mem)
    ∧ (∀ x, s.rfe.tx = some x → Answers .paRampDone s fun t => t.rfe = { s.rfe with tx := some { x with sending := true } } ∧ t.regs = s.regs ∧ t.mem = s.mem)
    ∧ (∀ n : Fin 4, s.rfe.step = some (n.val + 2) → s.rfe.bg.length = 4 → s.rfe.direct = none → still → Answers (.bgcalStepDone temp) s fun t =>
        t.path false = 1 ∧ t.bit Reg.RFE_BGSTAT n.val = false ∧ t.rfe.step = none
        ∧ t.rfe.bg[n.val]? = some { temp := some temp.toInt, age := 0, excess := 0 } ∧ s.KeepsRegs t [Reg.RFE_STAT, Reg.RFE_BGSTAT] ∧ t.mem = s.mem)
    ∧ (∀ n : Fin 4, ∀ b, s.rfe.bg[n.val]? = some b → b.temp.isSome = true → 2 ^ s.fld Reg.RFE_BGCFG (bgExpLo n.val) 4 ≤ b.age → s.bgEnabled n.val = true →
        still → Answers (.bgcalIntervalDue n) s fun t => t.bit Reg.RFE_BGSTAT n.val = true ∧ s.KeepsRegs t [Reg.RFE_BGSTAT] ∧ t.mem = s.mem)
    ∧ (∀ a e, s.rfe.grant = some (a, e) → s.slot.op = none → s.asleep = false → Answers (.grantStart temp) s fun t =>
        t.granted = true ∧ t.reg Reg.RFE_GEND = BitVec.ofNat 24 e ∧ t.reg Reg.RFE_TEMP = temp.zeroExtend 24 ∧ t.isPending 59 = true ∧ t.rfe.grant = none
        ∧ t.mem = s.mem ∧ s.KeepsRegs t ([Reg.RFE_GRANT, Reg.RFE_GEND, Reg.RFE_TEMP, Reg.RFE_BGSTAT, Reg.RFE_STAT] ++ sourceRegs 59)
        ∧ (s.bedrockRuns = true → s.bit Reg.TB_CTL 0 = true → s.tb.phase ≤ a → a < s.tb.len → t.tb.phase = a))
    ∧ (s.granted = true → s.rfe.direct = none → Answers .grantEnd s fun t =>
        t.granted = false ∧ s.KeepsRegs t [Reg.RFE_GRANT] ∧ t.rfe = s.rfe ∧ t.mem = s.mem)
    ∧ (s.bit Reg.RFE_FEMCFG 0 = false ∨ s.bit Reg.SYS_CLKSTAT 17 = true → fem false false true)
    ∧ (s.bit Reg.RFE_FEMCFG 0 = true → s.bit Reg.SYS_CLKSTAT 17 = false →
      (s.path false = 5 → fem true false false)
      ∧ (∀ d, s.toRamp = some d → d ≤ s.fld Reg.RFE_FEMCFG 20 4 * 200 → s.path false ≠ 0 → fem true false false)
      ∧ (s.path false = 4 → s.toRamp = none → fem false true false)
      ∧ (s.path false ≠ 4 → s.path false ≠ 5 → s.toRamp = none ∨ s.path false = 0 → fem false false true))

/-- R58, R60, R64 to R67, R107, R471: direct commands: one that arrives while another is open is answered BUSY; one that passes the checks settles, calibrates, receives or transmits; how each ends,
and what a stop does to it; a path that is OFF leaves it for no command. R70, R72: the keyed writes of RFE_RPCTL: ignored with another key or once the profile is locked; an operation's end ORs the word
into the OTP cells or locks the profile where its CRC matches; the end of a duty sub-window, in which a transmission on the air counts up to then. -/
def Obligations.FrontEndTransmissions : Prop :=
  (
  ∀ (s : State) (v : Word) (temp : BitVec 8) (flen : Nat) (env : AirEnv) (k : Fin 3), s.asleep = false → s.gateOpen Reg.RFE_DCMD = true → s.phy.rx = [] →
    let d := fun (op : Nat) => directOf (withField v 21 3 op) flen
    let chan := v.toNat % 256
    let ended := fun (t : State) (status : Nat) => t.rfe.direct = none ∧ t.bit Reg.RFE_DSTAT 23 = false ∧ t.fld Reg.RFE_DSTAT 0 8 = status ∧ t.isPending 58 = true ∧ t.mem = s.mem
    (∀ o, s.rfe.direct = some o → ∀ i ∈ [Instr.directTune v temp, .directReceive v temp, .directTransmit v temp flen env, .directCw v temp env, .directCalibrate v],
      Answers i s fun t => t.rfe = s.rfe ∧ t.fld Reg.RFE_DSTAT 0 8 = 3 ∧ t.bit Reg.RFE_DSTAT 23 = s.bit Reg.RFE_DSTAT 23 ∧ t.isPending 58 = true ∧ t.phy.rx = s.phy.rx)
    ∧ (s.rfe.direct = none → v.getLsbD 20 = false → s.bit Reg.RFE_CTL 0 = true → s.granted = true → s.tunable chan = true →
      (s.path false = 0 → s.rfe.bias0 = false → ∀ i ∈ [Instr.directTune v temp, .directCalibrate v], Answers i s fun t => ended t 3 ∧ t.path false = 0)
      ∧ (s.path false = 1 → s.rfe.step = none → s.rfe.tune0 = none →
        let calm := s.syNeedsCal false = false ∧ s.tempStep temp.toInt (s.syTemp false) = false
        let lock := s.lockTicks false chan false
        (calm → s.tb.phase + 12000 < s.gend → Answers (.directTune v temp) s fun t =>
            t.path false = 3 ∧ t.rfe.tune0 = some (chan, true) ∧ t.rfe.chan0 = chan ∧ t.rfe.direct = some { d 1 with flen := 0 } ∧ t.bit Reg.RFE_DSTAT 23 = true ∧ t.mem = s.mem)
        ∧ (s.gend ≤ s.tb.phase + 12000 → ∀ i ∈ [Instr.directTune v temp, .directCalibrate v], Answers i s fun t => ended t 3 ∧ t.path false = 1)
        ∧ (s.tb.phase + 36000 < s.gend → Answers (.directCalibrate v) s fun t => t.path false = 2 ∧ t.bit Reg.RFE_DSTAT 23 = true ∧ t.mem = s.mem
            ∧ t.rfe.direct = some { d 5 with flen := 0, held := false, started := true })
        ∧ (calm → lock = 0 → s.dws ≤ s.tb.phase → s.tb.phase ≤ s.dwe →
          (s.rxModeIllegal s.dmode = false → Answers (.directReceive v temp) s fun t => t.path false = 4 ∧ t.bit Reg.RFE_DSTAT 23 = true ∧ t.mem = s.mem
            ∧ t.phy.rx = if s.bit Reg.PHY_CTL 0 then
                [{ mode := s.dmode, direct := true, chB := false, forAck := false, chan := chan, hop := (s.entryOf chan).getD 72 }] else [])
          ∧ (∀ i op, (i = .directTransmit v temp flen env ∧ op = 3 ∧ s.txModeIllegal s.dmode = false
                ∧ s.dwe + s.frameTicks s.dmode flen 24 + 2 * s.rampTicks < s.gend) ∨ (i = .directCw v temp env ∧ op = 4) →
              -20 ≤ (d op).pwr → (d op).pwr ≤ 20 → s.regCause (s.directCheck (d op) (s.tb.count.toNat - s.rfe.settled)) env = none → Answers i s fun t =>
                let p := s.powerSetting chan (vpaLowAfter (s.bit Reg.RFE_STAT 0) env.vpa) (d op).pwr
                t.path false = 5 ∧ t.bit Reg.RFE_DSTAT 23 = true ∧ (∃ x, t.rfe.tx = some x ∧ x.direct = true ∧ x.sending = false)
                ∧ t.fld Reg.RFE_TXSTAT 0 6 = (wordOfInt p).toNat % 64 ∧ t.rfe.pa = s.paEntry chan p))))
    ∧ (s.rfe.direct = none → Answers (.directStop v) s fun t => t = s.noteBus false)
    ∧ (∀ o, s.rfe.direct = some o →
      (o.op = 1 ∨ o.op = 5 → Answers (.directStop v) s fun t => s.OnlyBlockRegs t [Reg.RFE_DCMD])
      ∧ (o.op ≠ 1 → o.op ≠ 5 → o.held = true → Answers (.directStop v) s fun t => ended t 2)
      ∧ (o.op = 2 → o.held = false → Answers (.directStop v) s fun t => ended t 1 ∧ t.path o.sy1 = 1)
      ∧ (o.op = 4 → o.held = false → Answers (.directStop v) s fun t => ended t 1 ∧ t.path false = 1 ∧ t.rfe.tx = none)
      ∧ (o.op = 3 → o.held = false → Answers (.directStop v) s fun t => ended t 2 ∧ t.path false = 1 ∧ t.rfe.tx = none)
      ∧ (s.granted = true → o.op = 2 ∨ o.op = 4 → Answers .grantEnd s fun t => ended t 1 ∧ t.granted = false ∧ t.path (o.op = 2 && o.sy1) = 1)
      ∧ (o.op = 5 → o.started = true → s.path o.sy1 = 2 → s.tuneOf o.sy1 = none → Answers (.synthCalDone o.sy1 temp) s fun t => ended t 1 ∧ t.syValid o.sy1 = true)
      ∧ (o.op = 1 → s.path o.sy1 = 3 → Answers (.lockDetected o.sy1 k) s fun t => ended t 0 ∧ t.syLocked o.sy1 = true)
      ∧ (o.held = true → o.op = 2 → s.syLocked o.sy1 = true → s.path o.sy1 = 1 → s.rfe.step = none →
        (s.dwe < s.tb.phase → Answers (.heldCommandStart env) s fun t => ended t 6)
        ∧ (s.tb.phase ≤ s.dwe → Answers (.heldCommandStart env) s fun t => t.path o.sy1 = 4 ∧ t.rfe.direct = some { o with held := false, started := true } ∧ t.mem = s.mem)))
    ∧ (∀ x, s.rfe.tx = some x → x.direct = true → x.air ≠ 0 → Answers .txFrameEnd s fun t =>
        ended t 1 ∧ t.path false = 1 ∧ t.rfe.tx = none ∧ t.fld Reg.RFE_TXSTAT 16 8 = 1
        ∧ t.reg (Reg.PHY_TXTS 0) = BitVec.ofNat 24 (x.sync / 8) ∧ t.reg Reg.PHY_TXTSF = BitVec.ofNat 24 (x.sync % 8 * 2 ^ 21))
    ∧ (∀ p1, s.path p1 = 4 → s.slot.op = none → s.rfe.direct = none → (s.granted = false ∨ s.gend < s.tb.phase + 4400) → Answers (.rxStop p1) s fun t =>
        t.path p1 = 1 ∧ s.OnlyRegs t [Reg.RFE_STAT]))
  ∧ (
  ∀ (s : State) (v : Word),
    (s.asleep = false → s.gateOpen Reg.RFE_RPCTL = true → ∀ i ∈ [Instr.rpctlProgram v, .rpctlLock v],
      (v.toNat / 65536 ≠ 0x97 ∨ s.rfe.otpLocked = true → Answers i s fun t => t = s.noteBus false)
      ∧ (v.toNat / 65536 = 0x97 → s.rfe.otpLocked = false → s.rfe.prof = none →
        (v.toNat / 16384 % 4 = 1 → v.toNat % 32 < 30 → Answers i s fun t => t.rfe = { s.rfe with prof := some (.program (v.toNat % 32) (s.reg Reg.RFE_RPDATA)) }
          ∧ t.bit Reg.RFE_RPSTAT 22 = true ∧ s.KeepsRegs t [Reg.RFE_RPSTAT])
        ∧ (v.toNat / 16384 % 4 = 2 → Answers i s fun t => t.rfe = { s.rfe with prof := some .lock } ∧ t.bit Reg.RFE_RPSTAT 22 = true ∧ s.KeepsRegs t [Reg.RFE_RPSTAT])))
    ∧ (∀ j w, s.rfe.prof = some (.program j w) → j < 30 → s.rfe.otp.length = 30 → Answers .profileOpDone s fun t =>
        t.profileWord j = s.profileWord j ||| w ∧ (∀ k, k ≠ j → t.profileWord k = s.profileWord k) ∧ t.rfe.prof = none ∧ t.bit Reg.RFE_RPSTAT 22 = false
        ∧ t.bit Reg.RFE_RPSTAT 20 = decide (s.profileWord j ||| w ≠ w) ∧ t.rfe.otpLocked = s.rfe.otpLocked ∧ s.KeepsRegs t [Reg.RFE_RPSTAT] ∧ t.mem = s.mem)
    ∧ (s.rfe.prof = some .lock → Answers .profileOpDone s fun t =>
        t.rfe = { s.rfe with otpLocked := decide (crc24 (s.rfe.otp.take 29) = (s.profileWord 29).toNat), prof := none }
        ∧ t.bit Reg.RFE_RPSTAT 19 = decide (crc24 (s.rfe.otp.take 29) ≠ (s.profileWord 29).toNat) ∧ s.KeepsRegs t [Reg.RFE_RPSTAT])
    ∧ (s.rfe.tx = none → Answers .dutySubwindowEnd s fun t => t.rfe = { s.rfe with duty := 0 :: s.rfe.duty.take 15 }
        ∧ t.reg Reg.RFE_DUTYUSED = BitVec.ofNat 24 ((s.rfe.duty.take 15).sum / 20000) ∧ s.KeepsRegs t [Reg.RFE_DUTYUSED] ∧ t.mem = s.mem)
    ∧ (∀ x d ds, s.rfe.tx = some x → s.rfe.duty = d :: ds → Answers .dutySubwindowEnd s fun t =>
        let so := s.tb.count.toNat - x.start - x.counted
        t.rfe = { s.rfe with duty := 0 :: (d + so) :: ds.take 14, tx := some { x with counted := x.counted + so } } ∧ s.KeepsRegs t [Reg.RFE_DUTYUSED] ∧ t.mem = s.mem))

/-! ## The physical layer (R74, R85, R92 to R111, R470) -/

/-- R57, R74, R84, R85, R103, R106 to R108, R110, R111, R144, R145, R470: a reception: preamble, sync word, header, end of frame, and the end of every reception when the physical layer is disabled;
a blanked chain detects nothing. -/
def Obligations.Receptions : Prop :=
  ∀ (s : State) (b : Bool) (r : PhyRx), s.rxOn b = some r → s.asleep = false →
    let on := fun (f : PhyRx → PhyRx) => { s.phy with rx := s.phy.rx.map fun q => if q.chB = b then f q else q }
    (s.blanked b = true → ∀ (p q : Nat) (m : RxSync) (h : RxHeader),
      Answers (.preambleDetect b p q) s (fun t => t = s) ∧ Answers (.syncWordMatch b m) s (fun t => t = s) ∧ Answers (.headerReceived b h) s (fun t => t = s))
    ∧ (∀ p q : Nat, s.bit Reg.PHY_CTL 0 = true → s.blanked b = false → Answers (.preambleDetect b p q) s fun t =>
        t = { s with phy := on fun x => if x.stage = .search then { x with stage := .preamble, decB := decide (rssiOf p < rssiOf q) } else x })
    ∧ (∀ m : RxSync, r.stage = .preamble → s.blanked b = false →
      let err := fun (word : Nat) => hamming m.bits.toNat word 32
      let tol := s.fld Reg.PHY_SYNCW1 16 3
      let word := s.fld Reg.PHY_SYNCW1 0 8 * 2 ^ 24 + (s.reg Reg.PHY_SYNCW0).toNat
      let matched := fun (short : Bool) (t : State) => t.phy = (on fun q => s.latchRx q m short) ∧ t.regs = s.regs ∧ t.mem = s.mem
        ∧ ∃ x, t.rxOn b = some x ∧ x.stage = .synced ∧ x.short = short ∧ x.sync = stampOf m.t m.f (- s.extDelay)
      (r.mode = 2 → err word ≤ tol → Answers (.syncWordMatch b m) s (matched false))
      ∧ (r.mode = 2 → tol < err word → r.forAck = true → err (0xFFFFFFFF - word) ≤ tol → Answers (.syncWordMatch b m) s (matched true))
      ∧ (r.mode = 0 → s.fskWord = false → m.sfdErr ≤ min tol 2 → Answers (.syncWordMatch b m) s (matched false))
      ∧ (r.mode = 1 → Answers (.syncWordMatch b m) s (matched false))
      ∧ (r.mode = 2 → tol < err word → r.forAck = false → s.reg Reg.PHY_CNTSYNC ≠ 0xFFFFFF#24 → Answers (.syncWordMatch b m) s fun t =>
        t.phy = (on fun q => { q with stage := .search }) ∧ t.reg Reg.PHY_CNTSYNC = s.reg Reg.PHY_CNTSYNC + 1#24 ∧ s.KeepsRegs t [Reg.PHY_CNTSYNC]))
    ∧ (∀ h : RxHeader, r.stage = .synced → r.mode = 2 → r.short = false → s.blanked b = false →
      (seamHeaderOk false h.raw.toNat = false → (s.slot.op = none ∨ r.direct = true) → s.reg Reg.PHY_CNTHDR ≠ 0xFFFFFF#24 → Answers (.headerReceived b h) s fun t =>
        t.phy = (on fun q => { q with stage := .search }) ∧ t.reg Reg.PHY_CNTHDR = s.reg Reg.PHY_CNTHDR + 1#24 ∧ s.KeepsRegs t [Reg.PHY_CNTHDR] ∧ t.mem = s.mem)
      ∧ (seamHeaderOk false h.raw.toNat = true → s.rxTable h.raw.toNat = none → (s.slot.op = none ∨ r.direct = true) → Answers (.headerReceived b h) s fun t =>
        t.phy = (on fun q => { q with stage := .search }) ∧ t.isPending 63 = true ∧ t.mem = s.mem ∧ t.fld (s.rxRegs r) 16 8 = 0x41
        ∧ (s.reg Reg.PHY_CNTTAG ≠ 0xFFFFFF#24 → t.reg Reg.PHY_CNTTAG = s.reg Reg.PHY_CNTTAG + 1#24))
      ∧ (∀ table, seamHeaderOk false h.raw.toNat = true → s.rxTable h.raw.toNat = some table → Answers (.headerReceived b h) s fun t =>
        t.isPending 63 = true ∧ ∃ q, t.rxOn b = some q ∧ q.stage = .header ∧ q.raw = h.raw.toNat ∧ q.len = h.raw.toNat % 2048 ∧ q.table = table ∧ q.sync = r.sync
          ∧ q.taken = (! r.forAck && ! s.standby && s.bit Reg.HOP_CTL 23 && s.filterOk (macHdr (h.mac.map BitVec.toNat))
            && decide (cellCount (h.raw.toNat % 2048 - 4) ≤ s.hop.free.length))))
    ∧ (∀ psdu : List Octet, r.stage = .header → (s.slot.op = none ∨ r.direct = true) →
      let good := fcsGood r.fcs2 (psdu.map BitVec.toNat)
      let os := (psdu.map BitVec.toNat).take (psdu.length - fcsLen r.fcs2)
      let shown := fun (status : Nat) => withField (r.md.getD 0 0#24) 16 8 status
      (good = false → r.taken = false → s.reg Reg.PHY_CNTFCS ≠ 0xFFFFFF#24 → Answers (.frameEnd b psdu) s fun t =>
        t.reg Reg.PHY_CNTFCS = s.reg Reg.PHY_CNTFCS + 1#24 ∧ t.reg (s.rxRegs r) = shown 8 ∧ s.KeepsRegs t [Reg.PHY_CNTFCS, s.rxRegs r] ∧ t.hop = s.hop ∧ t.mem = s.mem
        ∧ t.phy = on fun q => { q with stage := .search, taken := false, cells := [] })
      ∧ (good = true → r.taken = true → (macHdr os).sec = false → Answers (.frameEnd b psdu) s fun t =>
        t.hop.jobs = s.hop.jobs ++ [.rx { cells := r.cells.take (min r.cells.length (cellCount os.length)), olen := os.length } false false false (s.frameSource r os) false]
        ∧ t.reg (s.rxRegs r) = shown 1 ∧ t.phy = on fun q => { q with stage := .search, taken := false, cells := [] }))
    ∧ (∀ v : Word, s.gateOpen Reg.PHY_CTL = true → s.bit Reg.PHY_CTL 0 = true → v.getLsbD 0 = false → s.slot.op = none → Answers (.phyDisable v) s fun t =>
        t.phy.rx = [] ∧ t.bit Reg.PHY_CTL 0 = false)

/-- R11, R15, R94, R95, R98, R100: the loading store: its clearing, a survey sample's averages, and a proposal from its command to its entry, with a tag other than the one in force; a store outside
SRAM is not written. -/
def Obligations.LoadingStore : Prop :=
  ∀ (s : State) (v : Word), s.asleep = false →
    let tab := (List.range 3).map fun i => s.reg (Reg.PHY_PTAB i)
    let open_ := s.gateOpen Reg.PHY_CTL = true
    let placed := 0x200000 ≤ s.lsAddr 0 ∧ s.lsAddr 16448 ≤ 0x280000
    (open_ → v.getLsbD 23 = true → Answers (.loadingStoreInit v) s fun t => t.bit Reg.PHY_LSCTL 23 = true ∧ t.bit Reg.PHY_LSCTL 0 = v.getLsbD 0 ∧ s.OnlyBlockRegs t [Reg.PHY_LSCTL])
    ∧ (s.bit Reg.PHY_LSCTL 23 = true →
      (placed → Answers .loadingStoreInitDone s fun t => (∀ i, i < 16448 → t.lsWord i = 0#24) ∧ t.bit Reg.PHY_LSCTL 23 = false ∧ t.isPending 62 = true
        ∧ s.KeepsRegs t (Reg.PHY_LSCTL :: sourceRegs 62) ∧ ∀ a, (a < s.lsAddr 0 ∨ s.lsAddr 16448 ≤ a) → t.mem1 a = s.mem1 a)
      ∧ (s.lsAddr 16448 ≤ 0x200000 ∨ 0x280000 ≤ s.lsAddr 0 → Answers .loadingStoreInitDone s fun t => t.mem = s.mem ∧ t.sys.busErr = true ∧ t.bit Reg.PHY_LSCTL 23 = false))
    ∧ (open_ → tableIllegal tab = true ∨ s.bit Reg.PHY_LSCTL 0 = false → Answers (.propose v) s fun t => s.OnlyBlockRegs t [Reg.PHY_PSTAT] ∧ t.fld Reg.PHY_PSTAT 0 8 = 7)
    ∧ (open_ → tableIllegal tab = false → s.bit Reg.PHY_LSCTL 0 = true → s.phy.prop.isSome = true → Answers (.propose v) s fun t =>
        s.OnlyBlockRegs t [Reg.PHY_PSTAT] ∧ t.fld Reg.PHY_PSTAT 0 8 = 3)
    ∧ (open_ → tableIllegal tab = false → s.bit Reg.PHY_LSCTL 0 = true → s.phy.prop = none → Answers (.propose v) s fun t =>
        t.phy = { s.phy with prop := some { nbr := v.toNat % 256, cls := v.toNat / 256 % 4, rate := v.getLsbD 10, tag := 0, tab := tab } }
        ∧ t.fld Reg.PHY_PSTAT 0 8 = 0 ∧ t.bit Reg.PHY_PSTAT 23 = true ∧ s.KeepsRegs t [Reg.PHY_PSTAT] ∧ t.mem = s.mem)
    ∧ (∀ p, s.phy.prop = some p →
      (s.lsOn = false → Answers .proposalWritten s fun t => t = s)
      ∧ (s.lsOn = true → placed → p.nbr < 256 → p.cls < 4 → p.tab.length = 3 → s.newTag p.nbr p.cls < 8 → Answers .proposalWritten s fun t =>
        let tag := s.newTag p.nbr p.cls
        t.phy.prop = none ∧ t.fld Reg.PHY_PSTAT 8 3 = tag ∧ t.bit Reg.PHY_PSTAT 23 = false ∧ t.isPending 61 = true ∧ tag ≠ s.tagInForce p.nbr p.cls
        ∧ t.proposalIs p.nbr p.cls tag = true ∧ ∀ i, i < 3 → t.lsWord (lsEntry p.nbr (12 + i)) = p.tab.getD i 0#24))
    ∧ (∀ (b : Bool) (powers : List Nat) (e : Nat),
      let begun := if b then s.phy.svyB else s.phy.svyA
      let left := begun + 76800 - s.tb.count.toNat
      s.entryOf (if b && s.rfe.mode == 2 then s.rfe.chan1 else s.rfe.chan0) = some e → placed → s.bit Reg.PHY_CTL 0 = true → s.bit Reg.PHY_LSCTL 1 = true → s.lsOn = true
      → s.granted = true → s.rfe.direct = none → s.rfe.step = none → s.surveyChain b = true → s.bedrockRuns = true → s.bit Reg.TB_CTL 0 = true
      → s.tb.phase + left < s.tb.len → s.tb.phase + left + 400 ≤ s.gend → s.tb.count.toNat + left < 2 ^ 72 → e < 64 → Answers (.surveySampleDone b powers) s fun t =>
        let c := s.hopClass e
        let wide := s.lsOctet 36 e
        t.surveyCount c = min 255 (s.surveyCount c + 1) ∧ t.regs = s.regs ∧ t.tb.phase = s.tb.phase + left
        ∧ t.lsOctet 36 e = noiseAvg (wide == 0) wide (noiseUnit (((List.range 24).map fun k => powers.getD k 0).sum) 24)
        ∧ ∀ k, k < 24 → t.lsOctet (8 * c) k = noiseAvg (s.surveyCount c == 0) (s.lsOctet (8 * c) k) (noiseUnit (powers.getD k 0) 1))

/-! ## The slot engine (R112 to R143) -/

/-- R119, R120, R122, R125, R130, R131, R163: a transmit cell: no frame, no lock, an illegal mode, no fit, a busy channel at its CCA, a refusal, the start and the end of its frame, and an abort; each
end writes SLOT_RES0 and SLOT_RES1 together and raises source 49. A busy channel shows as REFUSED by the model's choice (assumption 55). -/
def Obligations.TransmitSlots : Prop :=
  ∀ (s : State) (o : SlotOp) (env : AirEnv), s.slot.op = some o → s.asleep = false →
    let ended := fun (status : Nat) (sent : Bool) (t : State) => t.slot.op = none ∧ t.isPending 49 = true ∧ t.reg Reg.SLOT_RES1 = BitVec.ofNat 24 s.slot.asn.toNat
      ∧ t.reg Reg.SLOT_RES0 = BitVec.ofNat 24 (status * 65536 + o.tx.toNat * 32768 + sent.toNat * 16384 + o.cell)
    let u := s.opTable o
    let mode := cellMode o.w1
    let dur := s.frameTicks mode (s.psduLen o) u.d
    let qpsk := mode == 2 && u.tag != 0 && tableQpsk u.tab
    let at_ := s.advanceTo (s.rampStart o.w1)
    let check : TxCheck := { g := o.chan, bw := s.bandwidth mode, air := dur + 2 * s.rampTicks, cw := false, ack := false, room := at_.tb.count.toNat - s.rfe.settled }
    (o.tx = true → o.stage = .tuning → o.psdu = none → Answers .noframeDeadline s (ended 0x53 o.sent))
    ∧ (o.tx = true → o.stage = .tuning → o.psdu.isSome = true →
      let locked := s.syLocked false = true ∧ s.path false = 1
      let legal := s.txModeIllegal mode = false ∧ (u.tag = 0 ∨ tableIllegal u.tab = false)
      let fit := s.fits o.w1 dur o.asksAck qpsk = true
      let busy := (s.template o.w1).cca.isSome = true ∧ cellAdv o.w1 = false ∧ env.cca = true
      (¬ locked → Answers (.sequencerTxStart env) s (ended 6 o.sent))
      ∧ (locked → ¬ legal → Answers (.sequencerTxStart env) s (ended 7 o.sent))
      ∧ (locked → legal → ¬ fit → Answers (.sequencerTxStart env) s (ended 0x52 o.sent))
      ∧ (locked → legal → fit → busy → Answers (.sequencerTxStart env) s (ended 4 o.sent))
      ∧ (∀ cause, locked → legal → fit → ¬ busy → s.regCause check env = some cause → cause < 16 → Answers (.sequencerTxStart env) s fun t =>
          ended 4 o.sent t ∧ t.fld Reg.RFE_TXSTAT 12 4 = cause ∧ t.fld Reg.RFE_TXSTAT 16 8 = 4)
      ∧ (locked → legal → fit → ¬ busy → s.regCause check env = none → Answers (.sequencerTxStart env) s fun t =>
          let first := at_.edge + (s.template o.w1).txOffset
          t.path false = 5 ∧ (∃ x, t.rfe.tx = some x ∧ x.direct = false ∧ x.sending = false ∧ x.sync = 8 * first + s.syncEighths mode false ∧ x.frame = some (s.opFrame o))
          ∧ t.mem = s.mem ∧ t.slot.op = some { o with stage := .sending, dur := dur, cls := u.cls, tag := u.tag, allQpsk := qpsk, txEnd := first + dur }))
    ∧ (∀ x, s.rfe.tx = some x → x.direct = false → x.air ≠ 0 →
      (x.ack = true → Answers .txFrameEnd s fun t => ended 1 o.sent t ∧ t.rfe.tx = none ∧ t.path false = 1)
      ∧ (x.ack = false → o.asksAck = false → Answers .txFrameEnd s fun t => ended 1 true t ∧ t.rfe.tx = none ∧ t.path false = 1)
      ∧ (x.ack = false → o.asksAck = true → Answers .txFrameEnd s fun t => t.path false = 6 ∧ t.rfe.tx = none
          ∧ t.slot.op = some { o with sent := true, tsync := x.sync, stage := .ackWait }
          ∧ (s.bit Reg.PHY_CTL 0 = true → t.opRx o = some { mode := mode, direct := false, chB := o.chB, forAck := true, chan := o.chan, hop := o.hop })))
    ∧ (∀ v : Word, v.getLsbD 0 = true → s.reaches .lk Reg.SLOT_ABORT true = true →
      (o.stage = .sending → Answers (.slotAbort .lk v) s fun t => ended 2 o.sent t ∧ t.rfe.tx = none ∧ t.path false = 1)
      ∧ (o.stage = .ackDue ∨ o.stage = .ackSending → Answers (.slotAbort .lk v) s fun t => t = s.begun .lk)
      ∧ (o.stage ≠ .sending → o.stage ≠ .ackDue → o.stage ≠ .ackSending → Answers (.slotAbort .lk v) s (ended 2 o.sent)))

/-- R102, R123 to R125, R132, R139, R383: a receive cell and an acknowledgement: the window, on both chains in dual-channel, its deadlines, the acknowledgement that is sent or withheld, and the one that
arrives or does not. -/
def Obligations.ReceiveSlots : Prop :=
  ∀ (s : State) (o : SlotOp) (env : AirEnv), s.slot.op = some o → s.asleep = false →
    let ended := fun (status : Nat) (cong : Bool) (t : State) => t.slot.op = none ∧ t.isPending 49 = true ∧ t.reg Reg.SLOT_RES1 = BitVec.ofNat 24 s.slot.asn.toNat
      ∧ t.reg Reg.SLOT_RES0 = BitVec.ofNat 24 (status * 65536 + o.tx.toNat * 32768 + o.sent.toNat * 16384 + cong.toNat * 8192 + o.cell)
    let mode := cellMode o.w1
    let w := s.template o.w1
    let start := w.txOffset - w.guard / 2 - s.widening o.w1 - 1600
    let runs := s.bedrockRuns = true ∧ s.bit Reg.TB_CTL 0 = true
    let moved := fun (p : Nat) (t : State) => runs → s.tb.phase ≤ p → p < s.tb.len → t.tb.phase = p
    let rx : PhyRx := { mode := mode, direct := false, chB := o.chB, forAck := false, chan := o.chan, hop := o.hop }
    (o.tx = false → o.stage = .tuning → s.path false = 1 → s.syLocked false = true →
      (s.rxModeIllegal mode = true → Answers .receiveWindowOpen s (ended 7 false))
      ∧ (s.rxModeIllegal mode = false → s.phy.rx = [] → Answers .receiveWindowOpen s fun t => t.path false = 4 ∧ t.mem = s.mem
          ∧ t.slot.op = some { o with stage := .receiving, h := s.widening o.w1 } ∧ moved start t
          ∧ (s.bit Reg.PHY_CTL 0 = true → s.rfe.mode ≠ 2 → t.phy.rx = [rx])
          ∧ (s.bit Reg.PHY_CTL 0 = true → s.rfe.mode = 2 → s.path true = 1 → s.syLocked true = true → o.chB = false → t.path true = 4
              ∧ t.phy.rx = [rx, { rx with chB := true, chan := o.chanB, hop := (o.hop + s.fld Reg.SLOT_CTL 14 6) % max 1 s.slot.hopLen }])))
    ∧ (o.stage = .receiving →
      let stage := (s.opRx o).map (·.stage)
      let stays := fun (t : State) => t.opRx o = s.opRx o ∧ t.isPending 49 = s.isPending 49
      (stage = none ∨ stage = some .search → Answers .preambleDeadline s fun t =>
          ended o.emptyStatus false t ∧ moved (w.txOffset + w.guard / 2 + o.h + s.detectTicks mode) t)
      ∧ (stage ≠ none → stage ≠ some .search → Answers .preambleDeadline s fun t => t.slot.op = some o ∧ stays t)
      ∧ (stage = none ∨ stage = some .search ∨ stage = some .preamble → Answers .syncDeadline s fun t =>
          ended o.emptyStatus false t ∧ moved (w.txOffset + s.syncOffset mode false + w.guard / 2 + o.h) t)
      ∧ (stage = some .synced ∨ stage = some .header → Answers .syncDeadline s fun t => t.slot.op = some { o with late := true } ∧ stays t))
    ∧ (o.stage = .ackDue →
      let first := o.rxEnd + 8 * w.ackDelay
      let at_ := s.advanceCount (first / 8 - s.rampTicks - 2400)
      let f := s.ackFrame o
      let dur := if f.short then 144000 else s.frameTicks mode f.psdu.length 24
      let cut := at_.edge + s.tb.len < (first + 7) / 8 + dur + 10000
      let check : TxCheck := { g := o.chan, bw := s.bandwidth mode, air := dur + 2 * s.rampTicks, cw := false, ack := true, room := 0 }
      (cut → Answers (.ackTxStart env) s fun t => ended 1 false t ∧ t.bit Reg.SLOT_STAT 6 = true ∧ t.isPending 55 = true)
      ∧ (¬ cut → s.syLocked false = false ∨ s.txModeIllegal mode = true → Answers (.ackTxStart env) s (ended 1 false))
      ∧ (¬ cut → s.syLocked false = true → s.txModeIllegal mode = false → s.regCause check env ≠ none → Answers (.ackTxStart env) s (ended 1 false))
      ∧ (¬ cut → s.syLocked false = true → s.txModeIllegal mode = false → s.regCause check env = none → Answers (.ackTxStart env) s fun t =>
          t.path false = 6 ∧ (∃ x, t.rfe.tx = some x ∧ x.direct = false ∧ x.ack = true ∧ x.frame = some f ∧ x.sync = first + s.syncEighths mode f.short)
          ∧ t.slot.op = some { o with stage := .ackSending, short := f.short } ∧ t.mem = s.mem))
    ∧ (o.stage = .ackWait → ∀ psdu : List Octet,
      let ps := psdu.map BitVec.toNat
      (∀ r, s.opRx o = some r → r.stage = .header →
        (fcsGood r.fcs2 ps = true → Answers (.ackReceived psdu) s (ended 1 (ackInfo (ps.take (ps.length - fcsLen r.fcs2))).cong))
        ∧ (fcsGood r.fcs2 ps = false → s.reg Reg.PHY_CNTFCS ≠ 0xFFFFFF#24 → Answers (.ackReceived psdu) s fun t =>
            ended 0x50 false t ∧ t.reg Reg.PHY_CNTFCS = s.reg Reg.PHY_CNTFCS + 1#24))
      ∧ (((s.opRx o).map PhyRx.pastSync).getD false = false → Answers .ackWindowClose s (ended 0x50 false))
      ∧ (((s.opRx o).map PhyRx.pastSync).getD false = true → Answers .ackWindowClose s fun t => t.slot.op = some o ∧ t.regs = s.regs ∧ t.phy = s.phy ∧ t.mem = s.mem))
    ∧ (∀ psdu : List Octet, o.stage ≠ .ackWait → s.standby = true → s.slot.heard = true → fcsGood false (psdu.map BitVec.toNat) = true ∨ fcsGood true (psdu.map BitVec.toNat) = true →
        s.reg Reg.TW_CNTAIR ≠ 0xFFFFFF#24 → Answers (.ackReceived psdu) s fun t =>
        t = { s with regs := t.regs, tw := { s.tw with air := true, airFlt := true }, slot := { s.slot with heard := false } }
        ∧ t.reg Reg.TW_CNTAIR = s.reg Reg.TW_CNTAIR + 1#24 ∧ s.KeepsRegs t [Reg.TW_CNTAIR])

/-- R15, R21, R112 to R114, R126 to R128, R130, R135, R141, R143: the slot program: reads that latch, the writes that LK alone makes, arming, its deadline, and the change of time source. -/
def Obligations.SlotProgram : Prop :=
  ∀ (s : State) (m : Master) (v : Word), s.asleep = false →
    let latched := fun (t : State) (d l : Word) (a : Nat) => t = { (s.begun m).setLatch m a l with sys := { (s.begun m).sys with rdata := d } }
    let cell := s.cellWords (v.toNat % 4096)
    (s.reaches m Reg.SLOT_ASN0 false = true →
      Answers (.asnRead m) s (fun t => latched t (s.slot.asn.extractLsb' 0 24) (BitVec.ofNat 24 (s.slot.asn.toNat / 2 ^ 24)) Reg.SLOT_ASN1)
      ∧ Answers (.resultRead m) s (fun t => latched t (s.reg Reg.SLOT_RES0) (s.reg Reg.SLOT_RES1) Reg.SLOT_RES1))
    ∧ (m ≠ .lk → ∀ i ∈ [Instr.asnSetRequest m v, .hopListCommit m v, .slotArm m v, .slotAbort m v, .coastEnter m v, .bankSwitchRequest m v],
        Answers i s fun t => t = (s.served m).noteBus true)
    ∧ (s.reaches .lk Reg.SLOT_CTL true = true →
      (v.getLsbD 23 = true → Answers (.asnSetRequest .lk v) s fun t => t.slot = { s.slot with asnReq := some (v.toNat % 65536 * 2 ^ 24 + (s.reg Reg.SLOT_ASNSET0).toNat) }
        ∧ s.KeepsRegs t [Reg.SLOT_ASNSET1] ∧ t.sys.busErr = false)
      ∧ (v.getLsbD 23 = true → Answers (.hopListCommit .lk v) s fun t => t.bit Reg.SLOT_HOPCTL 23 = true ∧ t.fld Reg.SLOT_HOPCTL 0 6 = v.toNat % 64
        ∧ s.KeepsRegs t [Reg.SLOT_HOPCTL] ∧ t.slot = s.slot)
      ∧ (s.slot.closed = false → s.tb.phase + s.deadline < s.tb.len →
        (v.toNat / 2 ^ 22 = 1 → cellType cell.2 = 0 → Answers (.slotArm .lk v) s fun t => t.fld Reg.SLOT_ARMSTAT 0 8 = 7 ∧ t.slot = s.slot ∧ s.KeepsRegs t [Reg.SLOT_ARMSTAT])
        ∧ (v.toNat / 2 ^ 22 ≠ 1 ∨ cellType cell.2 ≠ 0 → Answers (.slotArm .lk v) s fun t =>
            t.slot = { s.slot with armed := some { act := v.toNat / 2 ^ 22, cell := v.toNat % 4096, grant := v.getLsbD 21, words := cell } }
            ∧ t.fld Reg.SLOT_ARMSTAT 0 8 = 0 ∧ t.bit Reg.SLOT_ARMSTAT 23 = true ∧ t.bit Reg.SLOT_CTL 22 = false ∧ s.KeepsRegs t [Reg.SLOT_ARMSTAT, Reg.SLOT_CTL]))
      ∧ (s.slot.closed = true ∨ s.tb.len ≤ s.tb.phase + s.deadline → Answers (.slotArm .lk v) s fun t =>
          t.slot = s.slot ∧ t.fld Reg.SLOT_ARMSTAT 0 8 = 5 ∧ t.bit Reg.SLOT_STAT 2 = true ∧ t.isPending 50 = true)
      ∧ (v.getLsbD 22 = true → s.bit Reg.SLOT_CTL 22 = false → Answers (.coastEnter .lk v) s fun t => t.bit Reg.SLOT_CTL 22 = true ∧ t.isPending 54 = true ∧ t.slot = s.slot ∧ t.mem = s.mem)
      ∧ (v.getLsbD 21 = true → Answers (.bankSwitchRequest .lk v) s fun t => t.bit Reg.SLOT_LKBANK 22 = true ∧ t.fld Reg.SLOT_LKBANK 0 3 = v.toNat % 8
          ∧ t.bit Reg.SLOT_LKBANK 23 = s.bit Reg.SLOT_LKBANK 23 ∧ s.KeepsRegs t [Reg.SLOT_LKBANK]))
    ∧ (s.bit Reg.SLOT_CTL 23 = true → s.slot.closed = false →
      (s.slot.armed.isSome = true → Answers .armDeadline s fun t => t.slot.closed = true ∧ t.slot.armed = s.slot.armed ∧ t.slot.ovrRun = false ∧ t.regs = s.regs ∧ t.mem = s.mem)
      ∧ (s.slot.armed = none → s.coasting = true → Answers .armDeadline s fun t => t.slot.closed = true ∧ t.slot.dflt = s.slot.dflt ∧ t.regs = s.regs ∧ t.mem = s.mem)
      ∧ (s.slot.armed = none → s.coasting = false → s.reg Reg.SLOT_OVRCNT ≠ 0xFFFFFF#24 → Answers .armDeadline s fun t =>
          t.slot.closed = true ∧ t.slot.dflt = true ∧ t.reg Reg.SLOT_OVRCNT = s.reg Reg.SLOT_OVRCNT + 1#24 ∧ t.bit Reg.SLOT_STAT 1 = true ∧ t.isPending 50 = true ∧ t.mem = s.mem)
      ∧ Answers .armDeadline s fun t => s.bedrockRuns = true → s.bit Reg.TB_CTL 0 = true → s.tb.phase ≤ s.tb.len - s.deadline → s.tb.phase < s.tb.len → t.tb.phase = min (s.tb.len - s.deadline) (s.tb.len - 1))
    ∧ (s.bit (Reg.SLOT_TS_CFG 1) 23 = true → s.fld Reg.SLOT_SYNCCFG 0 16 ≤ (s.reg (Reg.SLOT_TS_AGE 0)).toNat → Answers .timeSourceFailover s fun t =>
        t = { s with slot := { s.slot with ts1 := true } })

/-! ## The Hopper (R144 to R173) -/

/-- R147, R166, R168, R172: the pool: the enable that builds it or refuses a bad layout, allocation with and without the reserve, and release. -/
def Obligations.CellPool : Prop :=
  ∀ (s : State) (m : Master) (v : Word), s.asleep = false →
    (s.gateOpen Reg.HOP_CTL = true → v.getLsbD 23 = true → s.bit Reg.HOP_CTL 23 = false →
      (s.layoutOk = false → Answers (.hopperEnable v) s fun t => t.bit Reg.HOP_CTL 23 = false ∧ t.bit Reg.HOP_STAT 3 = true ∧ t.isPending 71 = true ∧ t.hop = s.hop ∧ t.mem = s.mem)
      ∧ (s.layoutOk = true → s.hop.ready = true → Answers (.hopperEnable v) s fun t => t.bit Reg.HOP_CTL 23 = true ∧ t.hop = s.hop ∧ t.mem = s.mem ∧ s.KeepsRegs t [Reg.HOP_CTL])
      ∧ (s.layoutOk = true → s.hop.ready = false → Answers (.hopperEnable v) s fun t => t.bit Reg.HOP_CTL 23 = true
          ∧ t.hop = { s.hop with free := List.range (s.fld Reg.HOP_POOLCNT 0 12), ready := true } ∧ t.freeCells = s.fld Reg.HOP_POOLCNT 0 12
          ∧ ∀ a, (a < s.linkAddr 0 ∨ s.linkAddr (s.fld Reg.HOP_POOLCNT 0 12) ≤ a) → t.mem1 a = s.mem1 a))
    ∧ (∀ i a k, (i = .cellAlloc m ∧ a = Reg.HOP_ALLOC ∧ k = 65) ∨ (i = .cellAllocReserve m ∧ a = Reg.HOP_ALLOCC ∧ k = 1) → s.reaches m a false = true →
      (s.hop.free.length < k → Answers i s fun t => t = { s.begun m with sys := { (s.begun m).sys with rdata := 0#24 } })
      ∧ (∀ c rest, s.hop.free = c :: rest → k ≤ s.hop.free.length → c < 2048 → rest.length < 4096 → Answers i s fun t => t.sys.rdata = BitVec.ofNat 24 (0x800000 + c) ∧ t.sys.busErr = false
          ∧ t.hop = { s.hop with free := rest } ∧ t.linkSt c = 2 ∧ t.freeCells = rest.length ∧ ∀ x, x ≠ s.linkAddr c → t.mem1 x = s.mem1 x))
    ∧ (s.gateOpen Reg.HOP_RELEASE = true →
      (s.coreHolds (v.toNat % 2048) = true → s.mirroring = false → Answers (.release v) s fun t =>
        t.hop = { s.hop with free := (s.coreFrame (v.toNat % 2048)).cells.reverse ++ s.hop.free })
      ∧ (s.coreHolds (v.toNat % 2048) = false → Answers (.release v) s fun t => t.hop = s.hop ∧ t.mem = s.mem ∧ t.bit Reg.HOP_STAT 4 = true ∧ t.isPending 71 = true))

/-- R157 to R160, R162, R167, R168: the queues: enqueueing directly or for the decision, dequeueing, flushing, binding and unbinding, and the end of a deferral; misuse is flagged. -/
def Obligations.HopperQueues : Prop :=
  ∀ (s : State) (m : Master) (v : Word), s.asleep = false → s.hop.q.length = 32 →
    let c := v.toNat % 2048
    let f := s.coreFrame c
    let stat := fun (t : State) => t.latch m Reg.HOP_ENQSTAT
    let misuse := fun (t : State) => t.bit Reg.HOP_STAT 4 = true ∧ t.isPending 71 = true ∧ t.hop = s.hop ∧ t.mem = s.mem
    let q := v.toNat / 2 ^ 17 % 32
    (s.reaches m Reg.HOP_ENQ true = true →
      (s.enqPending m = true → Answers (.enqueue m v) s fun t => t = s.begun m)
      ∧ (s.enqPending m = false →
        (v.getLsbD 23 = false → m = .a0 ∨ m = .a1 ∨ 4 ≤ v.toNat / 2 ^ 18 % 32 → Answers (.enqueue m v) s fun t => stat t = 0x070000#24 ∧ t.hop = s.hop ∧ t.mem = s.mem)
        ∧ (v.getLsbD 23 = true → s.coreHolds c = false → Answers (.enqueue m v) s fun t => stat t = 0x070000#24 ∧ misuse t)
        ∧ (v.getLsbD 23 = true → s.coreHolds c = true → Answers (.enqueue m v) s fun t => stat t = 0x6F0000#24 ∧ t.hop = { s.hop with jobs := s.hop.jobs ++ [.enq m f] })
        ∧ (∀ k, m = .lk → v.getLsbD 23 = false → k = v.toNat / 2 ^ 18 % 32 → k < 4 → s.coreHolds c = true → 64 ≤ s.freeCells → (s.hq k).fill + f.cells.length ≤ s.fld (Reg.HOP_QCFG k) 0 11 →
            Answers (.enqueue m v) s fun t => stat t = BitVec.ofNat 24 (k * 1024) ∧ (t.hq k).frames = (s.hq k).frames ++ [f] ∧ t.hop.free = s.hop.free ∧ t.isPending 72 = true
              ∧ ∀ j, j ≠ k → t.hq j = s.hq j)))
    ∧ (∀ i : Fin 4, s.reaches m (Reg.HOP_DQ i.val) false = true →
      ((s.hq (28 + i.val)).frames = [] → Answers (.dequeue m i) s fun t => t = { s.begun m with sys := { (s.begun m).sys with rdata := 0#24 } })
      ∧ (∀ g rest, (s.hq (28 + i.val)).frames = g :: rest → Answers (.dequeue m i) s fun t =>
          t.sys.rdata = BitVec.ofNat 24 (0x800000 + g.cells.headD 0) ∧ (t.hq (28 + i.val)).frames = rest ∧ (∀ j, j ≠ 28 + i.val → t.hq j = s.hq j) ∧ t.hop.free = s.hop.free
          ∧ ∀ x ∈ g.cells, t.linkSt x = 2))
    ∧ (s.gateOpen Reg.HOP_QCMD = true →
      (4 ≤ q → q < 28 → Answers (.queueFlush v) s misuse)
      ∧ (q < 4 ∨ 28 ≤ q → (s.hq q).locked = false → Answers (.queueFlush v) s fun t => (t.hq q).frames = [] ∧ ∀ j, j ≠ q → t.hq j = s.hq j)
      ∧ (q < 4 ∨ 28 ≤ q → (s.hq q).locked = true → Answers (.queueFlush v) s fun t => (t.hq q).frames = (s.hq q).frames.take 1 ∧ (t.hq q).flush = true)
      ∧ (4 ≤ q → q < 28 → (s.hq q).frames = [] →
        Answers (.queueBind v) s (fun t => t.isBound q = true ∧ t.qNbr q = v.toNat % 256 ∧ t.bit (Reg.HOP_QCFG q) 20 = true ∧ t.boundQueue (v.toNat % 256) (s.qClass q) = q
          ∧ t.bit Reg.HOP_STAT 2 = true ∧ t.isPending 68 = true ∧ t.hop = s.hop)
        ∧ Answers (.queueUnbind v) s fun t => t.isBound q = false ∧ t.bit (Reg.HOP_QCFG q) 20 = false ∧ t.hop = s.hop)
      ∧ (q < 4 ∨ 28 ≤ q ∨ (s.hq q).frames ≠ [] → ∀ i ∈ [Instr.queueBind v, .queueUnbind v], Answers i s misuse))
    ∧ ∀ k : Fin 32, (s.fld (Reg.HOP_QSTAT k.val) 11 4 = 1 → Answers (.deferExpired k) s fun t => s.OnlyRegs t [Reg.HOP_QSTAT k.val] ∧ t.fld (Reg.HOP_QSTAT k.val) 11 4 = 0)
        ∧ (s.fld (Reg.HOP_QSTAT k.val) 11 4 ≠ 1 → Answers (.deferExpired k) s fun t => t = s)

/-- R159, R167, R169, R170, R383: the forwarding decision takes the oldest frame that waits, and none in the standby role; a frame of a core is answered; a received beacon or MAC command enters queue 28, a frame
that fails its security is dropped and counted. -/
def Obligations.ForwardingDecisions : Prop :=
  ∀ (s : State), s.asleep = false → s.hop.q.length = 32 →
    (s.standby = true ∨ s.hop.jobs = [] → Answers .forwardingDecision s fun t => t = s)
    ∧ (∀ j js, s.standby = false → s.hop.jobs = j :: js → Answers .forwardingDecision s fun t => t.hop.jobs = js)
    ∧ (∀ m f js, s.standby = false → s.hop.jobs = .enq m f :: js → Answers .forwardingDecision s fun t =>
        fieldOf (t.latch m Reg.HOP_ENQSTAT) 16 8 ∈ [0, 4, 0x60, 0x61, 0x62, 0x63])
    ∧ (∀ f src js, s.standby = false → s.hop.jobs = .rx f false true false src false :: js → s.mirroring = false → s.reg Reg.HOP_CNTSEC ≠ 0xFFFFFF#24 →
        Answers .forwardingDecision s fun t => t.hop = { s.hop with jobs := js, free := f.cells.reverse ++ s.hop.free } ∧ t.reg Reg.HOP_CNTSEC = s.reg Reg.HOP_CNTSEC + 1#24)
    ∧ (∀ f js, s.standby = false → s.hop.jobs = .rx f false false false none false :: js → s.bit Reg.HOP_CTL 22 = false →
        ((macHdr (s.frameOctets f)).kind = 0 ∨ (macHdr (s.frameOctets f)).kind = 3) → 64 ≤ s.freeCells → (s.hq 28).fill + f.cells.length ≤ s.fld (Reg.HOP_QCFG 28) 0 11 →
        Answers .forwardingDecision s fun t => (t.hq 28).frames = (s.hq 28).frames ++ [f] ∧ t.isPending 64 = true ∧ t.hop.jobs = js ∧ t.hop.free = s.hop.free ∧ ∀ k, k ≠ 28 → t.hq k = s.hq k)

/-! ## Clocks and power (R255 to R276) -/

/-- R255, R259 to R264, R266 to R269: the clock control register and its switches, sources that become stable, dividers, the writes that the closed gate of a block bars, and the failure and the return of
a clock. -/
def Obligations.Clocks : Prop :=
  ∀ (s : State) (v : Word), s.asleep = false →
    (Answers (.clockControlWrite v) s fun t =>
      let old := s.reg Reg.SYS_CLKCTL
      let k := t.fld Reg.SYS_CLKCTL 18 2
      (∀ i, i < 24 → (t.reg Reg.SYS_CLKCTL).getLsbD i = match i with
        | 23 => v.getLsbD 23 || (old.getLsbD 23 && (old.getLsbD 21 || old.getLsbD 20 || s.cur == 1))
        | 21 => v.getLsbD 21 || (old.getLsbD 21 && s.cur == 2)
        | 18 | 19 => if v.toNat / 2 ^ 18 % 4 = 3 then old.getLsbD i else v.getLsbD i
        | _ => decide (14 ≤ i) && v.getLsbD i)
      ∧ (s.sys.swForced = false → t.sys.swTo = (if k = s.cur then none else some k) ∧ t.bit Reg.SYS_CLKSTAT 18 = (decide (k ≠ s.cur) && ! t.srcStable k))
      ∧ (s.sys.swForced = true → t.sys.swTo = s.sys.swTo ∧ t.sys.swNext = some k)
      ∧ s.KeepsRegs t [Reg.SYS_CLKCTL, Reg.SYS_CLKSTAT, Reg.TB_RTCCAL] ∧ (v.getLsbD 20 = true → t.reg Reg.TB_RTCCAL = s.reg Reg.TB_RTCCAL) ∧ t.cur = s.cur ∧ t.sys.divs = s.sys.divs)
    ∧ (s.bit Reg.SYS_CLKCTL 23 = true → s.sys.refFail = false → s.sys.power = .on → Answers (.sourceStable 0) s fun t =>
        t.bit Reg.SYS_CLKSTAT 23 = true ∧ s.KeepsRegs t [Reg.SYS_CLKSTAT] ∧ t.cur = s.cur ∧ t.mem = s.mem)
    ∧ (s.sys.x32Fail = false → Answers (.sourceStable 1) s fun t => s.OnlyRegs t [Reg.SYS_CLKSTAT] ∧ t.bit Reg.SYS_CLKSTAT 16 = true)
    ∧ Answers (.sourceStable 2) s (fun t => t = s)
    ∧ (∀ tpll : Bool, s.bit Reg.SYS_CLKCTL (if tpll then 20 else 21) = true → s.bit Reg.SYS_CLKSTAT 23 = true → (if tpll then s.sys.tplFail else s.sys.splFail) = false →
        Answers (.pllLock tpll) s fun t => t.bit Reg.SYS_CLKSTAT (if tpll then 21 else 22) = true ∧ s.KeepsRegs t [Reg.SYS_CLKSTAT] ∧ t.cur = s.cur ∧ t.mem = s.mem)
    ∧ (∀ k, s.sys.swTo = some k → s.srcStable k = true →
      let then_ := fun (t : State) => t.cur = k ∧ t.sys.swForced = false ∧ t.sys.swTo = (if s.sys.swNext = some k then none else s.sys.swNext)
        ∧ (s.sys.swNext = none → t.bit Reg.SYS_CLKSTAT 18 = false) ∧ s.KeepsRegs t [Reg.SYS_CLKSTAT]
      (s.sys.swForced = false → Answers .clockSwitchComplete s fun t => then_ t ∧ t.bit Reg.SYS_CLKSTAT 4 = s.bit Reg.SYS_CLKSTAT 4)
      ∧ (s.sys.swForced = true → Answers .clockSwitchForced s fun t => then_ t ∧ t.bit Reg.SYS_CLKSTAT 4 = true))
    ∧ (∀ k, s.sys.swTo = some k → s.srcStable k = false → ∀ i ∈ [Instr.clockSwitchComplete, .clockSwitchForced], Answers i s fun t => t = s)
    ∧ Answers .dividerChange s (fun t => t = { s with sys := { s.sys with divs := (s.reg Reg.SYS_CLKCTL).toNat / 2 ^ 14 % 16 } })
    ∧ (∀ e ∈ [(Base.RFE, Instr.frontEndEnable v), (Base.RFE, .directStop v), (Base.PHY, .phyDisable v), (Base.HOP, .hopperEnable v), (Base.HOP, .queueFlush v), (Base.TW, .twinLinkEnable v), (Base.TW, .dataSend v),
        (Base.DALI, .daliTransmit v false), (Base.DALI, .daliAbort v), (Base.DALI, .daliHold v), (Base.HL, .hlTransmit v), (Base.SPIM, .spimTransfer v), (Base.I2C, .i2cTransfer v), (Base.GPIO, .gpioSet v),
        (Base.GPIO, .gpioClr v), (Base.ADC, .adcSequenceStart v), (Base.ADC, .adcCalibrate v), (Base.ADIT, .aditDisable v)],
      s.gateOpen e.1 = false → Answers e.2 s fun t => t = s.noteBus true)
    ∧ (∀ m (a : Word), (s.gateOpen a.toNat = true → Answers (.gateAccessTimeout m a) s fun t => t = s)
        ∧ (s.gateOpen a.toNat = false → Answers (.gateAccessTimeout m a) s fun t => t.sys.busErr = true ∧ t.regs = s.regs ∧ t.mem = s.mem
          ∧ (∀ c, Master.core? m = some c → (s.core c).fault = none → (t.core c).fault = some { code := 5, efa := a, eia := (s.core c).pc })
          ∧ ∀ c, Master.core? m ≠ some c → t.core c = s.core c))
    ∧ (∀ k : Fin 4, s.monitored k.val = true → s.isFailed k.val = false → s.slot.op = none → s.phy.rx = [] → Answers (.clockFail k) s fun t =>
        t.isFailed k.val = true ∧ t.bit Reg.SYS_CLKSTAT k.val = true ∧ t.isPending 82 = true ∧ t.intc.ashPend.getLsbD 8 = true ∧ t.mem = s.mem
        ∧ (k.val ≠ 3 → t.bit Reg.SYS_CLKSTAT 17 = true ∧ t.path false = 0 ∧ t.path true = 0 ∧ t.bit Reg.RFE_STAT 2 = true)
        ∧ (k.val = 3 → t.bit Reg.RTC_STAT 17 = true ∧ t.sys.power = s.sys.power)
        ∧ (k.val = 2 → t.lk.noClock = true ∧ t.tb.extrap = true)
        ∧ (k.val = 0 → s.cur = 1 → t.a0.noClock = true ∧ t.a1.noClock = true ∧ t.sys.swTo = some 0 ∧ t.sys.swForced = true))
    ∧ (∀ k : Fin 4, s.isFailed k.val = true → (k.val = 0 ∨ k.val = 3 ∨ s.bit Reg.SYS_CLKSTAT 23 = true) → Answers (.clockReturn k) s fun t =>
        t.isFailed k.val = false ∧ t.isPending 82 = true ∧ t.mem = s.mem ∧ s.KeepsRegs t ([Reg.SYS_CLKSTAT, Reg.RTC_STAT] ++ sourceRegs 82))
    ∧ (let failed := s.sys.refFail || s.sys.splFail || s.sys.tplFail || s.sys.x32Fail
      (v.getLsbD 0 = true → failed = false → Answers (.safeRelease v) s fun t => s.OnlyRegs t [Reg.SYS_CLKSTAT] ∧ t.bit Reg.SYS_CLKSTAT 17 = false)
      ∧ (v.getLsbD 0 = false ∨ failed = true → Answers (.safeRelease v) s fun t => t = s))

/-- R50, R272 to R276: deep sleep is entered, or its entry abandoned; what it keeps and loses; the transfers that it does not accept; its exits; and off-with-RTC. -/
def Obligations.PowerModes : Prop :=
  ∀ (s : State) (v : Word),
    (s.deepAsked = true → s.deepReady = true →
      Answers (.deepSleepEntry true) s (fun t => s.OnlyRegs t [Reg.SYS_PMSTAT] ∧ t.bit Reg.SYS_PMSTAT 2 = true)
      ∧ (s.losses.length = 9 → Answers (.deepSleepEntry false) s fun t => t.sys.power = .deepSleep ∧ t.lk.noClock = true ∧ t.a0.noClock = true ∧ t.a1.noClock = true ∧ t.ashc.noClock = true
        ∧ t.bit Reg.SYS_CLKSTAT 23 = false ∧ t.bit Reg.SYS_CLKSTAT 22 = false ∧ t.bit Reg.SYS_CLKSTAT 21 = false
        ∧ t.tb.extrap = (s.tb.extrap || (s.bit Reg.TB_CTL 1 && s.bedrockRuns)) ∧ t.rtc = s.rtc ∧ t.hop = s.hop ∧ t.slot.asn = s.slot.asn
        ∧ ∀ a, t.mem1 a = (let n := lossRegion a
          if isSram a && n != 0 && ! s.bit Reg.SYS_RETAIN n then Config.lostWord (s.losses.getD n 0 + 1) a else s.mem1 a)))
    ∧ (s.deepAsked = false ∨ s.deepReady = false → ∀ b, Answers (.deepSleepEntry b) s fun t => t = s)
    ∧ (∀ edges, s.sys.power = .deepSleep → (s.wakes 0 || s.wakes 1 || s.wakes 2) = true → Answers (.deepSleepExit edges) s fun t =>
        t.sys.power = .exiting ∧ t.regs = s.regs ∧ t.mem = s.mem ∧ (s.tb.extrap = false → t.tb = s.tb)
        ∧ (s.tb.extrap = true → t.tb.count = s.tb.count + BitVec.ofNat 72 ((s.tb.acc.toNat + edges * s.tb.inc) / 2 ^ 32)))
    ∧ (s.sys.power = .deepSleep → s.monitored 3 = true → s.isFailed 3 = false → Answers (.clockFail 3) s fun t => t.sys.power = .exiting ∧ t.bit Reg.RTC_STAT 17 = true ∧ t.mem = s.mem)
    ∧ (s.asleep = true → ∀ i ∈ [Instr.clockControlWrite v, .registerWrite .a0 v v, .asnRead .lk, .cellAlloc .a1, .slotArm .lk v, .hopperEnable v], Answers i s fun t => t = s)
    ∧ (∀ edges, (s.wakes 0 || s.wakes 1 || s.wakes 2) = false → Answers (.deepSleepExit edges) s fun t => t = s)
    ∧ (s.sys.power = .exiting → s.bit Reg.SYS_CLKCTL 23 = true → s.bit Reg.SYS_CLKSTAT 23 = false → s.sys.refFail = false → s.slot.op = none → s.phy.rx = [] →
        Answers .exitReferenceTimeout s fun t => t.sys.power = .on ∧ t.sys.refFail = true ∧ t.bit Reg.SYS_PMSTAT 1 = true ∧ t.bit Reg.SYS_CLKSTAT 17 = true ∧ t.ashc.noClock = false
          ∧ t.a0.issued = false ∧ t.mem = s.mem)
    ∧ (s.asleep = false → Answers (.offRequest v) s fun t => t = { s with regs := t.regs, sys := { s.sys with offReq := s.sys.offReq || (decide (v.toNat / 256 = 0x9740) && v.getLsbD 1) } }
        ∧ t.reg Reg.SYS_PMCTL = v &&& 1#24 ∧ s.KeepsRegs t [Reg.SYS_PMCTL])
    ∧ (s.sys.offReq = true → s.nvmBusy = false → Answers .offEntry s fun t =>
        t.sys.power = .off ∧ t.sys.inReset = some .power ∧ t.rtc = s.rtc ∧ t.a0.run = .held ∧ t.a1.run = .held ∧ t.lk.run = .held
        ∧ (∀ a, isRtcReg a = true → t.reg a = s.reg a) ∧ (∀ a, isFlash a = true ∨ isJournal a = true → t.mem1 a = s.mem1 a))
    ∧ (s.sys.offReq = false ∨ s.nvmBusy = true → Answers .offEntry s fun t => t = s)

/-! ## Start-up and the host's commands (R279 to R298, R469) -/

/-- R288, R291, R295 to R297, R469: the boot ends with the configuration locked, at SYS_A0ENT or in the safe commissioning state, which it enters with CRC_FAIL where neither copy's header passes its CRC;
the restart after an application reset; the link-RAM loader, and the release of LK and A1. -/
def Obligations.StartUp : Prop :=
  ∀ (s : State) (bad verify retried : List Nat) (xtal tcxo pll : Bool) (v : Word),
    let left := fun (t : State) => t.a0.issued = true ∧ (t.a0.pc = t.reg Reg.SYS_A0ENT ∨ t.bit Reg.SYS_BOOTSTAT 15 = true)
    (s.romRuns = true → s.locked = false → Answers (.bootSequence bad verify retried xtal tcxo pll) s fun t => left t ∧ t.locked = true)
    ∧ (s.romRuns = true → s.locked = false → s.norBlockOk bad 0 0 = false → s.norBlockOk bad 1 0 = false → Answers (.bootSequence bad verify retried xtal tcxo pll) s fun t =>
        t.bit Reg.SYS_BOOTSTAT 15 = true ∧ t.fld Reg.SYS_BOOTSTAT 16 8 = 8 ∧ t.nor = s.nor)
    ∧ (s.romRuns = false → (∀ i ∈ [Instr.bootSequence bad verify retried xtal tcxo pll, .applicationRestart verify retried], Answers i s fun t => t = s))
    ∧ (s.romRuns = true → s.locked = true → Answers (.applicationRestart verify retried) s left)
    ∧ (s.romRuns = true → s.locked = true → s.safe = true → Answers (.applicationRestart verify retried) s fun t => t = { s with a0 := { s.a0 with issued := true } })
    ∧ (s.asleep = false →
      (s.bit Reg.SYS_CORECTL 0 = false → s.locked = false → Answers (.linkRamLoad v) s fun t =>
        (let a := 0xD00000 + s.fld Reg.SYS_LKLDADR 0 14
        t.mem1 a = v ∧ (∀ b, b ≠ a → t.mem1 b = s.mem1 b) ∧ t.fld Reg.SYS_LKLDADR 0 14 = (s.fld Reg.SYS_LKLDADR 0 14 + 1) % 16384 ∧ s.KeepsRegs t [Reg.SYS_LKLDADR]))
      ∧ (s.bit Reg.SYS_CORECTL 0 = true ∨ s.locked = true → Answers (.linkRamLoad v) s fun t => t = s)
      ∧ (let a1 := v.getLsbD 1 && ! s.bit Reg.SYS_CORECTL 1
        let lk := v.getLsbD 0 && ! s.bit Reg.SYS_CORECTL 0
        let freed := fun (t : State) => t.bit Reg.SYS_CORECTL 1 = (a1 || s.bit Reg.SYS_CORECTL 1) ∧ t.bit Reg.SYS_CORECTL 0 = (lk || s.bit Reg.SYS_CORECTL 0) ∧ s.KeepsRegs t [Reg.SYS_CORECTL]
          ∧ t.mem = s.mem ∧ t.a0 = s.a0 ∧ (a1 = false → t.a1 = s.a1) ∧ (lk = false → t.lk = s.lk) ∧ (a1 = false → lk = false → t.regs = s.regs)
          ∧ (a1 = true → s.reg Reg.SYS_A1ENT = 0#24 → t.a1.run = .wfi) ∧ (a1 = true → s.reg Reg.SYS_A1ENT ≠ 0#24 → t.a1.run = .run ∧ t.a1.pc = s.reg Reg.SYS_A1ENT)
          ∧ (lk = true → t.lk.run = .run ∧ t.lk.pc.toNat = 0xD00000 + (if s.bit Reg.SLOT_LKBANK 23 then 0x4000 else 0))
        Answers (.a1Release v) s freed ∧ Answers (.lkRelease v) s freed
        ∧ ∀ m ∈ [Master.lk, .a0, .a1, .dbg], s.reaches m Reg.SYS_CORECTL true = true → Answers (.registerWrite m 0xF00061#24 v) s freed)
      ∧ (v.getLsbD 0 = false → v.getLsbD 1 = false → ∀ i ∈ [Instr.a1Release v, .lkRelease v], Answers i s fun t => t = s))

/-- R298 and the command set of the factory firmware: what each command of the host does, and its reply: word 0 repeated, the status in bits 7:0 of word 1, and the data; BUSY while the reply before is
open, ILLEGAL in the safe commissioning state for a code above 0x08. -/
def Obligations.HostCommands : Prop :=
  ∀ (s : State) (tag : BitVec 16) (a n : Word) (ws sig : List Word) (os : List Octet) (sub : BitVec 15) (low : Bool), s.serves = true → s.hlOn = true →
    let said := fun (t : State) (code status : Nat) (data : List Word) => ∃ w : Word, w.toNat % 256 = status ∧
      (let words := BitVec.ofNat 24 (code * 65536 + tag.toNat) :: w :: data.take 254
      if s.hl.tx.isSome then t.hl.tx = s.hl.tx ∧ t.hl.wait = s.hl.wait ++ [words] else t.hl.tx = some { typ := 2, seq := s.hl.seq, words := words })
    let all : List (Nat × Instr) := [(1, .status tag), (2, .norRead tag a n), (3, .norErase tag a), (4, .norWrite tag a ws), (5, .profileWord tag a n), (6, .profileLock tag),
      (7, .ashlar tag (a.extractLsb' 0 8) ws), (8, .reset tag), (0x10, .nodeInfo tag), (0x11, .neighbours tag a), (0x12, .counters tag), (0x18, .meshSend tag os), (0x20, .lampSet tag a n),
      (0x21, .lampGet tag), (0x22, .daliFrame tag a n low), (0x23, .energy tag), (0x28, .schedGet tag), (0x29, .schedSet tag ws sig), (0x2A, .timeSet tag a n sub), (0x38, .logRead tag a n)]
    (∀ p ∈ all, s.hostBusy = true → Answers p.2 s fun t => said t p.1 3 [] ∧ t.mem = s.mem ∧ t.nor = s.nor)
    ∧ (∀ p ∈ all, s.hostBusy = false → s.safe = true → 8 < p.1 → Answers p.2 s fun t => said t p.1 7 [] ∧ t.mem = s.mem ∧ t.nor = s.nor)
    ∧ (s.hostBusy = false →
      Answers (.status tag) s (fun t => ∃ rp, said t 1 0 (s.memWords 0x200000 7 ++ [BitVec.ofNat 24 Config.siliconRevision.toNat, rp]))
      ∧ (1 ≤ n.toNat → n.toNat ≤ 255 → a.toNat + 3 * n.toNat ≤ 0x80000 → Answers (.norRead tag a n) s fun t =>
          said t 2 0 ((List.range n.toNat).map fun i => s.norWord (a.toNat + 3 * i)) ∧ t.nor = s.nor)
      ∧ (a.toNat % 4096 = 0 → a.toNat < 0x80000 → Answers (.norErase tag a) s fun t => said t 3 0 [] ∧ ∀ k, t.norOctet k = if k / 4096 = a.toNat / 4096 then 0xFF#24 else s.norOctet k)
      ∧ (ws ≠ [] → ws.length ≤ 85 → a.toNat % 256 + 3 * ws.length ≤ 256 → a.toNat + 3 * ws.length ≤ 0x80000 → Answers (.norWrite tag a ws) s fun t => said t 4 0 []
          ∧ ∀ k, t.norOctet k = if a.toNat ≤ k ∧ k < a.toNat + 3 * ws.length then s.norOctet k &&& BitVec.ofNat 24 ((octetsOf ws).getD (k - a.toNat) 0) else s.norOctet k)
      ∧ (a.toNat ≤ 29 → s.rfe.otpLocked = false → s.rfe.prof = none → s.rfe.otp.length = 30 → Answers (.profileWord tag a n) s fun t =>
          (∃ rp, said t 5 0 [rp]) ∧ t.profileWord a.toNat = s.profileWord a.toNat ||| n ∧ ∀ k, k ≠ a.toNat → t.profileWord k = s.profileWord k)
      ∧ (s.rfe.otpLocked = false → s.rfe.prof = none → Answers (.profileLock tag) s fun t => (∃ rp, said t 6 0 [rp]) ∧ t.rfe.otpLocked = s.profileCrcOk ∧ t.rfe.otp = s.rfe.otp)
      ∧ (s.ash.holder.isSome = true → Answers (.ashlar tag (a.extractLsb' 0 8) ws) s fun t => said t 7 3 [])
      ∧ (s.ash.holder = none → Answers (.ashlar tag (a.extractLsb' 0 8) ws) s fun t =>
          (let r := s.ashOnce .a0 (a.toNat % 256) ws
          r.1.1 < 256 → said t 7 r.1.1 r.1.2) ∧ t.ash.holder = none)
      ∧ (s.outOfReset → s.nvmIdle → Answers (.reset tag) s fun t => t.sys.inReset = some .system ∧ t.bit Reg.SYS_RSTCAUSE 5 = true ∧ t.mem = s.mem
          ∧ ∃ w : Word, w.toNat % 256 = 0 ∧ t.hl.rsp = [BitVec.ofNat 24 (8 * 65536 + tag.toNat), w]))
    ∧ (s.hostBusy = false → s.safe = false →
      (∀ p ∈ [(0x10, Instr.nodeInfo tag), (0x11, .neighbours tag a), (0x12, .counters tag), (0x21, .lampGet tag), (0x23, .energy tag)], Answers p.2 s fun t =>
          (∃ data, said t p.1 0 data) ∧ t.mem = s.mem ∧ t.rtc = s.rtc)
      ∧ (os = [] ∨ 2043 < os.length → Answers (.meshSend tag os) s fun t => said t 0x18 7 [])
      ∧ (os ≠ [] → os.length ≤ 2043 → s.hop.free.length < cellCount os.length + 64 → Answers (.meshSend tag os) s fun t => said t 0x18 3 [])
      ∧ (os ≠ [] → os.length ≤ 2043 → cellCount os.length + 64 ≤ s.hop.free.length → Answers (.meshSend tag os) s fun t => ∃ w, said t 0x18 0 [w])
      ∧ Answers (.lampSet tag a n) s (fun t => ∃ st, said t 0x20 st [])
      ∧ (∀ l, s.hl.sched = some l → Answers (.schedGet tag) s fun t => said t 0x28 0 l ∧ t.hl.sched = s.hl.sched)
      ∧ (s.ash.holder = none → (s.ashVerify .a0 0x31 ws sig).1 < 256 → Answers (.schedSet tag ws sig) s fun t =>
          said t 0x29 (s.ashVerify .a0 0x31 ws sig).1 [] ∧ t.hl.sched = if (s.ashVerify .a0 0x31 ws sig).1 = 0 then some ws else s.hl.sched)
      ∧ Answers (.timeSet tag a n sub) s (fun t => said t 0x2A (if t.rtc.set.isSome then 0 else 7) [])
      ∧ (n.toNat = 0 ∨ 32 < n.toNat → Answers (.logRead tag a n) s fun t => said t 0x38 7 [])
      ∧ (1 ≤ n.toNat → n.toNat ≤ 32 → Answers (.logRead tag a n) s fun t => t.mem = s.mem
          ∧ said t 0x38 0 ((List.range n.toNat).flatMap fun i => s.memWords (entryAddr (a.toNat + i)) 8)))

/-! ## Flash and journal (R301 to R321) -/

/-- R305 to R311, R314 to R316: programs and erases from their command to their end, a suspend and a resume, their tickets and row checks, and the brown-out detector. -/
def Obligations.FlashOperations : Prop :=
  ∀ (s : State) (m : Master) (cid w : Nat) (v : Word), nvmCid m = some cid → s.asleep = false →
    let a := s.fld Reg.NVM_ADDR 0 21
    let op := v.toNat % 8
    let ended := fun (t : State) (status c : Nat) => t.fld Reg.NVM_STAT 0 8 = status ∧ t.fld Reg.NVM_STAT 20 2 = c ∧ t.isPending 78 = true
    let free := s.bit Reg.NVM_STAT 19 = false ∧ s.xoSector (a / 2048) = false ∧ s.nvm.prog = none
    (v.toNat / 65536 ≠ 0x97 → s.reaches m Reg.NVM_CMD true = true → ∀ i ∈ [Instr.program m v, .erase m v, .suspend m v true, .suspend m v false, .resume m v], Answers i s fun t => t = s.begun m)
    ∧ (v.toNat / 65536 = 0x97 → s.reaches m Reg.NVM_CMD true = true →
      (op = 1 → a % 64 = 0 → free → s.nvm.er = none → s.isHalf (a / 2048) = false → s.rowBlank a = true → Answers (.program m v) s fun t =>
          t.nvm = { s.nvm with prog := some { addr := a, words := (List.range 64).map fun i => s.reg (Reg.NVM_BUF i), cid := cid } } ∧ t.bit Reg.NVM_STAT 23 = true
          ∧ ∀ x, isFlash x = true → t.mem1 x = s.mem1 x)
      ∧ (op = 1 → a % 64 = 0 → free → s.nvm.er = none → s.isHalf (a / 2048) = false → s.rowBlank a = false → Answers (.program m v) s fun t =>
          ended t 0x41 cid ∧ t.nvm = s.nvm ∧ t.mem = s.mem)
      ∧ (op = 1 → a % 64 = 0 → free → s.nvm.er = none → s.isHalf (a / 2048) = true → Answers (.program m v) s fun t => ended t 0x0A cid ∧ t.nvm = s.nvm ∧ t.mem = s.mem)
      ∧ (∀ k, op = 2 → a % 2048 = 0 → free → s.nvm.er = none → s.freeTicket = some k → Answers (.erase m v) s fun t =>
          t.nvm.er = some { sector := a / 2048, cid := cid, ticket := k } ∧ t.isHalf (a / 2048) = true ∧ t.ticketState k = 1 ∧ t.bit Reg.NVM_STAT 23 = true
          ∧ ∀ x, isFlash x = true → x / 2048 ≠ a / 2048 → t.mem1 x = s.mem1 x)
      ∧ (op = 2 → a % 2048 = 0 → free → s.nvm.er = none → s.freeTicket = none → Answers (.erase m v) s fun t => ended t 0x43 cid ∧ t.nvm = s.nvm ∧ t.mem = s.mem)
      ∧ (op = 1 ∨ op = 2 → a % 2048 = 0 → s.nvm.prog.isSome = true → ∀ i ∈ [Instr.program m v, .erase m v], Answers i s fun t => ended t 3 cid ∧ t.nvm = s.nvm ∧ t.mem = s.mem)
      ∧ (∀ e, s.nvm.er = some e → e.susp = false → e.stopping = none → op = 3 → Answers (.suspend m v false) s fun t =>
          t = { s.begun m with nvm := { s.nvm with er := some { e with stopping := some cid } } })
      ∧ (∀ e, s.nvm.er = some e → e.susp = true → s.nvm.prog = none → op = 4 → e.ticket < 64 → e.sector < 1024 → Answers (.resume m v) s fun t =>
          ended t 0 cid ∧ t.nvm.er = some { e with susp := false } ∧ t.ticketState e.ticket = 1))
    ∧ (∀ p, s.nvm.prog = some p → p.words.length = 64 → p.addr % 64 = 0 → p.addr < 0x200000 → p.cid < 4 →
      Answers (.programComplete true) s (fun t => ended t 1 p.cid ∧ t.nvm.prog = none ∧ t.memWords p.addr 64 = p.words ∧ t.rowOk p.addr = true
        ∧ ∀ x, (x < p.addr ∨ p.addr + 64 ≤ x) → t.mem1 x = s.mem1 x)
      ∧ Answers (.programComplete false) s (fun t => ended t 0x42 p.cid ∧ t.nvm.prog = none ∧ t.rowOk p.addr = false ∧ ∀ x, (x < p.addr ∨ p.addr + 64 ≤ x) → t.mem1 x = s.mem1 x)
      ∧ (s.bit Reg.NVM_STAT 19 = false → s.nvm.jops = [] → Answers (.flashBrownOut w) s fun t => ended t 0x40 p.cid ∧ t.isPending 79 = true ∧ t.bit Reg.NVM_STAT 19 = true ∧ t.nvm.prog = none
          ∧ t.rowOk p.addr = false))
    ∧ (∀ e, s.nvm.er = some e → e.sector < 1024 → e.ticket < 64 → e.cid < 4 →
      (e.susp = false → e.verify = false → e.stopping = none → s.bit Reg.NVM_STAT 19 = false → Answers .erasePulseEnd s fun t =>
          t.nvm.er = some { e with pulses := e.pulses + 1, verify := decide (4 ≤ e.pulses + 1) } ∧ t.regs = s.regs ∧ ∀ x, x / 2048 ≠ e.sector → t.mem1 x = s.mem1 x)
      ∧ (e.susp = false → e.verify = true → e.stopping = none →
        Answers (.blankVerifyEnd true) s (fun t => ended t 1 e.cid ∧ t.nvm.er = none ∧ t.isHalf e.sector = false ∧ (∀ x, x / 2048 = e.sector → t.mem1 x = 0xFFFFFF#24)
          ∧ (s.mem1 (0x280800 + e.sector) ≠ 0xFFFFFF#24 → t.mem1 (0x280800 + e.sector) = s.mem1 (0x280800 + e.sector) + 1#24))
        ∧ (32 ≤ e.pulses → Answers (.blankVerifyEnd false) s fun t => ended t 0x42 e.cid ∧ t.nvm.er = none ∧ t.mem = s.mem)
        ∧ (e.pulses < 32 → Answers (.blankVerifyEnd false) s fun t => t = { s with nvm := { s.nvm with er := some { e with verify := false } } }))
      ∧ (∀ c, e.stopping = some c → c < 4 → Answers .suspendStop s fun t => ended t 0 c ∧ t.nvm.er = some { e with susp := true, stopping := none } ∧ t.ticketState e.ticket = 2
          ∧ t.bit Reg.NVM_STAT 22 = true)
      ∧ (e.susp = false → s.nvm.prog = none → s.nvm.jops = [] → s.bit Reg.NVM_STAT 19 = false → Answers (.flashBrownOut w) s fun t =>
          ended t 0x40 e.cid ∧ t.nvm.er = none ∧ t.bit Reg.NVM_STAT 19 = true ∧ ∀ k, t.ticket0 k = s.ticket0 k))
    ∧ Answers .flashBrownOutRelease s (fun t => s.OnlyRegs t [Reg.NVM_STAT] ∧ t.bit Reg.NVM_STAT 19 = false)

/-- R318 to R321: journal commands: refused as ILLEGAL, BUSY or REFUSED, or queued with the words of the master's buffer; the end of the oldest writes its words, counts, or writes the calibration set with its
header, and raises source 80. -/
def Obligations.JournalOperations : Prop :=
  ∀ (s : State) (m : Master) (cid : Nat) (v : Word), nvmCid m = some cid → s.asleep = false →
    let reached := s.reaches m Reg.NVM_JCMD true = true
    let op := v.toNat / 2 ^ 21
    let off := v.toNat % 65536
    let n := v.toNat / 65536 % 16 + 1
    let stat := fun (t : State) (w : Word) => t.latch m Reg.NVM_JSTAT = w
    let open' := fun (o : Nat) (x : Nat) => if o = 3 then 0x100 ≤ x ∧ x < 0x200 else 0x200 ≤ x ∧ x < 0x400 ∨ 0x1000 ≤ x ∧ x < 0x8000
    (∀ i ∈ [Instr.journalWrite m v, .journalIncrement m v, .calibrationWrite m v], reached →
      (op = 0 ∨ 3 < op ∨ (op = 2 ∧ (off < 0xC0 ∨ 0x100 ≤ off)) → (∀ j ∈ s.nvm.jops, j.master ≠ m) → Answers i s fun t => stat t 7#24 ∧ t.nvm = s.nvm ∧ t.mem = s.mem ∧ t.isPending 80 = true)
      ∧ (op = 1 ∨ op = 3 → off + n ≤ 0x10000 → (∀ j ∈ s.nvm.jops, j.master ≠ m) → (∃ k, k < n ∧ ¬ open' op (off + k)) → Answers i s fun t =>
          stat t 4#24 ∧ t.nvm = s.nvm ∧ t.mem = s.mem ∧ t.isPending 80 = true)
      ∧ (op = 1 ∨ op = 3 → off + n ≤ 0x10000 → (∃ j ∈ s.nvm.jops, j.master = m) → Answers i s fun t => stat t 0x800003#24 ∧ t.nvm = s.nvm ∧ t.mem = s.mem ∧ t.isPending 80 = true)
      ∧ (op = 1 ∨ op = 3 → off + n ≤ 0x10000 → (∀ k, k < n → open' op (off + k)) → (∀ j ∈ s.nvm.jops, j.master ≠ m) → Answers i s fun t =>
          t.nvm = { s.nvm with jops := s.nvm.jops ++ [{ master := m, op := op, off := off, words := (List.range n).map fun k => s.latch m (Reg.NVM_JBUF k) }] }
          ∧ (t.latch m Reg.NVM_JSTAT).getLsbD 23 = true ∧ t.mem = s.mem ∧ t.regs = s.regs)
      ∧ (op = 2 → 0xC0 ≤ off → off < 0x100 → (∀ j ∈ s.nvm.jops, j.master ≠ m) → Answers i s fun t =>
          t.nvm = { s.nvm with jops := s.nvm.jops ++ [{ master := m, op := 2, off := off, words := [] }] } ∧ (t.latch m Reg.NVM_JSTAT).getLsbD 23 = true ∧ t.mem = s.mem))
    ∧ (∀ j rest, s.nvm.jops = j :: rest → (∀ k ∈ rest, k.master ≠ j.master) →
      let done := fun (t : State) (w : Word) => t.nvm = { s.nvm with jops := rest } ∧ t.latch j.master Reg.NVM_JSTAT = w ∧ t.isPending 80 = true
      (s.bit Reg.NVM_STAT 19 = true → Answers .journalWriteDone s fun t => done t 0x40#24 ∧ t.mem = s.mem)
      ∧ (s.bit Reg.NVM_STAT 19 = false → j.op = 1 → 1 ≤ j.words.length → Answers .journalWriteDone s fun t => done t 1#24 ∧ t.memWords (0x280000 + j.off) j.words.length = j.words
          ∧ ∀ x, (x < 0x280000 + j.off ∨ 0x280000 + j.off + j.words.length ≤ x) → t.mem1 x = s.mem1 x)
      ∧ (s.bit Reg.NVM_STAT 19 = false → j.op = 2 → Answers .journalWriteDone s fun t => done t 1#24
          ∧ (let x := 0x280000 + j.off
            t.mem1 x = (if s.mem1 x = 0xFFFFFF#24 then s.mem1 x else s.mem1 x + 1#24) ∧ ∀ y, y ≠ x → t.mem1 y = s.mem1 y))
      ∧ (s.bit Reg.NVM_STAT 19 = false → j.op = 3 → 1 ≤ j.words.length → 0x100 < j.off → Answers .journalWriteDone s fun t => done t 1#24
          ∧ t.memWords (0x280000 + j.off) j.words.length = j.words ∧ (t.mem1 0x280100).getLsbD 15 = false
          ∧ (t.mem1 0x280100).toNat % 2 ^ 15 = min 0x7FFF ((s.mem1 0x280100).toNat % 2 ^ 15 + 1)))

/-! ## The Ashlar (R327 to R352) and field update (R353 to R367) -/

/-- R327 to R329: the mailbox: its claim, a command written by its holder, the end of the running command, a withdrawal and a release; another master's writes do nothing. -/
def Obligations.Mailbox : Prop :=
  ∀ (s : State) (m : Master) (v : Word) (len : BitVec 10) (past : Bool), s.asleep = false →
    let all : List (Nat × Instr) := [(0x01, .getInfo m len), (0x02, .getCert m len), (0x03, .random m len), (0x10, .hashStart m len), (0x11, .hashData m len), (0x12, .verifyConfig m len),
      (0x13, .verifyImage m len), (0x14, .commitBoot m len), (0x15, .applySec m len), (0x20, .registerOwner m len), (0x21, .transferOwner m len), (0x30, .attest m len), (0x31, .verifyToken m len),
      (0x40, .loadLinkKey m len), (0x41, .clearLinkKey m len), (0x42, .fcntReserve m len), (0x43, .fcntRaise m len), (0x50, .debugChallenge m len), (0x51, .debugUnlock m len)]
    (∀ p ∈ all, s.reaches m Reg.ASH_CMD true = true →
      (s.ash.holder ≠ some m → Answers p.2 s fun t => t = s.begun m)
      ∧ (s.ash.holder = some m → s.bit Reg.ASH_STAT 23 = true → Answers p.2 s fun t => (s.begun m).OnlyRegs t [Reg.ASH_STAT] ∧ t.bit Reg.ASH_STAT 21 = true)
      ∧ (s.ash.holder = some m → s.bit Reg.ASH_STAT 23 = false → Answers p.2 s fun t =>
          t.ash = { s.ash with run := some { code := p.1, len := len.toNat, master := m, rom := m == .a0 && isRom s.a0.pc.toNat } }
          ∧ t.bit Reg.ASH_STAT 23 = true ∧ t.bit Reg.ASH_STAT 22 = false ∧ t.bit Reg.ASH_STAT 21 = false ∧ s.KeepsRegs t [Reg.ASH_STAT] ∧ t.intc.ashPend.getLsbD 0 = true ∧ t.mem = s.mem))
    ∧ (let code := match m with
        | .lk => 1
        | .a0 => 2
        | .a1 => 3
        | .dbg => 4
        | _ => 0
      s.reaches m Reg.ASH_CLAIM false = true →
      (s.ash.holder = none → code ≠ 0 → (m = .dbg → s.debugLocked = false) → Answers (.mailboxClaim m) s fun t =>
          t.sys.rdata = BitVec.ofNat 24 (0x800000 + code * 256) ∧ t.ash = { s.ash with holder := some m } ∧ t.regs = s.regs)
      ∧ (s.ash.holder.isSome = true ∨ code = 0 ∨ (m = .dbg ∧ s.debugLocked = true) → Answers (.mailboxClaim m) s fun t =>
          t.sys.rdata = BitVec.ofNat 24 (s.holderField * 256 + 3) ∧ t.ash = s.ash ∧ t.regs = s.regs))
    ∧ (∀ i ∈ [Instr.mailboxRelease m v past, .withdraw m v past], s.reaches m Reg.ASH_CTL true = true →
      (s.ash.holder ≠ some m → Answers i s fun t => t = s.begun m)
      ∧ (s.ash.holder = some m → v.getLsbD 0 = true → v.getLsbD 1 = false → s.bit Reg.ASH_STAT 23 = false → Answers i s fun t =>
          t.ash = { s.ash with holder := none, stream := none, challenge := none, run := none } ∧ t.mem = s.mem ∧ s.KeepsRegs t ((List.range 512).map Reg.ASH_RSP)
          ∧ ∀ k, k < 512 → t.reg (Reg.ASH_RSP k) = 0#24)
      ∧ (s.ash.holder = some m → v.getLsbD 0 = true → v.getLsbD 1 = false → s.bit Reg.ASH_STAT 23 = true → Answers i s fun t => t = s.begun m)
      ∧ (∀ r, s.ash.holder = some m → v.getLsbD 0 = false → v.getLsbD 1 = true → s.ash.run = some r → r.out = none → past = false → Answers i s fun t =>
          t.ash = { s.ash with run := some { r with out := some (2, []) } } ∧ t.intc.ashPend.getLsbD 1 = true ∧ t.regs = s.regs ∧ t.mem = s.mem))
    ∧ (∀ r o, s.ash.run = some r → r.out = some o → o.1 < 256 → o.2.length ≤ 512 → Answers .mailboxResponse s fun t =>
        t.ash = { s.ash with run := none } ∧ t.fld Reg.ASH_STAT 0 8 = o.1 ∧ t.fld Reg.ASH_STAT 8 10 = o.2.length ∧ t.bit Reg.ASH_STAT 23 = false ∧ t.bit Reg.ASH_STAT 22 = true
        ∧ t.isPending 76 = true ∧ t.mem = s.mem ∧ ∀ k, k < o.2.length → t.reg (Reg.ASH_RSP k) = o.2.getD k 0#24)
    ∧ (s.ash.run = none → Answers .mailboxResponse s fun t => t = s)

/-- R331 to R334, R338, R340, R341: what commands do at their response: the checks of code, length and issuer first, then the command's own: random words, the hash stream, the boot floor, the owner, link keys and frame
counters. -/
def Obligations.AshlarServices : Prop :=
  ∀ (s : State) (r : AshRun), s.ash.run = some r → r.out = none → s.asleep = false →
    let said := fun (t : State) (status : Nat) (ws : List Word) => t.fld Reg.ASH_STAT 0 8 = status ∧ t.fld Reg.ASH_STAT 8 10 = ws.length ∧ t.bit Reg.ASH_STAT 23 = false ∧ t.ash.run = none
      ∧ t.isPending 76 = true ∧ ∀ k, k < ws.length → t.reg (Reg.ASH_RSP k) = ws.getD k 0#24
    let core := r.master = .lk ∨ r.master = .a0 ∨ r.master = .a1
    let w0 := (s.reg (Reg.ASH_REQ 0)).toNat
    let mark := (s.mem1 0x280405).toNat % 65536
    (ashLen r.code = none → Answers .mailboxResponse s fun t => said t 7 [] ∧ t.mem = s.mem)
    ∧ (∀ lo hi, ashLen r.code = some (lo, hi) → (r.len < lo ∨ hi < r.len) → Answers .mailboxResponse s fun t => said t 7 [] ∧ t.mem = s.mem ∧ t.ash.owner = s.ash.owner ∧ t.ash.keys = s.ash.keys)
    ∧ (r.code = 0x01 → r.len = 0 → Answers .mailboxResponse s fun t => t.fld Reg.ASH_STAT 0 8 = 0 ∧ t.fld Reg.ASH_STAT 8 10 = 51 ∧ t.reg (Reg.ASH_RSP 0) = s.reg Reg.ASH_INFO
        ∧ t.reg (Reg.ASH_RSP 45) = s.mem1 0x280401 ∧ t.mem = s.mem)
    ∧ (r.code = 0x03 → r.len = 1 → s.ash.eng.hf = false → 1 ≤ w0 → w0 ≤ 512 → Answers .mailboxResponse s fun t => (∃ ws, ws.length = w0 ∧ said t 0 ws) ∧ t.mem = s.mem ∧ t.fresh = s.fresh + w0)
    ∧ (r.code = 0x03 → r.len = 1 → s.ash.eng.hf = true → 1 ≤ w0 → w0 ≤ 512 → Answers .mailboxResponse s fun t => said t 0x44 [])
    ∧ (r.code = 0x10 → r.len = 0 → Answers .mailboxResponse s fun t => said t 0 [] ∧ t.ash = { s.ash with run := none, stream := some [] })
    ∧ (∀ m, r.code = 0x11 → 1 ≤ r.len → r.len ≤ 512 → s.ash.stream = some m → Answers .mailboxResponse s fun t =>
        said t 0 [] ∧ t.ash = { s.ash with run := none, stream := some (m ++ octetsOf ((List.range r.len).map fun k => s.reg (Reg.ASH_REQ k))) })
    ∧ (r.code = 0x11 → 1 ≤ r.len → r.len ≤ 512 → s.ash.stream = none → Answers .mailboxResponse s fun t => said t 0x47 [])
    ∧ (r.code = 0x14 → r.len = 1 → r.rom = false → Answers .mailboxResponse s fun t => said t 4 [] ∧ t.mem = s.mem)
    ∧ (r.code = 0x14 → r.len = 1 → r.rom = true → (s.mem1 0x280401).toNat ≤ w0 → Answers .mailboxResponse s fun t =>
        said t 0 [] ∧ (t.mem1 0x280401).toNat = w0 ∧ (t.ash.applied).toNat = w0 ∧ ∀ a, a ≠ 0x280401 → t.mem1 a = s.mem1 a)
    ∧ (r.code = 0x14 → r.len = 1 → r.rom = true → w0 < (s.mem1 0x280401).toNat → Answers .mailboxResponse s fun t => said t 4 [] ∧ t.mem = s.mem)
    ∧ (r.code = 0x20 → r.len = 172 → core → s.ash.owner.isSome = true → Answers .mailboxResponse s fun t => said t 0x40 [] ∧ t.ash.owner = s.ash.owner)
    ∧ (r.code = 0x20 → r.len = 172 → core → s.ash.owner = none → Answers .mailboxResponse s fun t => t.fld Reg.ASH_STAT 0 8 = 0 ∧ t.ash.owner = some s.reqKey ∧ t.bit Reg.ASH_INFO 23 = true ∧ t.mem = s.mem)
    ∧ (r.code = 0x41 → r.len = 2 → core → s.ash.keys.length = 32 → Answers .mailboxResponse s fun t => said t 0 []
        ∧ ∀ k, k < 32 → t.ash.keys.getD k none = if (w0 + (s.reg (Reg.ASH_REQ 1)).toNat % 256 * 2 ^ 24).testBit k then none else s.ash.keys.getD k none)
    ∧ (r.code = 0x42 → r.len = 0 → core → mark ≠ 0xFFFF → Answers .mailboxResponse s fun t => said t 0 [BitVec.ofNat 24 (mark * 65536), BitVec.ofNat 24 (mark / 256)]
        ∧ (t.mem1 0x280405).toNat = mark + 1 ∧ ∀ a, a ≠ 0x280405 → t.mem1 a = s.mem1 a)
    ∧ (r.code = 0x42 → r.len = 0 → core → mark = 0xFFFF → Answers .mailboxResponse s fun t => said t 4 [] ∧ t.mem = s.mem)
    ∧ (let v := w0 + (s.reg (Reg.ASH_REQ 1)).toNat % 256 * 2 ^ 24
      r.code = 0x43 → r.len = 2 → core → v / 65536 < 0xFFFF → Answers .mailboxResponse s fun t => said t 0 [BitVec.ofNat 24 (max (v / 65536 + 1) mark)]
        ∧ (t.mem1 0x280405).toNat = max (v / 65536 + 1) mark)
    ∧ (r.code = 0x51 → r.len = 171 → core → s.ash.nodbg = true → Answers .mailboxResponse s fun t => said t 4 [] ∧ t.ash.unlocked = s.ash.unlocked)
    ∧ (0x20 ≤ r.code → r.code ≠ 0x31 → ashLen r.code = some (r.len, r.len) → ¬ core → Answers .mailboxResponse s fun t => said t 4 [] ∧ t.mem = s.mem ∧ t.ash.owner = s.ash.owner ∧ t.ash.keys = s.ash.keys)

/-- R357 to R360, R367: the update service: a header that is refused for its source or its magic, resumed or begun, a block without a session, damaged or programmed in order, the status, abandonment and the
timeout. -/
def Obligations.UpdateService : Prop :=
  ∀ (s : State) (src : Fin 3) (tag : BitVec 16) (ws : List Word) (k : Word), s.updRuns = true → (src.val = 1 → s.hlOn = true ∧ s.hostBusy = false) →
    let answer := fun (t : State) (status : Nat) => t.upd.answer = some (src.val, status, t.updCount)
    (∀ o ok, s.updOwner = some o → o ≠ src.val → Answers (.updHeader src tag ws ok) s fun t => answer t 3 ∧ t.mem = s.mem)
    ∧ (∀ ok, s.updOwner = some src.val → s.copyState = 1 → s.memWords 0x28021D 22 = hdrDigest (ws.take 256) → Answers (.updHeader src tag ws ok) s fun t =>
        answer t 0 ∧ t.mem = s.mem ∧ t.upd.blocks = some (s.mem1 0x280206).toNat)
    ∧ (∀ ok, s.updOwner = none → ws.getD 0 0#24 ≠ 0xB9F1A5#24 → Answers (.updHeader src tag ws ok) s fun t => answer t 0x40 ∧ t.copyState = s.copyState ∧ (t.mem1 0x280200).toNat % 256 = 0x40
        ∧ ∀ a, a ≠ 0x280200 → t.mem1 a = s.mem1 a)
    ∧ (s.updOwner = none → (s.updChecks (ws.take 256)).1 = 0 → Answers (.updHeader src tag ws true) s fun t => answer t 0 ∧ t.copyState = 1 ∧ t.updCount = 0 ∧ t.updOwner = some src.val)
    ∧ (∀ crcOk ok, s.copyState ≠ 1 ∨ s.updOwner ≠ some src.val ∨ bodyBlocks (s.bodyLen 1) ≤ k.toNat → Answers (.updBlock src tag k ws crcOk ok) s fun t => answer t 0x47 ∧ t.mem = s.mem)
    ∧ (s.copyState = 1 → s.updOwner = some src.val → k.toNat < bodyBlocks (s.bodyLen 1) →
      (∀ ok, Answers (.updBlock src tag k ws false ok) s fun t => answer t 8 ∧ t.copyState = 1 ∧ ∀ a, a ≠ 0x280200 → t.mem1 a = s.mem1 a)
      ∧ (let row := 0x100100 + 64 * k.toNat
        k.toNat = s.updCount → k.toNat + 1 < bodyBlocks (s.bodyLen 1) → (k.toNat + 1) % 32 ≠ 0 → row % 2048 ≠ 0 → row < 0x200000 → ws.length = 64 →
        s.rowBlank row = true → s.isHalf (row / 2048) = false → Answers (.updBlock src tag k ws true true) s fun t =>
          answer t 0 ∧ t.updCount = k.toNat + 1 ∧ t.memWords row 64 = ws ∧ t.rowOk row = true ∧ ∀ a, (a < row ∨ row + 64 ≤ a) → t.mem1 a = s.mem1 a))
    ∧ (s.hlOn = true → s.hostBusy = false → s.hl.tx = none → Answers (.updStatus tag) s fun t => t.mem = s.mem
        ∧ ∃ w : Word, w.toNat % 256 = (s.mem1 0x280200).toNat % 256 ∧ t.hl.tx = some { typ := 2, seq := s.hl.seq, words := [BitVec.ofNat 24 (0x32 * 65536 + tag.toNat), w, BitVec.ofNat 24 s.updCount] })
    ∧ (s.hlOn = true → s.hostBusy = false → s.copyState = 1 → s.updOwner = some 1 → Answers (.updAbandon tag) s fun t =>
        t.copyState = 0 ∧ (t.mem1 0x280200).toNat % 256 = 2 ∧ t.upd.answer = some (1, 2, t.updCount) ∧ t.upd.blocks = none ∧ ∀ a, a ≠ 0x280200 → t.mem1 a = s.mem1 a)
    ∧ (s.hlOn = true → s.hostBusy = false → s.copyState ≠ 1 ∨ s.updOwner ≠ some 1 → Answers (.updAbandon tag) s fun t => t.upd.answer = some (1, 0x47, t.updCount) ∧ t.mem = s.mem)
    ∧ (s.copyState = 1 → Answers .transferTimeout s fun t => t.copyState = 0 ∧ (t.mem1 0x280200).toNat % 256 = 2 ∧ t.upd.blocks = none ∧ ∀ a, a ≠ 0x280200 → t.mem1 a = s.mem1 a)
    ∧ (s.copyState ≠ 1 → Answers .transferTimeout s fun t => t = s)

/-! ## Twin operation (R370 to R390) -/

/-- R370 to R374: the twin link: its states, its latency, the blocks that go out in type order and stay open, their answers and re-sends, and the DATA block. -/
def Obligations.TwinLink : Prop :=
  ∀ (s : State) (v : Word) (trip : Nat) (seq : BitVec 8), s.asleep = false → s.gateOpen Base.TW = true →
    let link := s.fld Reg.TW_STAT 22 2
    let down := fun (t : State) => t.fld Reg.TW_STAT 22 2 = 0 ∧ t.tw.sent = [] ∧ t.tw.data = none ∧ (s.twDataOpen = true → t.fld Reg.TW_TXSTAT 0 8 = 8 ∧ t.isPending 85 = true)
    let opens := fun (typ : Nat) (ws : List Word) (t : State) => t.tw.sent = s.tw.sent ++ [{ seq := s.tw.txSeq, typ := typ, words := ws }] ∧ t.tw.txSeq = (s.tw.txSeq + 1) % 256 ∧ t.regs = s.regs ∧ t.mem = s.mem
    (∀ i ∈ [Instr.twinLinkEnable v, .handoverStart v],
      (v.getLsbD 23 = true ∨ link = 0 → v.getLsbD 19 = false → (v.getLsbD 22 = true → v.getLsbD 21 = false → s.standby = true) → Answers i s fun t =>
          s.OnlyBlockRegs t [Reg.TW_CTL] ∧ t.reg Reg.TW_CTL = (s.reg Reg.TW_CTL &&& 0x080000#24) ||| (v &&& 0xF40000#24))
      ∧ (v.getLsbD 23 = false → link ≠ 0 → Answers i s down)
      ∧ (v.getLsbD 22 = true → v.getLsbD 21 = false → s.standby = false → Answers i s fun t => t.standby = true ∧ t.bit Reg.SLOT_CTL 22 = true)
      ∧ (v.getLsbD 23 = true → v.getLsbD 21 = true → v.getLsbD 19 = true → s.bit Reg.TW_CTL 19 = false → Answers i s fun t =>
          t.tw = { s.tw with ho := .asked, hoEdge := none } ∧ t.bit Reg.TW_CTL 19 = true ∧ s.KeepsRegs t [Reg.TW_CTL]))
    ∧ (s.bit Reg.TW_CTL 23 = true → link = 0 → Answers .commaReceived s fun t => s.OnlyRegs t [Reg.TW_STAT] ∧ t.fld Reg.TW_STAT 22 2 = 1)
    ∧ (s.bit Reg.TW_CTL 23 = false ∨ link ≠ 0 → Answers .commaReceived s fun t => t = s)
    ∧ (link ≠ 0 → Answers .commaTimeout s down)
    ∧ (link = 1 → Answers (.linkUp trip) s fun t => t.fld Reg.TW_STAT 22 2 = 2 ∧ (t.reg Reg.TW_LAT).toNat = min 4095 (trip / 2) ∧ s.KeepsRegs t [Reg.TW_STAT, Reg.TW_LAT]
        ∧ t.tw = { s.tw with txSeq := 0, taken := [], sent := [], reply := none })
    ∧ (link = 2 → Answers (.latencyMeasure trip) s fun t => s.OnlyRegs t [Reg.TW_LAT] ∧ (t.reg Reg.TW_LAT).toNat = min 4095 (trip / 2))
    ∧ (link ≠ 2 → Answers (.latencyMeasure trip) s fun t => t = s)
    ∧ (link = 2 → s.tw.sent.length < 4 → s.tw.ringWait = none →
      (s.tw.hbSent = false → s.blockFits s.heartbeat.length = true → Answers .blockSend s (opens 1 s.heartbeat))
      ∧ (∀ a b, s.tw.hbSent = true → s.tw.hand = some (a, b) → s.blockFits 2 = true → Answers .blockSend s (opens 6 [a, b]))
      ∧ (∀ p ps, s.tw.hbSent = true → s.tw.hand = none → s.mirroring = true → s.tw.pages = p :: ps → 0x8000 ≤ p → p < 0xA000 → s.blockFits 65 = true → Answers .blockSend s fun t => opens 3 (BitVec.ofNat 24 (64 * p) :: s.memWords (64 * p) 64) t ∧ t.tw.pages = ps)
      ∧ (∀ ws, s.tw.hbSent = true → s.tw.hand = none → s.mirroring = true → s.tw.pages = [] → s.tw.state = some ws → s.blockFits ws.length = true → Answers .blockSend s (opens 4 ws))
      ∧ (∀ a n, s.tw.hbSent = true → s.tw.hand = none → s.mirroring = false → s.tw.data = some (a, n) → 0x200000 ≤ a → a + n ≤ 0x280000 → s.blockFits n = true → Answers .blockSend s (opens 5 (s.memWords a n))))
    ∧ (link ≠ 2 ∨ 4 ≤ s.tw.sent.length → Answers .blockSend s fun t => t = s)
    ∧ (∀ b, s.tw.sent.find? (fun b => b.seq == seq.toNat) = some b →
      (b.typ ≠ 5 → b.typ ≠ 4 → Answers (.blockAck seq) s fun t => t = { s with tw := { s.tw with sent := s.tw.sent.filter fun b => b.seq != seq.toNat } })
      ∧ (b.typ = 5 → Answers (.blockAck seq) s fun t => t.tw = { s.tw with sent := s.tw.sent.filter fun b => b.seq != seq.toNat } ∧ t.fld Reg.TW_TXSTAT 0 8 = 1 ∧ t.isPending 85 = true)
      ∧ (b.typ = 4 → (b.words.headD 0#24).getLsbD 23 = true → Answers (.blockAck seq) s fun t => t.tw.committed = true ∧ t.tw.lagLast = false ∧ t.tw.sent = s.tw.sent.filter fun b => b.seq != seq.toNat)
      ∧ Answers (.blockNak seq true) s (fun t => t = { s with tw := { s.tw with ringWait := some seq.toNat } })
      ∧ (3 ≤ b.resends → Answers (.blockNak seq false) s fun t => down t ∧ t.bit Reg.TW_STAT 18 = true ∧ t.isPending 86 = true)
      ∧ (b.resends < 3 → Answers (.blockNak seq false) s fun t => t.tw = { s.tw with sent := (s.tw.sent.takeWhile fun b => b.seq != seq.toNat)
          ++ ((s.tw.sent.dropWhile fun b => b.seq != seq.toNat).map fun b => { b with resends := b.resends + 1 }) } ∧ s.KeepsRegs t [Reg.TW_CNTRS]))
    ∧ (∀ b rest, s.tw.sent = b :: rest → s.tw.ringWait ≠ some b.seq →
      (3 ≤ b.resends → Answers .blockAnswerTimeout s fun t => down t ∧ t.bit Reg.TW_STAT 18 = true ∧ t.isPending 86 = true)
      ∧ (b.resends < 3 → Answers .blockAnswerTimeout s fun t => t.tw = { s.tw with sent := (b :: rest).map fun b => { b with resends := b.resends + 1 } } ∧ s.KeepsRegs t [Reg.TW_CNTRS]))
    ∧ Answers .ringFullRetry s (fun t => t = { s with tw := { s.tw with ringWait := none } })
    ∧ (v.getLsbD 23 = true → s.twDataOpen = false →
      (1 ≤ v.toNat % 512 → v.toNat % 512 ≤ 256 → link = 2 → Answers (.dataSend v) s fun t => t.tw = { s.tw with data := some ((s.reg Reg.TW_TXADR).toNat, v.toNat % 512) } ∧ t.fld Reg.TW_TXSTAT 0 8 = 3
          ∧ s.KeepsRegs t [Reg.TW_TXSTAT])
      ∧ (v.toNat % 512 = 0 ∨ 256 < v.toNat % 512 → Answers (.dataSend v) s fun t => t.tw = s.tw ∧ t.fld Reg.TW_TXSTAT 0 8 = 7)
      ∧ (1 ≤ v.toNat % 512 → v.toNat % 512 ≤ 256 → link ≠ 2 → Answers (.dataSend v) s fun t => t.tw = s.tw ∧ t.fld Reg.TW_TXSTAT 0 8 = 4))
    ∧ (v.getLsbD 23 = false ∨ s.twDataOpen = true → Answers (.dataSend v) s fun t => t = s.noteBus false)

/-- R371, R374, R378, R381, R390: blocks received while the link is UP: a bad one is answered NAK, one already taken is answered ACK and discarded, and any other acts: heartbeats, pages, STATE out of order,
DATA and HANDOVER. R378, R384, R385, R389: a window without a heartbeat counts and decides at nmiss misses, unless there is air evidence; an assertion of TW_FLT raises source 89 and counts for the edge it reaches; a proposal not accepted in time fails. -/
def Obligations.TwinReceivesAndRoles : Prop :=
  (
  ∀ (s : State) (seq : BitVec 8) (a : Word) (ws : List Word) (w0 w1 : Word), s.twUp = true → s.asleep = false → s.gateOpen Base.TW = true →
    let ack := fun (t : State) => t.tw.reply = some (seq.toNat, none) ∧ t.tw.taken = (seq.toNat :: s.tw.taken).take 4
    Answers (.badBlockReceived seq) s (fun t => t = { s with tw := { s.tw with reply := some (seq.toNat, some 0) } })
    ∧ (seq.toNat ∈ s.tw.taken → ∀ i, (i = .heartbeatReceived seq ws ∧ ws.length = 8) ∨ (i = .pageReceived seq a ws ∧ ws.length = 64) ∨ (i = .stateReceived seq ws ∧ ws.length ≤ 256)
        ∨ (i = .dataReceived seq ws ∧ ws.length ≤ 256) ∨ i = .handoverReceived seq w0 w1 → Answers i s fun t => t = { s with tw := { s.tw with reply := some (seq.toNat, none) } })
    ∧ (seq.toNat ∉ s.tw.taken →
      (ws.length = 8 → (ws.getD 0 0#24).getLsbD 23 = false → Answers (.heartbeatReceived seq ws) s fun t => ack t ∧ t.tw.partner = (ws.getD 0 0#24).getLsbD 22 ∧ t.tw.hbSeen = s.tw.hbSeen ∧ t.regs = s.regs)
      ∧ (ws.length = 8 → (ws.getD 0 0#24).getLsbD 23 = true → Answers (.heartbeatReceived seq ws) s fun t => ack t ∧ t.tw.hbSeen = true ∧ t.fld Reg.TW_STAT 0 3 = 0 ∧ t.bit Reg.TW_STAT 21 = false ∧ t.mem = s.mem
          ∧ (s.standby = true → t.slot.asnReq = some ((ws.getD 2 0#24).toNat + (ws.getD 3 0#24).toNat % 65536 * 2 ^ 24) ∧ t.tw.err.isSome = true))
      ∧ (ws.length = 64 → s.standby = true → isSram a.toNat = true → isSram (a.toNat + 63) = true → Answers (.pageReceived seq a ws) s fun t => ack t ∧ t.memWords a.toNat 64 = ws ∧ t.tw.arriving = true ∧ t.regs = s.regs
          ∧ ∀ x, (x < a.toNat ∨ a.toNat + 64 ≤ x) → t.mem1 x = s.mem1 x)
      ∧ (ws.length ≤ 256 → s.standby = true → s.tw.snap = none → (ws.headD 0#24).toNat / 65536 % 128 ≠ 0 → Answers (.stateReceived seq ws) s fun t => ack t ∧ t.tw.snap = none ∧ t.bit Reg.TW_STAT 20 = true ∧ t.tw.lagLast = true
          ∧ t.mem = s.mem)
      ∧ (1 ≤ ws.length → ws.length ≤ 256 → s.standby = true → s.tw.snap = none → (ws.headD 0#24).toNat / 65536 % 128 = 0 → (ws.headD 0#24).getLsbD 23 = false → Answers (.stateReceived seq ws) s fun t =>
          ack t ∧ t.tw.snap = some (1, (ws.headD 0#24).toNat % 65536, ws.drop 1) ∧ t.regs = s.regs ∧ t.mem = s.mem)
      ∧ (ws.length ≤ 256 → s.ringFull = true → Answers (.dataReceived seq ws) s fun t => t = { s with tw := { s.tw with reply := some (seq.toNat, some 1) } })
      ∧ (ws.length ≤ 256 → s.ringFull = false → isSram ((s.reg Reg.TW_RXBASE).toNat + 260 * s.fld Reg.TW_RXWR 0 3) = true → isSram ((s.reg Reg.TW_RXBASE).toNat + 260 * s.fld Reg.TW_RXWR 0 3 + ws.length) = true →
          Answers (.dataReceived seq ws) s fun t => ack t ∧ t.isPending 84 = true ∧ t.fld Reg.TW_RXWR 0 3 = (s.fld Reg.TW_RXWR 0 3 + 1) % 8
            ∧ t.memWords ((s.reg Reg.TW_RXBASE).toNat + 260 * s.fld Reg.TW_RXWR 0 3) (ws.length + 1) = BitVec.ofNat 24 (5 * 2 ^ 20 + seq.toNat * 4096 + ws.length) :: ws)
      ∧ (s.bit Reg.TW_CTL 21 = false → w0.toNat / 2 ^ 22 = 1 → s.handRefusal = none → Answers (.handoverReceived seq w0 w1) s fun t => ack t ∧ t.tw.hand = some (0x800000#24, w1) ∧ t.tw.hoEdge = some w1
          ∧ t.regs = s.regs)
      ∧ (∀ r, s.bit Reg.TW_CTL 21 = false → w0.toNat / 2 ^ 22 = 1 → s.handRefusal = some r → Answers (.handoverReceived seq w0 w1) s fun t =>
          ack t ∧ t.tw.hand = some (BitVec.ofNat 24 (r * 65536), w1) ∧ t.tw.hoEdge = none ∧ t.regs = s.regs)
      ∧ (s.bit Reg.TW_CTL 21 = false → w0.toNat / 2 ^ 22 = 3 → s.tw.hoEdge = some w1 → Answers (.handoverReceived seq w0 w1) s fun t => ack t ∧ t.tw.hoConf = true ∧ t.regs = s.regs)))
  ∧ (
  ∀ (s : State), s.asleep = false → s.gateOpen Base.TW = true →
    (s.standby = true → s.tw.hbSeen = false →
      let m := s.fld Reg.TW_STAT 0 3
      let due := max 1 (s.fld Reg.TW_CFG 12 4) ≤ m + 1
      Answers .heartbeatMiss s (fun t => t.fld Reg.TW_STAT 0 3 = min 7 (m + 1) ∧ t.isPending 87 = true ∧ t.tw.hbSeen = true ∧ t.mem = s.mem ∧ s.KeepsRegs t (Reg.TW_STAT :: sourceRegs 87))
      ∧ (s.canTake = true → due → (m = 0 ∨ s.tw.air = false) → Answers .heartbeatMiss s fun t => t.tw.claim = true ∧ t.tw.decided = true)
      ∧ (s.canTake = true → due → m ≠ 0 → s.tw.air = true → Answers .heartbeatMiss s fun t => t.bit Reg.TW_STAT 19 = true ∧ t.tw.claim = s.tw.claim ∧ t.tw.decided = s.tw.decided)
      ∧ (¬ due → Answers .heartbeatMiss s fun t => t.tw.claim = s.tw.claim ∧ t.tw.decided = s.tw.decided))
    ∧ (s.standby = false ∨ s.tw.hbSeen = true → Answers .heartbeatMiss s fun t => t = s)
    ∧ (s.tw.claim = false → Answers .twFltAssert s fun t =>
        let soon := decide (s.tb.phase + 20000 ≤ s.tb.len)
        t.isPending 89 = true ∧ t = { s.raise 89 with tw := { s.tw with fltNext := s.tw.fltNext || soon, fltAfter := s.tw.fltAfter || ! soon, airFlt := false, claim := s.canTake } })
    ∧ (s.tw.claim = true → Answers .twFltAssert s fun t => t.isPending 89 = true ∧ t = s.raise 89)
    ∧ (s.tw.hoEdge = some (BitVec.ofNat 24 (s.slot.asn.toNat + 1)) →
      (s.tw.ho = .proposed → Answers .handoverDeadline s fun t => t.bit Reg.TW_CTL 19 = false ∧ t.bit Reg.TW_STAT 16 = true ∧ t.tw = { s.tw with ho := .none, hoEdge := none, hand := none }
          ∧ s.KeepsRegs t [Reg.TW_CTL, Reg.TW_STAT])
      ∧ (s.tw.ho = .accepted → Answers .handoverDeadline s fun t => t.bit Reg.TW_CTL 19 = false ∧ t.tw = { s.tw with ho := .none, hoEdge := none, hand := none } ∧ s.KeepsRegs t [Reg.TW_CTL])
      ∧ (s.tw.ho ≠ .proposed → s.tw.ho ≠ .accepted → Answers .handoverDeadline s fun t => t.tw = s.tw ∧ t.regs = s.regs))
    ∧ (s.tw.hoEdge ≠ some (BitVec.ofNat 24 (s.slot.asn.toNat + 1)) → Answers .handoverDeadline s fun t => t = s))

/-! ## The real-time clock (R391 to R403) -/

/-- R391, R393 to R397, R399, R400, R403: a second, a carry and a borrow of the trim, the shadow of a master that is frozen, released and stale, a set that is requested,
refused and applied, an alarm that is enabled, armed and fires, and the flags that a write clears. -/
def Obligations.RealTimeClock : Prop :=
  ∀ (s : State) (m : Master) (v : Word) (n : Fin 4), s.sys.power ≠ .off →
    let next := calendarOf (s.rtc.cal.seconds + 1)
    let al := Reg.RTC_ALCTL n.val
    let w := (calendarOf (s.alOccurrence n.val) 0).stamp
    let arms := (stampTime w.1 w.2 0).seconds
    let c := stampTime (s.reg Reg.RTC_SETT0) (s.reg Reg.RTC_SETT1) (v.toNat % 2 ^ 15)
    let idle := ∀ k < 4, s.alArmed k = false
    Answers .rtcSecond s (fun t => t.rtc.cal = next 0 ∧ t.mem = s.mem ∧ (s.asleep = false → t.isPending 107 = true) ∧ (idle → s.KeepsRegs t (sourceRegs 107)))
    ∧ (∀ e : Nat, 0 < s.rtcTrim → s.rtc.acc.toNat + e * s.rtcTrim < 2 ^ 24 → (2 ^ 24 : Int) ≤ s.rtc.acc.toNat + (e + 1 : Nat) * s.rtcTrim →
      (s.rtc.cal.sub + e + 2 < 32768 → Answers .rtcTrimCarry s fun t => t.rtc.cal = { s.rtc.cal with sub := s.rtc.cal.sub + e + 2 }
          ∧ t.rtc.acc = s.rtc.acc + BitVec.ofInt 24 ((e + 1 : Nat) * s.rtcTrim) ∧ t.regs = s.regs ∧ t.mem = s.mem)
      ∧ (s.rtc.cal.sub + e < 32768 → 32768 ≤ s.rtc.cal.sub + e + 2 → Answers .rtcTrimCarry s fun t => t.rtc.cal = next (s.rtc.cal.sub + e + 2 - 32768) ∧ t.mem = s.mem))
    ∧ (∀ e : Nat, s.rtcTrim < 0 → 0 ≤ s.rtc.acc.toNat + e * s.rtcTrim → s.rtc.acc.toNat + (e + 1 : Nat) * s.rtcTrim < 0 → s.rtc.cal.sub + e < 32768 →
      Answers .rtcTrimCarry s fun t => t.rtc.cal = { s.rtc.cal with sub := s.rtc.cal.sub + e }
          ∧ t.rtc.acc = s.rtc.acc + BitVec.ofInt 24 ((e + 1 : Nat) * s.rtcTrim) ∧ t.regs = s.regs ∧ t.mem = s.mem)
    ∧ (s.rtcTrim = 0 → Answers .rtcTrimCarry s fun t => t = s)
    ∧ (hasShadow m = true → s.asleep = false →
      (s.reaches m Reg.RTC_SUBSEC false = true → Answers (.calendarFreeze m) s fun t => t.sys.rdata = BitVec.ofNat 24 s.rtc.cal.sub ∧ t.sys.busErr = false ∧ t.isFrozen m = true ∧ (∀ a ∈ calRegs, t.latch m a = s.calWord a)
        ∧ (∀ m', m' ≠ m → t.isFrozen m' = s.isFrozen m' ∧ ∀ a ∈ calRegs, t.latch m' a = s.latch m' a) ∧ t.rtc.cal = s.rtc.cal ∧ t.regs = s.regs ∧ t.mem = s.mem)
      ∧ (s.reaches m Reg.RTC_YEAR false = true →
        (s.isFrozen m = true → Answers (.calendarRelease m) s fun t => t = { s.thaw m with sys := { (s.begun m).sys with rdata := s.latch m Reg.RTC_YEAR } } ∧ t.isFrozen m = false)
        ∧ (s.isFrozen m = false → Answers (.calendarRelease m) s fun t => t = { s.begun m with sys := { (s.begun m).sys with rdata := BitVec.ofNat 24 s.rtc.cal.year } }))
      ∧ (s.reaches m Reg.RTC_SUBSEC false = false → Answers (.calendarFreeze m) s fun t => t = (s.served m).noteBus true)
      ∧ (s.reaches m Reg.RTC_YEAR false = false → Answers (.calendarRelease m) s fun t => t = (s.served m).noteBus true))
    ∧ (s.isFrozen m = true → Answers (.shadowStale m) s fun t => t.isFrozen m = false ∧ t.bit Reg.RTC_STAT 20 = true ∧ t.isPending 106 = true ∧ s.KeepsRegs t (Reg.RTC_STAT :: sourceRegs 106))
    ∧ (s.isFrozen m = false → Answers (.shadowStale m) s fun t => t = s)
    ∧ (s.asleep = false → v.getLsbD 23 = true → c.valid = true → Answers (.calendarSetRequest v) s fun t => t.rtc = { s.rtc with set := some c } ∧ t.bit Reg.RTC_SETCTL 23 = true ∧ s.KeepsRegs t [Reg.RTC_SETCTL])
    ∧ (s.asleep = false → v.getLsbD 23 = true → c.valid = false → Answers (.calendarSetRequest v) s fun t =>
        t.rtc = { s.rtc with set := none } ∧ t.bit Reg.RTC_SETCTL 23 = false ∧ t.bit Reg.RTC_STAT 18 = true ∧ s.KeepsRegs t [Reg.RTC_SETCTL, Reg.RTC_STAT])
    ∧ (∀ c', s.rtc.set = some c' → Answers .calendarSet s fun t => t.rtc.cal = c' ∧ t.rtc.set = none ∧ t.bit Reg.RTC_SETCTL 23 = false ∧ t.mem = s.mem ∧ (idle → s.KeepsRegs t [Reg.RTC_SETCTL]))
    ∧ (s.rtc.set = none → Answers .calendarSet s fun t => t = s)
    ∧ (s.asleep = false → v.getLsbD 23 = true → s.bit al 23 = false →
      let good := (stampTime (s.reg (Reg.RTC_ALT0 n.val)) (s.reg (Reg.RTC_ALT1 n.val)) 0).valid
      (good = true → Answers (.alarmEnable n v) s fun t => s.OnlyRegs t [al] ∧ ∀ i, 21 ≤ i → t.bit al i = v.getLsbD i)
      ∧ (good = false → Answers (.alarmEnable n v) s fun t => s.OnlyRegs t [Reg.RTC_STAT] ∧ t.bit Reg.RTC_STAT 18 = true))
    ∧ (s.asleep = false → v.getLsbD 23 = false → Answers (.alarmEnable n v) s fun t => s.OnlyRegs t [al, Reg.RTC_ALN1 n.val] ∧ t.bit al 23 = false ∧ t.alArmed n.val = false)
    ∧ (s.bit al 23 = true → s.alArmed n.val = false →
      (s.rtc.cal.seconds < arms → Answers (.alarmArm n) s fun t => s.OnlyRegs t [Reg.RTC_ALN0 n.val, Reg.RTC_ALN1 n.val]
          ∧ t.reg (Reg.RTC_ALN0 n.val) = w.1 ∧ t.reg (Reg.RTC_ALN1 n.val) = w.2 ||| 0x800000#24)
      ∧ (arms < s.rtc.cal.seconds → s.bit al 22 = false → Answers (.alarmArm n) s fun t => t.bit Reg.RTC_ALSTAT n.val = true ∧ t.bit Reg.RTC_ALSTAT (4 + n.val) = true
          ∧ t.isPending (102 + n.val) = true ∧ t.bit al 23 = false ∧ t.alArmed n.val = false ∧ t.rtc = s.rtc ∧ t.mem = s.mem))
    ∧ (s.bit al 23 = false ∨ s.alArmed n.val = true → Answers (.alarmArm n) s fun t => t = s)
    ∧ (s.alArmed n.val = true → s.alNext n.val = (next 0).seconds → Answers (.alarmFire n) s fun t =>
        t.rtc.cal = next 0 ∧ t.bit Reg.RTC_ALSTAT n.val = true ∧ t.isPending (102 + n.val) = true ∧ t.mem = s.mem
        ∧ (s.bit al 22 = false → t.bit al 23 = false ∧ t.alArmed n.val = false)
        ∧ (s.bit al 22 = true → t.alArmed n.val = true ∧ t.reg (Reg.RTC_ALN0 n.val) = (calendarOf (s.alNext n.val + s.alPeriod n.val) 0).stamp.1))
    ∧ (s.asleep = false → Answers (.lossClear v) s fun t => s.OnlyRegs t [Reg.RTC_STAT] ∧ (v.getLsbD 22 = true → t.bit Reg.RTC_STAT 22 = false ∧ t.bit Reg.RTC_STAT 21 = false)
        ∧ t.bit Reg.RTC_STAT 23 = (s.bit Reg.RTC_STAT 23 && (s.sys.x32Fail || ! v.getLsbD 23)))
    ∧ (s.asleep = false → v.getLsbD 23 = true → Answers (.switchOverStampClear v) s fun t => s.OnlyRegs t [Reg.RTC_SWTS0, Reg.RTC_SWTS1] ∧ t.reg Reg.RTC_SWTS0 = 0#24 ∧ t.reg Reg.RTC_SWTS1 = 0#24)
    ∧ (s.asleep = true ∨ v.getLsbD 23 = false → Answers (.switchOverStampClear v) s fun t => t = s)

/-! ## DALI (R405 to R413) -/

/-- R408 to R413: a transmission and the checks of it in their order, its settling time, its second frame, a collision, the answer and the end of it, an abort, the receive FIFO,
a bus that stays low, and hold. R406: the line code of a forward frame is a start bit of 1 and the data bits, the most significant first, each with its transition at its middle. -/
def Obligations.DaliBus : Prop :=
  ∀ (s : State) (m : Master) (v : Word), s.asleep = false → s.gateOpen Base.DALI = true →
    let ended := fun (status ans : Nat) (t : State) => t.dali = { s.dali with tx := none } ∧ t.fld Reg.DALI_TXSTAT 0 8 = status ∧ t.fld Reg.DALI_TXSTAT 8 8 = ans
      ∧ t.bit Reg.DALI_TXSTAT 23 = false ∧ t.isPending 91 = true ∧ t.mem = s.mem ∧ t.hl.dali = none
      ∧ ∀ tag, s.hl.dali = some tag → s.hl.tx = none → ∃ w, t.hl.tx = some { typ := 2, seq := s.hl.seq, words := [BitVec.ofNat 24 (0x22 * 65536 + tag), w, t.reg Reg.DALI_TXSTAT] } ∧ w.toNat % 256 = 0
    let waits := fun (pri : Nat) (x : DaliTx) (t : State) => ∃ y, t.dali = { s.dali with tx := some { x with stage := .settle, settle := y } }
      ∧ (daliSettle pri).1 ≤ y ∧ y ≤ (daliSettle pri).1 + (daliSettle pri).2
    let pri := v.toNat / 2 ^ 17 % 8
    (v.getLsbD 22 = false → v.getLsbD 23 = true → ∀ low : Bool,
      let refused := fun (status : Nat) => Answers (.daliTransmit v low) s fun t => t.fld Reg.DALI_TXSTAT 0 8 = status ∧ t.fld Reg.DALI_TXSTAT 8 8 = 0 ∧ t.isPending 91 = true ∧ t.dali = s.dali
        ∧ t.mem = s.mem ∧ s.KeepsRegs t (Reg.DALI_TXSTAT :: sourceRegs 91)
      let pris := 1 ≤ pri ∧ pri ≤ 5
      let serves := s.bit Reg.DALI_CTL 23 = true ∧ s.bit Reg.DALI_CTL 20 = false
      (¬ pris → refused 7)
      ∧ (pris → s.dali.tx.isSome = true → refused 3)
      ∧ (pris → s.dali.tx = none → ¬ serves → refused 4)
      ∧ (pris → s.dali.tx = none → serves → low = true → refused 0x44)
      ∧ (pris → s.dali.tx = none → serves → low = false → Answers (.daliTransmit v low) s fun t =>
          waits pri { frame := s.reg Reg.DALI_TXD, len24 := v.getLsbD 16, pri := pri, twice := v.getLsbD 21, ans := v.getLsbD 20, settle := 0 } t
          ∧ t.bit Reg.DALI_TXSTAT 23 = true ∧ s.KeepsRegs t [Reg.DALI_TXSTAT] ∧ t.mem = s.mem))
    ∧ (s.dali.tx = none → (Answers (.daliAbort v) s fun t => t = s.noteBus false) ∧ ∀ i ∈ [Instr.settlingDone, .twiceTimeout, .collision, .collisionBackoffEnd, .daliFrameSent, .answerWindowClose none], Answers i s fun t => t = s)
    ∧ (∀ x, s.dali.tx = some x →
      (x.started = false → Answers (.daliAbort v) s (ended 2 0))
      ∧ (x.started = true → Answers (.daliAbort v) s fun t => t = s.noteBus false)
      ∧ (x.stage = .settle → Answers .settlingDone s fun t => t = { s with regs := t.regs, dali := { s.dali with tx := some { x with stage := .sending, started := true, begun := s.tb.count.toNat } } }
          ∧ t.bit Reg.DALI_STAT 23 = false ∧ s.KeepsRegs t [Reg.DALI_STAT])
      ∧ (x.stage = .settle → x.second = true → Answers .twiceTimeout s (ended 0x43 0))
      ∧ (x.stage = .sending →
        Answers .collision s (fun t => t = { s with dali := { s.dali with tx := some { x with stage := .collided, colls := x.colls + 1 } } })
        ∧ (x.twice = true → x.second = false → Answers .daliFrameSent s fun t => waits 1 { x with second := true } t ∧ t.bit Reg.DALI_STAT 23 = true ∧ s.KeepsRegs t [Reg.DALI_STAT])
        ∧ (x.twice = false ∨ x.second = true → x.ans = true → Answers .daliFrameSent s fun t => t.dali = { s.dali with tx := some { x with stage := .answer } }
            ∧ t.bit Reg.DALI_STAT 23 = true ∧ s.KeepsRegs t [Reg.DALI_STAT])
        ∧ (x.twice = false ∨ x.second = true → x.ans = false → Answers .daliFrameSent s (ended 1 0)))
      ∧ (x.stage = .collided →
        (x.colls ≤ s.fld Reg.DALI_CFG 0 2 → Answers .collisionBackoffEnd s fun t => waits (if x.second then 1 else x.pri) x t ∧ t.regs = s.regs ∧ t.mem = s.mem)
        ∧ (s.fld Reg.DALI_CFG 0 2 < x.colls → Answers .collisionBackoffEnd s (ended 0x42 0)))
      ∧ (x.stage = .answer →
        Answers (.answerWindowClose none) s (ended 0x40 0)
        ∧ ∀ edges : List Nat,
          let f := daliDecode edges
          let status := if f.len = 8 ∧ f.err = false then 1 else 0x41
          let ans := if f.len = 8 ∧ f.err = false then f.data.toNat % 256 else 0
          Answers (.answerWindowClose (some edges)) s (ended status ans)
          ∧ (s.bit Reg.DALI_CTL 23 = true → Answers (.daliFrameReceived edges) s (ended status ans))))
    ∧ (∀ edges : List Nat,
      let f := daliDecode edges
      (s.bit Reg.DALI_CTL 23 = false → Answers (.daliFrameReceived edges) s fun t => t = s)
      ∧ (s.bit Reg.DALI_CTL 23 = true → (∀ x, s.dali.tx = some x → x.stage ≠ .answer ∧ x.stage ≠ .settle) →
        (f.len = 8 ∧ f.err = false → Answers (.daliFrameReceived edges) s fun t => t.dali = s.dali ∧ s.KeepsRegs t [Reg.DALI_STAT])
        ∧ (¬ (f.len = 8 ∧ f.err = false) → 4 ≤ s.dali.fifo.length → Answers (.daliFrameReceived edges) s fun t =>
            t.dali = s.dali ∧ t.bit Reg.DALI_STAT 21 = true ∧ t.isPending 92 = true ∧ t.mem = s.mem)
        ∧ (¬ (f.len = 8 ∧ f.err = false) → s.dali.fifo.length < 4 → Answers (.daliFrameReceived edges) s fun t =>
            t.dali = { s.dali with fifo := s.dali.fifo ++ [{ f with err := f.err || decide (f.len ≠ 16 ∧ f.len ≠ 24) }] }
            ∧ t.fld Reg.DALI_STAT 0 3 = s.dali.fifo.length + 1 ∧ t.isPending 90 = true ∧ t.mem = s.mem))
      ∧ (s.bit Reg.DALI_CTL 23 = true → f.len = 8 → f.err = false → ∀ x, s.dali.tx = some x → x.stage = .settle →
          Answers (.daliFrameReceived edges) s fun t => waits (if x.second then 1 else x.pri) x t ∧ s.KeepsRegs t [Reg.DALI_STAT] ∧ t.mem = s.mem))
    ∧ (∀ (w : Word) (len24 : Bool), let n := if len24 then 24 else 16
      daliBits (daliCode w len24) = (true :: (List.range n).map fun i => w.getLsbD (n - 1 - i), false) ∧ (daliCode w len24).length = 2 * (n + 1))
    ∧ (s.reaches m Reg.DALI_RXD false = true → Answers (.daliRxRead m) s fun t => t.sys.rdata = s.reg Reg.DALI_RXD ∧ t.sys.busErr = false ∧ t.dali = { s.dali with fifo := s.dali.fifo.drop 1 } ∧ t.mem = s.mem
        ∧ s.KeepsRegs t [Reg.DALI_STAT, Reg.DALI_RXSTAT, Reg.DALI_RXD]
        ∧ match s.dali.fifo.drop 1 with
          | [] => t.reg Reg.DALI_RXSTAT = 0#24
          | f :: _ => t.reg Reg.DALI_RXD = f.data ∧ t.bit Reg.DALI_RXSTAT 23 = true ∧ t.bit Reg.DALI_RXSTAT 17 = f.err)
    ∧ (s.bit Reg.DALI_CTL 23 = true → s.bit Reg.DALI_CTL 20 = false → (∀ x, s.dali.tx = some x → x.stage ≠ .collided ∧ x.stage ≠ .settle) → Answers .busLowFault s fun t =>
        t.bit Reg.DALI_STAT 22 = true ∧ t.bit Reg.DALI_STAT 23 = false ∧ t.isPending 92 = true ∧ t.dali = s.dali ∧ t.mem = s.mem)
    ∧ (s.bit Reg.DALI_CTL 20 = true → Answers .busLowFault s fun t => t = s)
    ∧ (v.getLsbD 20 = true → (s.dali.tx = none ∨ ∃ x, s.dali.tx = some x ∧ x.started = true) → Answers (.daliHold v) s fun t => t.bit Reg.DALI_CTL 20 = true ∧ t.bit Reg.DALI_STAT 23 = false
        ∧ t.dali = s.dali ∧ s.KeepsRegs t [Reg.DALI_CTL, Reg.DALI_STAT])
    ∧ (∀ x, v.getLsbD 20 = true → s.dali.tx = some x → x.stage = .settle → x.started = false → Answers (.daliHold v) s fun t => ended 4 0 t ∧ t.bit Reg.DALI_CTL 20 = true)
    ∧ (v.getLsbD 20 = false → Answers (.daliHold v) s fun t => s.OnlyBlockRegs t [Reg.DALI_CTL] ∧ t.bit Reg.DALI_CTL 20 = false)

/-! ## GPIO, the dimming outputs, the ADC, SPI and I2C (R414 to R420, R427 to R430) -/

/-- R414, R417 to R420, R429, R430: GPIO writes and edges; a period of a dimming output begins with the values written; a sequence of the ADC starts, goes on and ends, its results corrected
and compared; and self-calibration. R427, R428: a transfer of the SPI master and of the I2C master: what a write of its command register starts or refuses, and how it ends, with
the octets received packed and the unused positions of the last word 0 (R2). -/
def Obligations.Peripherals : Prop :=
  (
  ∀ (s : State) (v : Word), s.asleep = false →
    (s.gateOpen Base.GPIO = true →
      Answers (.gpioSet v) s (fun t => s.OnlyBlockRegs t [Reg.GPIO_OUT] ∧ t.reg Reg.GPIO_OUT = s.reg Reg.GPIO_OUT ||| v)
      ∧ Answers (.gpioClr v) s (fun t => s.OnlyBlockRegs t [Reg.GPIO_OUT] ∧ t.reg Reg.GPIO_OUT = s.reg Reg.GPIO_OUT &&& ~~~ v))
    ∧ (∀ (n : Fin 24) (up : Bool),
      let selects := s.bit (Reg.GPIO_CFG n.val) (if up then 19 else 20)
      Answers (.gpioEdge n up) s (fun t => (∀ i, i < 24 → t.gpio.ext.getLsbD i = if i = n.val then up else s.gpio.ext.getLsbD i) ∧ t.gpio = { s.gpio with ext := t.gpio.ext } ∧ t.mem = s.mem)
      ∧ (s.bit Reg.GPIO_DIR n.val = false → s.bit Reg.SYS_CLKSTAT 17 = false → s.aditHolds n.val = false → s.gateOpen Base.GPIO = true →
        (s.gpio.ext.getLsbD n.val ≠ up → selects = true → Answers (.gpioEdge n up) s fun t => t.bit Reg.GPIO_EVT n.val = true ∧ t.isPending (116 + n.val / 3) = true
          ∧ s.KeepsRegs t (Reg.GPIO_EVT :: sourceRegs (116 + n.val / 3)))
        ∧ (s.gpio.ext.getLsbD n.val = up ∨ selects = false → Answers (.gpioEdge n up) s fun t => t.regs = s.regs)))
    ∧ (∀ n : Fin 2, s.gpio.pwm.length = 2 → s.bedrockRuns = true → s.gateOpen (Reg.GPIO_PWMCTL 0) = true → s.bit (Reg.GPIO_PWMCTL n.val) 23 = true → s.bit (Reg.GPIO_PWMCTL n.val) 21 = false →
      let per := max 2 (s.pwm n.val).per * 2 ^ s.fld (Reg.GPIO_PWMCTL n.val) 0 3
      let at_ := (s.pwm n.val).start + per
      s.tb.count.toNat ≤ at_ → at_ < 2 ^ 72 → s.tb.phase + (at_ - s.tb.count.toNat) < s.tb.len →
      Answers (.pwmPeriodStart n) s fun t => t.tb.count = BitVec.ofNat 72 at_ ∧ t.regs = s.regs ∧ t.mem = s.mem
        ∧ t.pwm n.val = { s.pwm n.val with start := at_, per := s.fld (Reg.GPIO_PWMPER n.val) 0 16, duty := s.fld (Reg.GPIO_PWMDUTY n.val) 0 16 }
        ∧ ∀ k, k ≠ n.val → t.pwm k = s.pwm k)
    ∧ (s.gateOpen Base.ADC = true → s.adc.seq = none → s.adc.cal = false → v.getLsbD 23 = true →
      (v.getLsbD 22 = true → v.getLsbD 21 = false → (∀ i, i ≤ v.toNat / 256 % 16 → s.adcChannel i < 12) → Answers (.adcSequenceStart v) s fun t =>
          t.adc = { s.adc with seq := some 0 } ∧ t.bit Reg.ADC_CTL 22 = true ∧ t.bit Reg.ADC_STAT 23 = true ∧ t.adcLen = v.toNat / 256 % 16 + 1 ∧ s.KeepsRegs t [Reg.ADC_CTL, Reg.ADC_STAT])
      ∧ (v.getLsbD 22 = false → v.getLsbD 21 = true → Answers (.adcCalibrate v) s fun t => t.adc = { s.adc with cal := true } ∧ t.bit Reg.ADC_CTL 21 = true ∧ t.bit Reg.ADC_STAT 23 = true
          ∧ s.KeepsRegs t [Reg.ADC_CTL, Reg.ADC_STAT]))
    ∧ (s.gateOpen Base.ADC = true → s.adc.seq.isSome = true ∨ s.adc.cal = true → v.getLsbD 23 = true → v.getLsbD 22 = true ∨ v.getLsbD 21 = true →
      ∀ i ∈ [Instr.adcSequenceStart v, .adcCalibrate v], Answers i s fun t => t.adc = s.adc ∧ t.bit Reg.ADC_STAT 1 = true ∧ s.KeepsRegs t [Reg.ADC_CTL, Reg.ADC_STAT])
    ∧ (∀ (raw : BitVec 12) (i off : Nat), s.gateOpen Base.ADC = true → s.adc.seq = some i → i < 16 → off = s.fld Reg.ADC_CAL 0 12 → off < 2048 →
      let x : Int := ((raw.toNat - off : Int) * s.fld Reg.ADC_CAL 12 12 + 1024) / 2048
      let r := if x < 0 then 0 else if 4095 < x then 4095 else x.toNat
      Answers (.adcConversionDone raw) s fun t => t.reg (Reg.ADC_RES i) = BitVec.ofNat 24 r ∧ t.mem = s.mem ∧ (∀ j, j ≠ i → t.reg (Reg.ADC_RES j) = s.reg (Reg.ADC_RES j))
        ∧ (s.fld Reg.ADC_THR 20 4 = i → r < s.fld Reg.ADC_THR 12 8 * 16 ∨ s.fld Reg.ADC_THR 0 12 < r → t.bit Reg.ADC_STAT 2 = true ∧ t.isPending 100 = true)
        ∧ (i < s.fld Reg.ADC_CTL 8 4 → t.adc = { s.adc with seq := some (i + 1) })
        ∧ (s.fld Reg.ADC_CTL 8 4 ≤ i → t.adc = { s.adc with seq := none } ∧ t.bit Reg.ADC_STAT 0 = true ∧ t.isPending 99 = true ∧ t.bit Reg.ADC_CTL 22 = false ∧ t.bit Reg.ADC_STAT 23 = false))
    ∧ (∀ sum0 sum1 : BitVec 18, s.gateOpen Base.ADC = true → s.adc.cal = true →
      let off := (sum0.toNat + 32) / 64
      let d := sum1.toNat - sum0.toNat
      let gain := (2 * 268369920 + d) / (2 * d)
      sum0.toNat < sum1.toNat → off < 2048 → gain < 4096 → Answers (.adcCalibrationDone sum0 sum1) s fun t =>
        t.adc = { s.adc with cal := false } ∧ t.reg Reg.ADC_CAL = BitVec.ofNat 24 (gain * 4096 + off) ∧ t.bit Reg.ADC_CTL 21 = false ∧ t.bit Reg.ADC_STAT 23 = false
        ∧ s.KeepsRegs t [Reg.ADC_CAL, Reg.ADC_CTL, Reg.ADC_STAT]))
  ∧ (
  ∀ (s : State) (v : Word) (os : List Octet), s.asleep = false →
    let spi := fun (status : Nat) (t : State) => t.fld Reg.SPIM_STAT 0 8 = status ∧ t.isPending 96 = true ∧ t.mem = s.mem
    let i2c := fun (status : Nat) (t : State) => t.fld Reg.I2C_STAT 0 8 = status ∧ t.isPending (if status = 1 then 97 else 98) = true ∧ t.mem = s.mem
    let len := v.toNat % 256
    let w := v.toNat / 2 ^ 10 % 64
    let r := v.toNat / 2 ^ 4 % 64
    (s.gateOpen Base.SPIM = true → s.bit Reg.SPIM_CTL 23 = true → v.getLsbD 23 = true →
      (s.spim.open_.isSome = true → Answers (.spimTransfer v) s fun t => spi 3 t ∧ t.spim = s.spim)
      ∧ (s.spim.open_ = none → len = 0 ∨ 192 < len → Answers (.spimTransfer v) s fun t => spi 7 t ∧ t.spim = s.spim)
      ∧ (s.spim.open_ = none → 1 ≤ len → len ≤ 192 → Answers (.spimTransfer v) s fun t => t.spim = { s.spim with open_ := some (len, v.getLsbD 22) }
          ∧ t.bit Reg.SPIM_STAT 23 = true ∧ t.bit Reg.SPIM_STAT 22 = true ∧ s.KeepsRegs t [Reg.SPIM_STAT]))
    ∧ (∀ n hold, s.gateOpen Base.SPIM = true → s.spim.open_ = some (n, hold) → os.length = n → n ≤ 192 → Answers (.spimTransferDone os) s fun t =>
        spi 1 t ∧ t.spim = { s.spim with open_ := none } ∧ t.bit Reg.SPIM_STAT 23 = false ∧ t.bit Reg.SPIM_STAT 22 = hold
        ∧ ∀ i, i < os.length → octetOf (t.reg (Reg.SPIM_BUF (i / 3))) (i % 3) = (os.getD i 0#8).toNat
        ∧ ∀ i, os.length ≤ i → i / 3 < (os.length + 2) / 3 → octetOf (t.reg (Reg.SPIM_BUF (i / 3))) (i % 3) = 0)
    ∧ (s.spim.open_ = none → Answers (.spimTransferDone os) s fun t => t = s)
    ∧ (s.gateOpen Base.I2C = true → v.getLsbD 23 = true →
      (32 < w ∨ 32 < r → Answers (.i2cTransfer v) s fun t => i2c 7 t ∧ t.i2c = s.i2c)
      ∧ (w ≤ 32 → r ≤ 32 → s.i2c.open_.isSome = true → Answers (.i2cTransfer v) s fun t => i2c 3 t ∧ t.i2c = s.i2c)
      ∧ (w ≤ 32 → r ≤ 32 → s.i2c.open_ = none → Answers (.i2cTransfer v) s fun t => t.i2c = { s.i2c with open_ := some (v.toNat / 65536 % 128, w, r) }
          ∧ t.bit Reg.I2C_STAT 23 = true ∧ s.KeepsRegs t [Reg.I2C_STAT]))
    ∧ (∀ a w r, s.gateOpen Base.I2C = true → s.i2c.open_ = some (a, w, r) →
      (∀ how : Fin 4, os.length = r → r ≤ 32 → Answers (.i2cTransferDone how os) s fun t =>
        i2c ([1, 0x40, 0x41, 0x42].getD how.val 0) t ∧ t.i2c = { s.i2c with open_ := none } ∧ t.bit Reg.I2C_STAT 23 = false
        ∧ ∀ i, i < os.length → octetOf (t.reg (Reg.I2C_BUF (i / 3))) (i % 3) = (os.getD i 0#8).toNat
        ∧ ∀ i, os.length ≤ i → i / 3 < (os.length + 2) / 3 → octetOf (t.reg (Reg.I2C_BUF (i / 3))) (i % 3) = 0)
      ∧ ∀ stretch : Bool, Answers (.i2cTimeout stretch) s fun t => i2c (if stretch then 0x43 else 0x44) t ∧ t.i2c = { s.i2c with open_ := none } ∧ t.bit Reg.I2C_STAT 23 = false)
    ∧ (s.i2c.open_ = none → ∀ i ∈ [Instr.i2cTimeout true, .i2cTimeout false, .i2cTransferDone 0 os], Answers i s fun t => t = s))

/-! ## The host link (R421 to R426) -/

/-- R422 to R426: a frame from the host is discarded, answered NAK or ACK, taken as a repetition, or stored in the ring; what is no whole frame changes nothing; a frame that is an ACK or a
NAK acts as one; the part's own frame is opened or refused, ends with its ACK, waits where the host is full, and is sent again three times; what ends a frame in progress; and the start of a frame in
deep sleep and out of it. A frame that the part forms is read back as it was formed. -/
def Obligations.HostLink : Prop :=
  ∀ (s : State) (v : Word) (typ : BitVec 4) (seq : BitVec 8) (ws : List Word) (c : Word),
    let out := { s with hl := { s.hl with inFrame := false } }
    let answer := fun (nak : Option Nat) (t : State) => t = { s with hl := { s.hl with inFrame := false, reply := some (seq.toNat, nak) } }
    let discarded := fun (t : State) => t.hl = { s.hl with inFrame := false } ∧ s.OnlyRegs { t with hl := s.hl } [Reg.HL_STAT] ∧ t.bit Reg.HL_STAT 1 = true
    let entry := (s.reg Reg.HL_RXBASE).toNat + 260 * s.fld Reg.HL_RXWR 0 3
    let typ' := v.toNat / 65536 % 16
    let len := v.toNat % 512
    let src := (s.reg Reg.HL_TXADR).toNat
    let status := fun (k : Nat) (t : State) => t.fld Reg.HL_TXSTAT 0 8 = k ∧ t.isPending 94 = true
    let hw := BitVec.ofNat 24 (typ.toNat * 2 ^ 20 + seq.toNat * 4096 + ws.length) :: ws
    let good := c = BitVec.ofNat 24 (crc24 hw)
    let arrived := Instr.hlFrameReceived (hw ++ [c])
    (ws.length < 512 → hlParse (hlFrameWords typ.toNat seq.toNat ws) = some (typ.toNat, seq.toNat, ws, true))
    ∧ (s.hlOn = true →
      (∀ h r, r.length ≠ h.toNat % 512 + 1 → Answers (.hlFrameReceived (h :: r)) s fun t => t = s)
      ∧ (256 < ws.length → ws.length < 512 → Answers arrived s discarded)
      ∧ (ws.length ≤ 256 →
        (typ.toNat ∉ [1, 2, 3, 8, 9] → Answers arrived s discarded)
        ∧ (typ.toNat ∈ [8, 9] → ¬ good → Answers arrived s fun t => t = out)
        ∧ (typ = 8#4 → good → Answers arrived s fun t => Answers (.hlAckReceived seq) s fun u => u = t)
        ∧ (∀ r : Fin 2, typ = 9#4 → good → ws = [BitVec.ofNat 24 r.val] → Answers arrived s fun t => Answers (.hlNakReceived seq r) s fun u => u = t)
        ∧ (typ.toNat ∈ [1, 2, 3] →
          (¬ good → Answers arrived s (answer (some 0)))
          ∧ (good → s.hl.last = some seq.toNat → Answers arrived s (answer none))
          ∧ (good → s.hl.last ≠ some seq.toNat → s.hlRingFull = true → Answers arrived s (answer (some 1)))
          ∧ (good → s.hl.last ≠ some seq.toNat → s.hlRingFull = false → isSram entry = true → isSram (entry + ws.length) = true → Answers arrived s fun t =>
              t.hl = { s.hl with inFrame := false, reply := some (seq.toNat, none), last := some seq.toNat } ∧ t.isPending 93 = true ∧ t.fld Reg.HL_RXWR 0 3 = (s.fld Reg.HL_RXWR 0 3 + 1) % 8
              ∧ t.memWords entry (ws.length + 1) = hw ∧ ∀ a, (a < entry ∨ entry + ws.length < a) → t.mem1 a = s.mem1 a)))
      ∧ (s.bit Reg.HL_CTL 22 = false → Answers .hlGapTimeout s discarded)
      ∧ (s.bit Reg.HL_CTL 22 = true → Answers .hlGapTimeout s fun t => t = s)
      ∧ (s.bit Reg.HL_CTL 22 = true → Answers (.hlCsnRise true) s discarded)
      ∧ (s.bit Reg.HL_CTL 22 = true → Answers (.hlCsnRise false) s fun t => t = out)
      ∧ (s.bit Reg.HL_CTL 22 = false → ∀ host : Bool, Answers (.hlCsnRise host) s fun t => t = s)
      ∧ Answers .hlFrameStart s (fun t => t = { s with hl := { s.hl with inFrame := true } })
      ∧ (s.hl.tx = none → Answers .hlAckTimeout s (fun t => t = s) ∧ ∀ i ∈ [Instr.hlAckReceived seq, .hlNakReceived seq 0, .hlNakReceived seq 1], Answers i s fun t => t = out)
      ∧ ∀ f, s.hl.tx = some f →
        (s.hl.wait = [] → f.seq = seq.toNat → Answers (.hlAckReceived seq) s fun t => status 1 t ∧ t.bit Reg.HL_TXSTAT 23 = false ∧ t.mem = s.mem
            ∧ t.hl = { s.hl with inFrame := false, tx := none, rsp := if f.typ = 2 then f.words else s.hl.rsp })
        ∧ (∀ r rest, s.hl.wait = r :: rest → f.seq = seq.toNat → Answers (.hlAckReceived seq) s fun t => t.hl.tx = some { typ := 2, seq := s.hl.seq, words := r } ∧ t.hl.wait = rest
            ∧ t.isPending 94 = true)
        ∧ (f.seq ≠ seq.toNat → ∀ i ∈ [Instr.hlAckReceived seq, .hlNakReceived seq 0, .hlNakReceived seq 1], Answers i s fun t => t = out)
        ∧ (f.seq = seq.toNat → Answers (.hlNakReceived seq 1) s fun t => t = { s with hl := { s.hl with inFrame := false, tx := some { f with full := true } } })
        ∧ (f.full = true → Answers .hlAckTimeout s fun t => t = { s with hl := { s.hl with tx := some { f with full := false } } })
        ∧ (let again := fun (i : Instr) (inFrame : Bool) =>
            (f.resends < 3 → Answers i s fun t => t.hl = { s.hl with inFrame := inFrame, tx := some { f with resends := f.resends + 1 } } ∧ s.OnlyRegs { t with hl := s.hl } [Reg.HL_CNTRS]
              ∧ (s.reg Reg.HL_CNTRS ≠ 0xFFFFFF#24 → t.reg Reg.HL_CNTRS = s.reg Reg.HL_CNTRS + 1#24))
            ∧ (3 ≤ f.resends → s.hl.wait = [] → Answers i s fun t => t.hl = { s.hl with inFrame := inFrame, tx := none } ∧ status 8 t ∧ t.bit Reg.HL_STAT 0 = true ∧ t.isPending 95 = true ∧ t.mem = s.mem)
          (f.full = false → again .hlAckTimeout s.hl.inFrame) ∧ (f.seq = seq.toNat → again (.hlNakReceived seq 0) false)))
    ∧ (s.asleep = true → s.bit Reg.SYS_GATEDS 6 = true → s.bit Reg.HL_CTL 23 = true → Answers .hlFrameStart s fun t => t.isPending 93 = true ∧ s.KeepsRegs t (sourceRegs 93) ∧ t.hl = s.hl ∧ t.mem = s.mem)
    ∧ (s.hlOn = false → (∀ i ∈ [arrived, .hlAckReceived seq, .hlNakReceived seq 0, .hlAckTimeout, .hlGapTimeout, .hlCsnRise true], Answers i s fun t => t = s)
      ∧ (s.asleep = false → Answers .hlFrameStart s fun t => t = s))
    ∧ (s.asleep = false → s.gateOpen Base.HL = true →
      (v.getLsbD 23 = false → Answers (.hlTransmit v) s fun t => t = s.noteBus false)
      ∧ (v.getLsbD 23 = true →
        (s.hl.tx.isSome = true → Answers (.hlTransmit v) s fun t => status 3 t ∧ t.hl = s.hl ∧ t.mem = s.mem)
        ∧ (s.hl.tx = none → s.bit Reg.HL_CTL 23 = false → Answers (.hlTransmit v) s fun t => status 4 t ∧ t.hl = s.hl ∧ t.mem = s.mem)
        ∧ (s.hl.tx = none → s.bit Reg.HL_CTL 23 = true → typ' = 0 ∨ 3 < typ' ∨ 256 < len → Answers (.hlTransmit v) s fun t => status 7 t ∧ t.hl = s.hl ∧ t.mem = s.mem)
        ∧ (s.hl.tx = none → s.bit Reg.HL_CTL 23 = true → 1 ≤ typ' → typ' ≤ 3 → len ≤ 256 → 0x200000 ≤ src → src + len ≤ 0x280000 → Answers (.hlTransmit v) s fun t =>
            t.hl = { s.hl with tx := some { typ := typ', seq := s.hl.seq, words := s.memWords src len }, seq := (s.hl.seq + 1) % 256 }
            ∧ t.bit Reg.HL_TXSTAT 23 = true ∧ s.KeepsRegs t [Reg.HL_TXSTAT] ∧ t.mem = s.mem)))

/-! ## The debug port (R432 to R438) -/

/-- R432 to R438: attach and detach, the header of a transaction and the response to it, bus reads and writes, halting, resuming and stepping the cores, their registers, and the port's
reset. -/
def Obligations.DebugPort : Prop :=
  ∀ (s : State) (v : Word) (cores : BitVec 3),
    let answered := fun (resp : Option Nat) (t : State) => t = { s with dbg := { s.dbg with resp := resp } }
    let error := fun (t : State) => t = { s with dbg := { s.dbg with resp := some 0, data := 0#24 } }
    let ports := [Instr.debugDetach, .debugHalt cores, .debugRun cores, .debugStep cores, .debugReset, .debugBusRead, .debugBusWrite v, .coreRegisterAccess true v, .coreRegisterAccess false v]
    let addr := (s.reg Reg.DBG_ADDR).toNat
    let moves := fun (t : State) => t.reg Reg.DBG_ADDR = if s.bit Reg.DBG_CTL 21 then s.reg Reg.DBG_ADDR + 1#24 else s.reg Reg.DBG_ADDR
    let kept := fun (t : State) => s.KeepsRegs t [] ∧ t.mem = s.mem
    (s.sys.power ≠ .off → s.asleep = false → Answers .debugAttach s fun t => t.dbg = { s.dbg with att := true, read := none, busy := none } ∧ t.isPending 111 = true
      ∧ s.KeepsRegs t (sourceRegs 111) ∧ t.mem = s.mem)
    ∧ (s.dbg.att = false → ∀ i ∈ ports, Answers i s (answered none))
    ∧ (s.dbg.att = true → s.debugLocked = true → s.dbg.busy = none → ∀ i ∈ ports, Answers i s fun t => t.dbg.resp = some 0 ∧ t.intc.ashPend.getLsbD 11 = true ∧ t.regs = s.regs)
    ∧ (∀ (h : BitVec 12) (ok : Bool), h.toNat / 1024 ≠ 1 ∨ h.toNat % 4 ≠ 3 → Answers (.debugTransaction h v ok) s fun t => t = s)
    ∧ (s.dbg.att = true → s.debugLocked = false → s.dbg.busy = none →
      (∀ (rd par : Bool) (idx : BitVec 6) (ok : Bool), let h := 1#2 ++ BitVec.ofBool rd ++ idx ++ BitVec.ofBool par ++ 3#2
        let even := (List.foldl xor (xor rd par) ((List.range 6).map idx.getLsbD)) = false
        (¬ even → Answers (.debugTransaction h v ok) s fun t => s.OnlyRegs { t with dbg := s.dbg } [Reg.DBG_STAT] ∧ t.dbg = { s.dbg with resp := none } ∧ t.bit Reg.DBG_STAT 19 = true)
        ∧ (even →
          (idx.toNat ∉ [0, 1, 2, 4, 5, 8, 9] → Answers (.debugTransaction h v ok) s error)
          ∧ (idx = 5#6 → s.bit Reg.DBG_STAT 20 = true → Answers (.debugTransaction h v ok) s error)
          ∧ (rd = false → ok = false → idx.toNat ∈ [0, 1, 2, 4, 8] → Answers (.debugTransaction h v ok) s fun t =>
              s.OnlyRegs { t with dbg := s.dbg } [Reg.DBG_STAT] ∧ t.dbg = { s.dbg with resp := some 1 } ∧ t.bit Reg.DBG_STAT 19 = true)
          ∧ (rd = true → idx.toNat ∈ [0, 1, 4, 8] → Answers (.debugTransaction h v ok) s fun t => t = { s with dbg := { s.dbg with resp := some 1, data := s.reg (Base.DBG + idx.toNat) } })
          ∧ (rd = false → ok = true → idx = 4#6 → Answers (.debugTransaction h v ok) s fun t => t.dbg = { s.dbg with resp := some 1 } ∧ t.reg Reg.DBG_ADDR = v ∧ s.KeepsRegs t [Reg.DBG_ADDR])
          ∧ (rd = false → ok = true → idx = 8#6 → Answers (.debugTransaction h v ok) s fun t => t.dbg = { s.dbg with resp := some 1 } ∧ t.fld Reg.DBG_CSEL 0 2 = v.toNat % 4
              ∧ t.fld Reg.DBG_CSEL 8 6 = v.toNat / 256 % 64 ∧ s.KeepsRegs t [Reg.DBG_CSEL])))
      ∧ Answers .debugDetach s (fun t => t.dbg = { s.dbg with att := false, read := none, resp := some 1 } ∧ kept t ∧ t.a0 = s.a0 ∧ t.a1 = s.a1 ∧ t.lk = s.lk)
      ∧ (s.dbg.haltReq = 0#3 → s.dbg.step = 0#3 → ∀ c : CoreId, c ≠ .ash →
        let k := s.core c
        (cores.getLsbD c.cid = false → (Answers (.debugHalt cores) s fun t => t.core c = k ∧ t.dbg.resp = some 1 ∧ t.mem = s.mem ∧ s.KeepsRegs t (sourceRegs 111))
          ∧ ∀ i ∈ [Instr.debugRun cores, .debugStep cores], Answers i s fun t => t.core c = k ∧ t.dbg.resp = some 1 ∧ kept t)
        ∧ (cores.getLsbD c.cid = true →
          (k.branch = none → k.rptPc = none → k.inflight = [] → Answers (.debugHalt cores) s fun t => t.core c = { k with dbgHalt := true } ∧ t.dbg.resp = some 1
              ∧ (s.asleep = false → t.isPending 111 = true))
          ∧ (k.dbgHalt = false → (∃ b, k.branch = some b) ∨ (∃ p, k.rptPc = some p) → Answers (.debugHalt cores) s fun t => t.core c = k ∧ t.dbg.haltReq.getLsbD c.cid = true)
          ∧ Answers (.debugRun cores) s (fun t => t.core c = { k with dbgHalt := false } ∧ t.dbg = { s.dbg with resp := some 1 } ∧ kept t)
          ∧ (k.dbgHalt = true → Answers (.debugStep cores) s fun t => t.core c = { k with dbgHalt := false } ∧ t.dbg.step.getLsbD c.cid = true ∧ kept t)
          ∧ (k.dbgHalt = false → Answers (.debugStep cores) s fun t => t.core c = k ∧ kept t)))
      ∧ (s.sys.inReset = none → Answers .debugReset s fun t => t.sys.inReset = some .system ∧ t.bit Reg.SYS_RSTCAUSE 7 = true ∧ t.dbg.att = true)
      ∧ (s.bit Reg.DBG_STAT 20 = false →
        (∀ w, s.dbg.read = some w → Answers .debugBusRead s fun t => t = { s with dbg := { s.dbg with read := none, resp := some 1, data := w } })
        ∧ (s.dbgWaits = true → s.dbg.read = none → Answers .debugBusRead s fun t => t = { s with dbg := { s.dbg with busy := some none, resp := some 2, data := 0#24 } })
        ∧ (s.dbgWaits = true → Answers (.debugBusWrite v) s fun t => t = { s with dbg := { s.dbg with read := none, busy := some (some v), resp := some 1 } })
        ∧ (s.dbgWaits = false → isSram addr = true →
          (s.dbg.read = none → Answers .debugBusRead s fun t => t.dbg.read = some (s.mem1 addr) ∧ t.dbg.resp = some 2 ∧ t.reg Reg.DBG_DATA = s.mem1 addr ∧ moves t
              ∧ s.KeepsRegs t [Reg.DBG_DATA, Reg.DBG_ADDR] ∧ t.mem = s.mem)
          ∧ Answers (.debugBusWrite v) s (fun t => t.dbg.read = none ∧ t.dbg.resp = some 1 ∧ moves t ∧ s.KeepsRegs t [Reg.DBG_DATA, Reg.DBG_ADDR] ∧ ∀ x, t.mem1 x = if x = addr then v else s.mem1 x))
        ∧ (s.dbgWaits = false → canRead .dbg addr = false → canWrite .dbg addr = false → s.dbg.read = none → ∀ i ∈ [Instr.debugBusRead, .debugBusWrite v],
            Answers i s fun t => t.bit Reg.DBG_STAT 20 = true ∧ moves t ∧ t.mem = s.mem))
      ∧ (∀ c, s.csel = some c →
        let k := s.core c
        let i := s.fld Reg.DBG_CSEL 8 6
        let reads := fun (w : Word) => Answers (.coreRegisterAccess true v) s fun t => t = { s with dbg := { s.dbg with resp := some 1, data := w } }
        let writes := fun (k' : CoreState) => Answers (.coreRegisterAccess false v) s fun t => t = { s.setCore c k' with dbg := { s.dbg with resp := some 1 } }
        (k.dbgHalt = false ∨ i = 0x1E ∨ i = 0x1F ∨ 0x2C ≤ i → Answers (.coreRegisterAccess true v) s (fun t => t.dbg.resp = some 0 ∧ kept t) ∧ Answers (.coreRegisterAccess false v) s (fun t => t.dbg.resp = some 0 ∧ kept t))
        ∧ (k.dbgHalt = true →
          (i = 0 → reads 0#24 ∧ writes k)
          ∧ (1 ≤ i → i < 16 → reads (k.g.getD i 0#24) ∧ writes { k with g := setAt v k.g i })
          ∧ (i = 0x10 → reads k.pc ∧ writes { k with pc := v, branch := none, rptPc := none, rptLeft := 0, rptFresh := false, waits := k.waits.dropWhile (·.depth == 0), run := if k.run = .wst ∨ k.run = .cpwait then .run else k.run })
          ∧ (i = 0x12 → reads k.lc ∧ writes { k with lc := v &&& 0x7FF#24 })
          ∧ (i = 0x15 → reads k.epc ∧ writes { k with epc := v })
          ∧ (i = 0x1C → reads (BitVec.ofNat 24 c.cid) ∧ writes k)
          ∧ (i = 0x1D → reads k.cyc ∧ writes k)
          ∧ (∀ n, n < 4 → (i = 0x20 + 3 * n → reads ((k.acc.getD n 0#56).extractLsb' 0 24)) ∧ (i = 0x21 + 3 * n → reads ((k.acc.getD n 0#56).extractLsb' 24 24))
              ∧ (i = 0x22 + 3 * n → reads (((k.acc.getD n 0#56).extractLsb' 48 8).zeroExtend 24))))))
    ∧ (s.dbg.att = true → s.debugLocked = false → s.dbg.busy = none → s.csel = none → ∀ rd : Bool, Answers (.coreRegisterAccess rd v) s fun t => t.dbg.resp = some 0 ∧ kept t)

/-! ## The Core Sample log (R439 to R445) and reads of flash (R302, R304, R312) -/

/-- R439 to R442, R444, R445: the head request is written after the newest entry, extends the chain and becomes the head; a LOST entry goes ahead; the search for the newest entry;
and R445 whole: the entries of firmware. -/
def Obligations.CoreSampleLog : Prop :=
  ∀ (s : State) (m : Master) (v : Word), s.asleep = false →
    let e := s.nextEntry
    let a := 0x288000 + 8 * (e.1 % 4096)
    let wrote := fun (code : Nat) (r : LogRequest) (t : State) =>
      let ws := [BitVec.ofNat 24 (code * 65536 + r.origin * 8192 + (if r.tq then 4096 else 0) + e.2), BitVec.ofNat 24 r.asn, BitVec.ofNat 24 (r.time / 2 ^ 24 % 256 * 65536 + r.asn / 2 ^ 24 % 65536),
        BitVec.ofNat 24 r.time, r.d1, r.d2]
      let chain := chainWords (s.memWords (entryAddr s.cs.index + 6) 2) ws
      t.memWords a 6 = ws ∧ t.memWords (a + 6) 2 = chain ∧ (∀ x, (x < a ∨ a + 8 ≤ x) → t.mem1 x = s.mem1 x)
      ∧ t.reg Reg.CS_HEAD0 = chain.getD 0 0#24 ∧ t.reg Reg.CS_HEAD1 = chain.getD 1 0#24 ∧ t.reg Reg.CS_HIDX = BitVec.ofNat 24 (e.2 * 4096 + e.1) ∧ t.cs.index = e.1 ∧ t.cs.lap = e.2 ∧ t.isPending 81 = true
    (s.cs.index < 4096 → s.cs.lap < 4095 → s.bit Reg.CS_STAT 22 = false →
      (s.cs.lostSince = 0 → s.cs.queue = [] → Answers .entryWrite s fun t => t = s)
      ∧ (∀ r rest, s.cs.lostSince = 0 → s.cs.queue = r :: rest → r.cont = [] → r.code < 256 → r.origin < 8 → rest.length < 32 → Answers .entryWrite s fun t =>
          wrote r.code r t ∧ t.cs.queue = rest ∧ t.fld Reg.CS_STAT 16 5 = rest.length)
      ∧ (0 < s.cs.lostSince → Answers .entryWrite s fun t => wrote 4 (s.logEntry 4 0 (BitVec.ofNat 24 s.cs.lostSince) 0#24 []) t ∧ t.cs.queue = s.cs.queue ∧ t.cs.lostSince = 0)
      ∧ (s.reaches m Reg.CS_HEAD0 false = true → Answers (.headRead m) s fun t => t.sys.rdata = s.reg Reg.CS_HEAD0 ∧ t.sys.busErr = false ∧ t.latch m Reg.CS_HEAD1 = s.reg Reg.CS_HEAD1 ∧ t.latch m Reg.CS_HIDX = s.reg Reg.CS_HIDX
          ∧ t.regs = s.regs ∧ t.mem = s.mem ∧ t.cs = s.cs))
    ∧ (∀ i, i < 4096 → s.bit Reg.CS_STAT 22 = true → (∀ j, j < 4096 → (s.lapAt j = s.lapAt 0 ↔ j ≤ i)) →
      let prev := if (s.mem1 (entryAddr i)).toNat / 65536 = 1 then genesisPrev else s.memWords (entryAddr (i + 4095) + 6) 2
      chainWords prev (s.memWords (entryAddr i) 6) = s.memWords (entryAddr i + 6) 2 → s.reaches m Reg.CS_HEAD0 false = true → Answers (.headRead m) s fun t =>
        t.cs.index = i ∧ t.cs.lap = s.lapAt 0 ∧ t.bit Reg.CS_STAT 22 = false ∧ t.sys.rdata = s.mem1 (entryAddr i + 6) ∧ t.latch m Reg.CS_HEAD1 = s.mem1 (entryAddr i + 7) ∧ t.mem = s.mem)
    ∧ (∀ (a : Word) (d : Word), m ∈ [Master.lk, .a0, .a1, .dbg] → (a = 0xF12008#24 ∨ a = 0xF12009#24) → s.reaches m a.toNat true = true →
      Answers (.registerWrite m a d) s fun t => t.latch m a.toNat = d ∧ ∀ m' b, (m' ≠ m ∨ b ≠ a.toNat) → b < 2 ^ 24 → t.latch m' b = s.latch m' b)
    ∧ ∀ o, (m, o) ∈ [(Master.lk, 1), (.a0, 2), (.a1, 3), (.dbg, 6)] → s.reaches m Reg.CS_FWCMD true = true →
      let code := v.toNat / 65536
      let kept := fun (t : State) => t.cs.lostSince = s.cs.lostSince ∧ t.reg Reg.CS_LOST = s.reg Reg.CS_LOST ∧ t.mem = s.mem
      (code < 0x80 → Answers (.firmwareEntry m v) s fun t => t.latch m Reg.CS_FWSTAT = 7#24 ∧ t.cs = s.cs ∧ kept t)
      ∧ (0x80 ≤ code → 16 ≤ s.cs.queue.length → Answers (.firmwareEntry m v) s fun t => t.latch m Reg.CS_FWSTAT = 3#24 ∧ t.cs = s.cs ∧ kept t)
      ∧ (0x80 ≤ code → s.cs.queue.length < 16 → Answers (.firmwareEntry m v) s fun t => t.latch m Reg.CS_FWSTAT = 0#24 ∧ kept t
          ∧ t.cs = { s.cs with queue := s.cs.queue ++ [s.logEntry code o (s.latch m Reg.CS_FWD0) (s.latch m Reg.CS_FWD1) []] })

/-- R302 to R304, R312: a read of a flash word brings it, counting the re-reads, and puts its row into the read buffer of its bank, which keeps the two rows checked last; a row in it is read from
there; a read of a row that fails every read, or of an execute-only region, answers no word and is noted; one of a held bank waits; and one by a master that does not reach flash ends with a bus error. -/
def Obligations.FlashReads : Prop :=
  ∀ (s : State) (m : Master) (a : Word) (failed : Nat), m ≠ .ash → isFlash a.toNat = true → s.asleep = false →
    let row := a.toNat / 64 * 64
    let read := Answers (.flashRead m a false failed) s
    let noted := fun (t : State) => t.reg Reg.NVM_CRCADR = BitVec.ofNat 24 row ∧ t.bit Reg.NVM_STAT 18 = true ∧ t.isPending 79 = true ∧ t.mem = s.mem ∧ t.nvm = s.nvm
      ∧ (s.cs.queue.length < 16 → t.cs.queue = s.cs.queue ++ [s.logEntry 0x20 0 (BitVec.ofNat 24 row) 0#24 []])
    let faults := fun (code : Nat) (t : State) => ∀ c, Master.core? m = some c → (s.core c).fault = none → (t.core c).fault = some { code := code, efa := a, eia := (s.core c).pc }
    let brought := { (s.begun m) with sys := { (s.begun m).sys with rdata := s.mem1 a.toNat } }
    let others := fun (b : Nat) => s.nvm.buf.filter fun r => r / 0x100000 != b
    let own := s.nvm.buf.filter fun r => r / 0x100000 == row / 0x100000 && r != row
    (s.reaches m a.toNat false = false → read fun t => t = (s.served m).noteBus true)
    ∧ (s.reaches m a.toNat false = true → s.bankHeld (a.toNat / 0x100000) = true → read fun t => t = s)
    ∧ (s.reaches m a.toNat false = true → s.bankHeld (a.toNat / 0x100000) = false →
      (s.xoSector (a.toNat / 2048) = false →
        (row ∈ s.nvm.buf → read fun t => t = brought)
        ∧ (row ∉ s.nvm.buf → s.rowOk row = true →
          (failed = 0 → read fun t => t = { brought with nvm := { s.nvm with buf := row :: own.take 1 ++ others (row / 0x100000) } })
          ∧ (1 ≤ failed → failed < 4 → read fun t => t.sys = brought.sys ∧ t.nvm = { s.nvm with buf := row :: own.take 1 ++ others (row / 0x100000) } ∧ s.KeepsRegs t [Reg.NVM_RRCNT] ∧ t.mem = s.mem
              ∧ (s.reg Reg.NVM_RRCNT ≠ 0xFFFFFF#24 → t.reg Reg.NVM_RRCNT = s.reg Reg.NVM_RRCNT + 1#24)))
        ∧ (row ∉ s.nvm.buf → s.rowOk row = false ∨ 4 ≤ failed → read fun t => noted t ∧ faults 10 t ∧ t.sys.busErr = true))
      ∧ (s.xoSector (a.toNat / 2048) = true → read fun t =>
          t.sys.rdata = 0#24 ∧ t.sys.busErr = false ∧ t.reg Reg.NVM_XOADR = a ∧ t.bit Reg.NVM_STAT 17 = true ∧ faults 6 t ∧ t.mem = s.mem ∧ t.nvm = s.nvm)
      ∧ ((m = .a0 ∨ m = .a1) → row ∉ s.nvm.buf → s.rowOk row = true → failed = 0 →
          Answers (.flashRead m a true failed) s fun t => t = { brought with nvm := { s.nvm with buf := row :: own.take 1 ++ others (row / 0x100000) } }))

/-! ## What the part sends in Seam (R81, R85 to R87, R92, R101, R132, R133) -/

/-- R85, R86, R87, R92, R101, R132, R133: a header that the part forms passes the checks of the receiver and reads back field by field; an operation's frame carries the seed of the slot and the length of its
PSDU; the header symbols carry each coded bit twice; the symbols of a payload are as many as R88 and R92 say, and its scrambled bits give the PSDU back; and the elements of an acknowledgement read back as they were
formed. The pilots go on with the period of their generator (R81). -/
def Obligations.SeamFrames : Prop :=
  (∀ (len tag cls seed nbr : Nat) (rate nv : Bool), 5 ≤ len → len < 2048 → tag < 8 → cls < 4 → 1 ≤ seed → seed < 128 → nbr < 256 →
    let h := longHeader len rate tag cls seed nbr nv
    seamHeaderOk false h = true ∧ h < 2 ^ 42 ∧ rawField h 0 11 = len ∧ natBit h 11 = rate ∧ rawField h 12 3 = tag ∧ rawField h 15 2 = cls ∧ rawField h 17 7 = seed ∧ natBit h 33 = false
      ∧ seamNbr h = if nv then some nbr else none)
  ∧ (∀ len, 5 ≤ len → len < 64 → seamHeaderOk true (shortHeader len) = true ∧ shortHeader len < 2 ^ 18 ∧ rawField (shortHeader len) 0 6 = len ∧ natBit (shortHeader len) 6 = false)
  ∧ (∀ (s : State) (o : SlotOp), cellMode o.w1 = 2 →
    let f := s.opFrame o
    f.short = false ∧ f.seed = s.slot.asn.toNat % 127 + 1 ∧ rawField f.hdr 17 7 = f.seed ∧ rawField f.hdr 0 11 = f.psdu.length % 2048 ∧ natBit f.hdr 33 = false
      ∧ (5 ≤ f.psdu.length % 2048 → seamHeaderOk false f.hdr = true))
  ∧ (∀ j, j < 96 → slotPosition j < 96 ∧ positionSlot (slotPosition j) = j)
  ∧ (∀ (short : Bool) (hdr j : Nat), j < 48 → (headerSymbols short hdr).length = (if short then 1 else 2)
      ∧ ∀ sym ∈ headerSymbols short hdr, sym.length = 96 ∧ sym[slotPosition j]? = sym[slotPosition (j + 48)]?)
  ∧ (∀ (psdu : List Octet) (seed n d : Nat), 8 * psdu.length + 6 ≤ n * d →
    let os := psdu.map BitVec.toNat
    let b := payloadBits os seed n d
    b.length = n * d ∧ (b.drop (8 * os.length)).take 6 = List.replicate 6 false
      ∧ ∀ i, i < 8 * os.length → (b.getD i false != (genBits 7 4 seed (8 * os.length)).getD i false) = (os.getD (i / 8) 0).testBit (i % 8))
  ∧ (∀ (tab : List Word) (rate : Bool) (seed : Nat) (psdu : List Nat), tab = [] ∨ tableIllegal tab = false →
    (payloadSymbols false tab rate seed psdu).length = ceilDiv (8 * psdu.length + 6) (if tab = [] then 24 else tableD tab rate)
      ∧ (payloadSymbols true tab rate seed psdu).length = 2 ∧ ∀ sym ∈ payloadSymbols false tab rate seed psdu, sym.length = 96)
  ∧ (∀ (a : AckInfo) (c : Int), a.corr = some c → a.nack = false → (∀ i, a.idx = some i → i < 256) → (∀ t, a.table = some t → t.2.1 < 8 ∧ t.2.2.1 < 4 ∧ t.2.2.2.length = 3) →
    (-(2 ^ 23) ≤ c → c < 2 ^ 23 → (ieList 64 (ackElements false a)).foldl (fun b e => b.take e.1 e.2) {} = a)
      ∧ (∀ k : Int, c = 1000 * k → -(2 ^ 11) ≤ k → k < 2 ^ 11 → (ieList 64 (ackElements true a)).foldl (fun b e => b.take e.1 e.2) {} = a))
  ∧ (∀ n, pilots (n + 127) = pilots n ∧ (pilots n).length = 8)

/-! ## The machine as a whole -/

/-- A step runs the command at the front of the queue on the state with the queue's rest; with no command waiting the block idles (the model's choice, log entry 9). -/
def Obligations.StepRunsTheFront : Prop :=
  ∀ (s : State) (c : Instr) (rest : List Instr),
    (s.pending = c :: rest → step s = exec c { s with pending := rest }) ∧ (s.pending = [] → step s = .next s)

/-- The spec gives every command of its table an effect: a step whose queue holds a command answers a next state, never a fault or a refusal. -/
def Obligations.EveryStepAnswers : Prop :=
  ∀ s : State, ∃ t, step s = .next t

/-- The state after reset: A0 runs in the boot ROM while LK and A1 are held (R205, R286), the registers named here are as the Reset columns of their lists say, no flash operation, slot operation or log request is in progress, only source 75, the condition of an empty pool, is pending, and
what the part stores is in its canonical form. -/
def Obligations.ResetState : Prop :=
  let s := State.reset
  s.Canon ∧ s.pending = [] ∧ s.a0.pc = 0xE00000#24 ∧ s.a0.run = .run ∧ s.lk.run = .held ∧ s.a1.run = .held
  ∧ (∀ c : CoreId, (s.core c).sr = 0#24 ∧ (s.core c).ie = 0#24 ∧ (s.core c).inflight = [] ∧ (s.core c).branch = none ∧ (s.core c).cp3 = [])
  ∧ (∀ n, n < 124 → (s.isPending n = true ↔ n = 75) ∧ s.isActive n = false)
  ∧ s.reg Reg.TB_SLOTLEN = 1000000#24 ∧ s.reg Reg.HL_BAUD = 0x00008B#24 ∧ s.reg Reg.DBG_ID = 0x974001#24 ∧ s.reg Reg.DALI_STAT = 0x800000#24 ∧ s.reg Reg.ADC_CAL = 0x800000#24
  ∧ s.locked = false ∧ s.hop.free = [] ∧ s.slot.op = none ∧ s.cs.queue = [] ∧ s.dbg.att = false ∧ s.nvmIdle ∧ s.outOfReset

/-- The canonical form is an invariant: from every state whose maps are in canonical form, a step leads to one whose maps are. -/
def Obligations.StepKeepsCanonicalForm : Prop :=
  ∀ s t : State, s.Canon → step s = .next t → t.Canon

end
end

