-- ==== Sys2Proof/Laws/State.lean ====
section
/-! SUPPORT. One lemma for each field and each update of the state: what an update leaves as it was, true by rfl. -/
namespace Sys2Proof.Machine

/-! State.setReg -/
@[simp] theorem State.setReg_pending (s : State) (a : Nat) (v : Word) : (s.setReg a v).pending = s.pending := rfl
@[simp] theorem State.setReg_fresh (s : State) (a : Nat) (v : Word) : (s.setReg a v).fresh = s.fresh := rfl
@[simp] theorem State.setReg_latches (s : State) (a : Nat) (v : Word) : (s.setReg a v).latches = s.latches := rfl
@[simp] theorem State.setReg_mem (s : State) (a : Nat) (v : Word) : (s.setReg a v).mem = s.mem := rfl
@[simp] theorem State.setReg_losses (s : State) (a : Nat) (v : Word) : (s.setReg a v).losses = s.losses := rfl
@[simp] theorem State.setReg_scraps (s : State) (a : Nat) (v : Word) : (s.setReg a v).scraps = s.scraps := rfl
@[simp] theorem State.setReg_dirty (s : State) (a : Nat) (v : Word) : (s.setReg a v).dirty = s.dirty := rfl
@[simp] theorem State.setReg_lk (s : State) (a : Nat) (v : Word) : (s.setReg a v).lk = s.lk := rfl
@[simp] theorem State.setReg_a0 (s : State) (a : Nat) (v : Word) : (s.setReg a v).a0 = s.a0 := rfl
@[simp] theorem State.setReg_a1 (s : State) (a : Nat) (v : Word) : (s.setReg a v).a1 = s.a1 := rfl
@[simp] theorem State.setReg_ashc (s : State) (a : Nat) (v : Word) : (s.setReg a v).ashc = s.ashc := rfl
@[simp] theorem State.setReg_sys (s : State) (a : Nat) (v : Word) : (s.setReg a v).sys = s.sys := rfl
@[simp] theorem State.setReg_tb (s : State) (a : Nat) (v : Word) : (s.setReg a v).tb = s.tb := rfl
@[simp] theorem State.setReg_intc (s : State) (a : Nat) (v : Word) : (s.setReg a v).intc = s.intc := rfl
@[simp] theorem State.setReg_nvm (s : State) (a : Nat) (v : Word) : (s.setReg a v).nvm = s.nvm := rfl
@[simp] theorem State.setReg_cs (s : State) (a : Nat) (v : Word) : (s.setReg a v).cs = s.cs := rfl
@[simp] theorem State.setReg_rtc (s : State) (a : Nat) (v : Word) : (s.setReg a v).rtc = s.rtc := rfl
@[simp] theorem State.setReg_rfe (s : State) (a : Nat) (v : Word) : (s.setReg a v).rfe = s.rfe := rfl
@[simp] theorem State.setReg_phy (s : State) (a : Nat) (v : Word) : (s.setReg a v).phy = s.phy := rfl
@[simp] theorem State.setReg_slot (s : State) (a : Nat) (v : Word) : (s.setReg a v).slot = s.slot := rfl
@[simp] theorem State.setReg_hop (s : State) (a : Nat) (v : Word) : (s.setReg a v).hop = s.hop := rfl
@[simp] theorem State.setReg_ash (s : State) (a : Nat) (v : Word) : (s.setReg a v).ash = s.ash := rfl
@[simp] theorem State.setReg_tw (s : State) (a : Nat) (v : Word) : (s.setReg a v).tw = s.tw := rfl
@[simp] theorem State.setReg_gpio (s : State) (a : Nat) (v : Word) : (s.setReg a v).gpio = s.gpio := rfl
@[simp] theorem State.setReg_adc (s : State) (a : Nat) (v : Word) : (s.setReg a v).adc = s.adc := rfl
@[simp] theorem State.setReg_dali (s : State) (a : Nat) (v : Word) : (s.setReg a v).dali = s.dali := rfl
@[simp] theorem State.setReg_hl (s : State) (a : Nat) (v : Word) : (s.setReg a v).hl = s.hl := rfl
@[simp] theorem State.setReg_spim (s : State) (a : Nat) (v : Word) : (s.setReg a v).spim = s.spim := rfl
@[simp] theorem State.setReg_i2c (s : State) (a : Nat) (v : Word) : (s.setReg a v).i2c = s.i2c := rfl
@[simp] theorem State.setReg_dbg (s : State) (a : Nat) (v : Word) : (s.setReg a v).dbg = s.dbg := rfl
@[simp] theorem State.setReg_nor (s : State) (a : Nat) (v : Word) : (s.setReg a v).nor = s.nor := rfl
@[simp] theorem State.setReg_upd (s : State) (a : Nat) (v : Word) : (s.setReg a v).upd = s.upd := rfl

/-! State.setFld -/
@[simp] theorem State.setFld_pending (s : State) (a lo len v : Nat) : (s.setFld a lo len v).pending = s.pending := rfl
@[simp] theorem State.setFld_fresh (s : State) (a lo len v : Nat) : (s.setFld a lo len v).fresh = s.fresh := rfl
@[simp] theorem State.setFld_latches (s : State) (a lo len v : Nat) : (s.setFld a lo len v).latches = s.latches := rfl
@[simp] theorem State.setFld_mem (s : State) (a lo len v : Nat) : (s.setFld a lo len v).mem = s.mem := rfl
@[simp] theorem State.setFld_losses (s : State) (a lo len v : Nat) : (s.setFld a lo len v).losses = s.losses := rfl
@[simp] theorem State.setFld_scraps (s : State) (a lo len v : Nat) : (s.setFld a lo len v).scraps = s.scraps := rfl
@[simp] theorem State.setFld_dirty (s : State) (a lo len v : Nat) : (s.setFld a lo len v).dirty = s.dirty := rfl
@[simp] theorem State.setFld_lk (s : State) (a lo len v : Nat) : (s.setFld a lo len v).lk = s.lk := rfl
@[simp] theorem State.setFld_a0 (s : State) (a lo len v : Nat) : (s.setFld a lo len v).a0 = s.a0 := rfl
@[simp] theorem State.setFld_a1 (s : State) (a lo len v : Nat) : (s.setFld a lo len v).a1 = s.a1 := rfl
@[simp] theorem State.setFld_ashc (s : State) (a lo len v : Nat) : (s.setFld a lo len v).ashc = s.ashc := rfl
@[simp] theorem State.setFld_sys (s : State) (a lo len v : Nat) : (s.setFld a lo len v).sys = s.sys := rfl
@[simp] theorem State.setFld_tb (s : State) (a lo len v : Nat) : (s.setFld a lo len v).tb = s.tb := rfl
@[simp] theorem State.setFld_intc (s : State) (a lo len v : Nat) : (s.setFld a lo len v).intc = s.intc := rfl
@[simp] theorem State.setFld_nvm (s : State) (a lo len v : Nat) : (s.setFld a lo len v).nvm = s.nvm := rfl
@[simp] theorem State.setFld_cs (s : State) (a lo len v : Nat) : (s.setFld a lo len v).cs = s.cs := rfl
@[simp] theorem State.setFld_rtc (s : State) (a lo len v : Nat) : (s.setFld a lo len v).rtc = s.rtc := rfl
@[simp] theorem State.setFld_rfe (s : State) (a lo len v : Nat) : (s.setFld a lo len v).rfe = s.rfe := rfl
@[simp] theorem State.setFld_phy (s : State) (a lo len v : Nat) : (s.setFld a lo len v).phy = s.phy := rfl
@[simp] theorem State.setFld_slot (s : State) (a lo len v : Nat) : (s.setFld a lo len v).slot = s.slot := rfl
@[simp] theorem State.setFld_hop (s : State) (a lo len v : Nat) : (s.setFld a lo len v).hop = s.hop := rfl
@[simp] theorem State.setFld_ash (s : State) (a lo len v : Nat) : (s.setFld a lo len v).ash = s.ash := rfl
@[simp] theorem State.setFld_tw (s : State) (a lo len v : Nat) : (s.setFld a lo len v).tw = s.tw := rfl
@[simp] theorem State.setFld_gpio (s : State) (a lo len v : Nat) : (s.setFld a lo len v).gpio = s.gpio := rfl
@[simp] theorem State.setFld_adc (s : State) (a lo len v : Nat) : (s.setFld a lo len v).adc = s.adc := rfl
@[simp] theorem State.setFld_dali (s : State) (a lo len v : Nat) : (s.setFld a lo len v).dali = s.dali := rfl
@[simp] theorem State.setFld_hl (s : State) (a lo len v : Nat) : (s.setFld a lo len v).hl = s.hl := rfl
@[simp] theorem State.setFld_spim (s : State) (a lo len v : Nat) : (s.setFld a lo len v).spim = s.spim := rfl
@[simp] theorem State.setFld_i2c (s : State) (a lo len v : Nat) : (s.setFld a lo len v).i2c = s.i2c := rfl
@[simp] theorem State.setFld_dbg (s : State) (a lo len v : Nat) : (s.setFld a lo len v).dbg = s.dbg := rfl
@[simp] theorem State.setFld_nor (s : State) (a lo len v : Nat) : (s.setFld a lo len v).nor = s.nor := rfl
@[simp] theorem State.setFld_upd (s : State) (a lo len v : Nat) : (s.setFld a lo len v).upd = s.upd := rfl

/-! State.setBit -/
@[simp] theorem State.setBit_pending (s : State) (a i : Nat) (b : Bool) : (s.setBit a i b).pending = s.pending := rfl
@[simp] theorem State.setBit_fresh (s : State) (a i : Nat) (b : Bool) : (s.setBit a i b).fresh = s.fresh := rfl
@[simp] theorem State.setBit_latches (s : State) (a i : Nat) (b : Bool) : (s.setBit a i b).latches = s.latches := rfl
@[simp] theorem State.setBit_mem (s : State) (a i : Nat) (b : Bool) : (s.setBit a i b).mem = s.mem := rfl
@[simp] theorem State.setBit_losses (s : State) (a i : Nat) (b : Bool) : (s.setBit a i b).losses = s.losses := rfl
@[simp] theorem State.setBit_scraps (s : State) (a i : Nat) (b : Bool) : (s.setBit a i b).scraps = s.scraps := rfl
@[simp] theorem State.setBit_dirty (s : State) (a i : Nat) (b : Bool) : (s.setBit a i b).dirty = s.dirty := rfl
@[simp] theorem State.setBit_lk (s : State) (a i : Nat) (b : Bool) : (s.setBit a i b).lk = s.lk := rfl
@[simp] theorem State.setBit_a0 (s : State) (a i : Nat) (b : Bool) : (s.setBit a i b).a0 = s.a0 := rfl
@[simp] theorem State.setBit_a1 (s : State) (a i : Nat) (b : Bool) : (s.setBit a i b).a1 = s.a1 := rfl
@[simp] theorem State.setBit_ashc (s : State) (a i : Nat) (b : Bool) : (s.setBit a i b).ashc = s.ashc := rfl
@[simp] theorem State.setBit_sys (s : State) (a i : Nat) (b : Bool) : (s.setBit a i b).sys = s.sys := rfl
@[simp] theorem State.setBit_tb (s : State) (a i : Nat) (b : Bool) : (s.setBit a i b).tb = s.tb := rfl
@[simp] theorem State.setBit_intc (s : State) (a i : Nat) (b : Bool) : (s.setBit a i b).intc = s.intc := rfl
@[simp] theorem State.setBit_nvm (s : State) (a i : Nat) (b : Bool) : (s.setBit a i b).nvm = s.nvm := rfl
@[simp] theorem State.setBit_cs (s : State) (a i : Nat) (b : Bool) : (s.setBit a i b).cs = s.cs := rfl
@[simp] theorem State.setBit_rtc (s : State) (a i : Nat) (b : Bool) : (s.setBit a i b).rtc = s.rtc := rfl
@[simp] theorem State.setBit_rfe (s : State) (a i : Nat) (b : Bool) : (s.setBit a i b).rfe = s.rfe := rfl
@[simp] theorem State.setBit_phy (s : State) (a i : Nat) (b : Bool) : (s.setBit a i b).phy = s.phy := rfl
@[simp] theorem State.setBit_slot (s : State) (a i : Nat) (b : Bool) : (s.setBit a i b).slot = s.slot := rfl
@[simp] theorem State.setBit_hop (s : State) (a i : Nat) (b : Bool) : (s.setBit a i b).hop = s.hop := rfl
@[simp] theorem State.setBit_ash (s : State) (a i : Nat) (b : Bool) : (s.setBit a i b).ash = s.ash := rfl
@[simp] theorem State.setBit_tw (s : State) (a i : Nat) (b : Bool) : (s.setBit a i b).tw = s.tw := rfl
@[simp] theorem State.setBit_gpio (s : State) (a i : Nat) (b : Bool) : (s.setBit a i b).gpio = s.gpio := rfl
@[simp] theorem State.setBit_adc (s : State) (a i : Nat) (b : Bool) : (s.setBit a i b).adc = s.adc := rfl
@[simp] theorem State.setBit_dali (s : State) (a i : Nat) (b : Bool) : (s.setBit a i b).dali = s.dali := rfl
@[simp] theorem State.setBit_hl (s : State) (a i : Nat) (b : Bool) : (s.setBit a i b).hl = s.hl := rfl
@[simp] theorem State.setBit_spim (s : State) (a i : Nat) (b : Bool) : (s.setBit a i b).spim = s.spim := rfl
@[simp] theorem State.setBit_i2c (s : State) (a i : Nat) (b : Bool) : (s.setBit a i b).i2c = s.i2c := rfl
@[simp] theorem State.setBit_dbg (s : State) (a i : Nat) (b : Bool) : (s.setBit a i b).dbg = s.dbg := rfl
@[simp] theorem State.setBit_nor (s : State) (a i : Nat) (b : Bool) : (s.setBit a i b).nor = s.nor := rfl
@[simp] theorem State.setBit_upd (s : State) (a i : Nat) (b : Bool) : (s.setBit a i b).upd = s.upd := rfl

/-! State.setMem -/
@[simp] theorem State.setMem_pending (s : State) (a : Nat) (v : Word) : (s.setMem a v).pending = s.pending := rfl
@[simp] theorem State.setMem_fresh (s : State) (a : Nat) (v : Word) : (s.setMem a v).fresh = s.fresh := rfl
@[simp] theorem State.setMem_regs (s : State) (a : Nat) (v : Word) : (s.setMem a v).regs = s.regs := rfl
@[simp] theorem State.setMem_latches (s : State) (a : Nat) (v : Word) : (s.setMem a v).latches = s.latches := rfl
@[simp] theorem State.setMem_losses (s : State) (a : Nat) (v : Word) : (s.setMem a v).losses = s.losses := rfl
@[simp] theorem State.setMem_scraps (s : State) (a : Nat) (v : Word) : (s.setMem a v).scraps = s.scraps := rfl
@[simp] theorem State.setMem_dirty (s : State) (a : Nat) (v : Word) : (s.setMem a v).dirty = s.dirty := rfl
@[simp] theorem State.setMem_lk (s : State) (a : Nat) (v : Word) : (s.setMem a v).lk = s.lk := rfl
@[simp] theorem State.setMem_a0 (s : State) (a : Nat) (v : Word) : (s.setMem a v).a0 = s.a0 := rfl
@[simp] theorem State.setMem_a1 (s : State) (a : Nat) (v : Word) : (s.setMem a v).a1 = s.a1 := rfl
@[simp] theorem State.setMem_ashc (s : State) (a : Nat) (v : Word) : (s.setMem a v).ashc = s.ashc := rfl
@[simp] theorem State.setMem_sys (s : State) (a : Nat) (v : Word) : (s.setMem a v).sys = s.sys := rfl
@[simp] theorem State.setMem_tb (s : State) (a : Nat) (v : Word) : (s.setMem a v).tb = s.tb := rfl
@[simp] theorem State.setMem_intc (s : State) (a : Nat) (v : Word) : (s.setMem a v).intc = s.intc := rfl
@[simp] theorem State.setMem_nvm (s : State) (a : Nat) (v : Word) : (s.setMem a v).nvm = s.nvm := rfl
@[simp] theorem State.setMem_cs (s : State) (a : Nat) (v : Word) : (s.setMem a v).cs = s.cs := rfl
@[simp] theorem State.setMem_rtc (s : State) (a : Nat) (v : Word) : (s.setMem a v).rtc = s.rtc := rfl
@[simp] theorem State.setMem_rfe (s : State) (a : Nat) (v : Word) : (s.setMem a v).rfe = s.rfe := rfl
@[simp] theorem State.setMem_phy (s : State) (a : Nat) (v : Word) : (s.setMem a v).phy = s.phy := rfl
@[simp] theorem State.setMem_slot (s : State) (a : Nat) (v : Word) : (s.setMem a v).slot = s.slot := rfl
@[simp] theorem State.setMem_hop (s : State) (a : Nat) (v : Word) : (s.setMem a v).hop = s.hop := rfl
@[simp] theorem State.setMem_ash (s : State) (a : Nat) (v : Word) : (s.setMem a v).ash = s.ash := rfl
@[simp] theorem State.setMem_tw (s : State) (a : Nat) (v : Word) : (s.setMem a v).tw = s.tw := rfl
@[simp] theorem State.setMem_gpio (s : State) (a : Nat) (v : Word) : (s.setMem a v).gpio = s.gpio := rfl
@[simp] theorem State.setMem_adc (s : State) (a : Nat) (v : Word) : (s.setMem a v).adc = s.adc := rfl
@[simp] theorem State.setMem_dali (s : State) (a : Nat) (v : Word) : (s.setMem a v).dali = s.dali := rfl
@[simp] theorem State.setMem_hl (s : State) (a : Nat) (v : Word) : (s.setMem a v).hl = s.hl := rfl
@[simp] theorem State.setMem_spim (s : State) (a : Nat) (v : Word) : (s.setMem a v).spim = s.spim := rfl
@[simp] theorem State.setMem_i2c (s : State) (a : Nat) (v : Word) : (s.setMem a v).i2c = s.i2c := rfl
@[simp] theorem State.setMem_dbg (s : State) (a : Nat) (v : Word) : (s.setMem a v).dbg = s.dbg := rfl
@[simp] theorem State.setMem_nor (s : State) (a : Nat) (v : Word) : (s.setMem a v).nor = s.nor := rfl
@[simp] theorem State.setMem_upd (s : State) (a : Nat) (v : Word) : (s.setMem a v).upd = s.upd := rfl

/-! State.setLatch -/
@[simp] theorem State.setLatch_pending (s : State) (m : Master) (a : Nat) (v : Word) : (s.setLatch m a v).pending = s.pending := rfl
@[simp] theorem State.setLatch_fresh (s : State) (m : Master) (a : Nat) (v : Word) : (s.setLatch m a v).fresh = s.fresh := rfl
@[simp] theorem State.setLatch_regs (s : State) (m : Master) (a : Nat) (v : Word) : (s.setLatch m a v).regs = s.regs := rfl
@[simp] theorem State.setLatch_mem (s : State) (m : Master) (a : Nat) (v : Word) : (s.setLatch m a v).mem = s.mem := rfl
@[simp] theorem State.setLatch_losses (s : State) (m : Master) (a : Nat) (v : Word) : (s.setLatch m a v).losses = s.losses := rfl
@[simp] theorem State.setLatch_scraps (s : State) (m : Master) (a : Nat) (v : Word) : (s.setLatch m a v).scraps = s.scraps := rfl
@[simp] theorem State.setLatch_dirty (s : State) (m : Master) (a : Nat) (v : Word) : (s.setLatch m a v).dirty = s.dirty := rfl
@[simp] theorem State.setLatch_lk (s : State) (m : Master) (a : Nat) (v : Word) : (s.setLatch m a v).lk = s.lk := rfl
@[simp] theorem State.setLatch_a0 (s : State) (m : Master) (a : Nat) (v : Word) : (s.setLatch m a v).a0 = s.a0 := rfl
@[simp] theorem State.setLatch_a1 (s : State) (m : Master) (a : Nat) (v : Word) : (s.setLatch m a v).a1 = s.a1 := rfl
@[simp] theorem State.setLatch_ashc (s : State) (m : Master) (a : Nat) (v : Word) : (s.setLatch m a v).ashc = s.ashc := rfl
@[simp] theorem State.setLatch_sys (s : State) (m : Master) (a : Nat) (v : Word) : (s.setLatch m a v).sys = s.sys := rfl
@[simp] theorem State.setLatch_tb (s : State) (m : Master) (a : Nat) (v : Word) : (s.setLatch m a v).tb = s.tb := rfl
@[simp] theorem State.setLatch_intc (s : State) (m : Master) (a : Nat) (v : Word) : (s.setLatch m a v).intc = s.intc := rfl
@[simp] theorem State.setLatch_nvm (s : State) (m : Master) (a : Nat) (v : Word) : (s.setLatch m a v).nvm = s.nvm := rfl
@[simp] theorem State.setLatch_cs (s : State) (m : Master) (a : Nat) (v : Word) : (s.setLatch m a v).cs = s.cs := rfl
@[simp] theorem State.setLatch_rtc (s : State) (m : Master) (a : Nat) (v : Word) : (s.setLatch m a v).rtc = s.rtc := rfl
@[simp] theorem State.setLatch_rfe (s : State) (m : Master) (a : Nat) (v : Word) : (s.setLatch m a v).rfe = s.rfe := rfl
@[simp] theorem State.setLatch_phy (s : State) (m : Master) (a : Nat) (v : Word) : (s.setLatch m a v).phy = s.phy := rfl
@[simp] theorem State.setLatch_slot (s : State) (m : Master) (a : Nat) (v : Word) : (s.setLatch m a v).slot = s.slot := rfl
@[simp] theorem State.setLatch_hop (s : State) (m : Master) (a : Nat) (v : Word) : (s.setLatch m a v).hop = s.hop := rfl
@[simp] theorem State.setLatch_ash (s : State) (m : Master) (a : Nat) (v : Word) : (s.setLatch m a v).ash = s.ash := rfl
@[simp] theorem State.setLatch_tw (s : State) (m : Master) (a : Nat) (v : Word) : (s.setLatch m a v).tw = s.tw := rfl
@[simp] theorem State.setLatch_gpio (s : State) (m : Master) (a : Nat) (v : Word) : (s.setLatch m a v).gpio = s.gpio := rfl
@[simp] theorem State.setLatch_adc (s : State) (m : Master) (a : Nat) (v : Word) : (s.setLatch m a v).adc = s.adc := rfl
@[simp] theorem State.setLatch_dali (s : State) (m : Master) (a : Nat) (v : Word) : (s.setLatch m a v).dali = s.dali := rfl
@[simp] theorem State.setLatch_hl (s : State) (m : Master) (a : Nat) (v : Word) : (s.setLatch m a v).hl = s.hl := rfl
@[simp] theorem State.setLatch_spim (s : State) (m : Master) (a : Nat) (v : Word) : (s.setLatch m a v).spim = s.spim := rfl
@[simp] theorem State.setLatch_i2c (s : State) (m : Master) (a : Nat) (v : Word) : (s.setLatch m a v).i2c = s.i2c := rfl
@[simp] theorem State.setLatch_dbg (s : State) (m : Master) (a : Nat) (v : Word) : (s.setLatch m a v).dbg = s.dbg := rfl
@[simp] theorem State.setLatch_nor (s : State) (m : Master) (a : Nat) (v : Word) : (s.setLatch m a v).nor = s.nor := rfl
@[simp] theorem State.setLatch_upd (s : State) (m : Master) (a : Nat) (v : Word) : (s.setLatch m a v).upd = s.upd := rfl

/-! State.resetRegs -/
@[simp] theorem State.resetRegs_pending (s : State) (p : Nat → Bool) : (s.resetRegs p).pending = s.pending := rfl
@[simp] theorem State.resetRegs_fresh (s : State) (p : Nat → Bool) : (s.resetRegs p).fresh = s.fresh := rfl
@[simp] theorem State.resetRegs_latches (s : State) (p : Nat → Bool) : (s.resetRegs p).latches = s.latches := rfl
@[simp] theorem State.resetRegs_mem (s : State) (p : Nat → Bool) : (s.resetRegs p).mem = s.mem := rfl
@[simp] theorem State.resetRegs_losses (s : State) (p : Nat → Bool) : (s.resetRegs p).losses = s.losses := rfl
@[simp] theorem State.resetRegs_scraps (s : State) (p : Nat → Bool) : (s.resetRegs p).scraps = s.scraps := rfl
@[simp] theorem State.resetRegs_dirty (s : State) (p : Nat → Bool) : (s.resetRegs p).dirty = s.dirty := rfl
@[simp] theorem State.resetRegs_lk (s : State) (p : Nat → Bool) : (s.resetRegs p).lk = s.lk := rfl
@[simp] theorem State.resetRegs_a0 (s : State) (p : Nat → Bool) : (s.resetRegs p).a0 = s.a0 := rfl
@[simp] theorem State.resetRegs_a1 (s : State) (p : Nat → Bool) : (s.resetRegs p).a1 = s.a1 := rfl
@[simp] theorem State.resetRegs_ashc (s : State) (p : Nat → Bool) : (s.resetRegs p).ashc = s.ashc := rfl
@[simp] theorem State.resetRegs_sys (s : State) (p : Nat → Bool) : (s.resetRegs p).sys = s.sys := rfl
@[simp] theorem State.resetRegs_tb (s : State) (p : Nat → Bool) : (s.resetRegs p).tb = s.tb := rfl
@[simp] theorem State.resetRegs_intc (s : State) (p : Nat → Bool) : (s.resetRegs p).intc = s.intc := rfl
@[simp] theorem State.resetRegs_nvm (s : State) (p : Nat → Bool) : (s.resetRegs p).nvm = s.nvm := rfl
@[simp] theorem State.resetRegs_cs (s : State) (p : Nat → Bool) : (s.resetRegs p).cs = s.cs := rfl
@[simp] theorem State.resetRegs_rtc (s : State) (p : Nat → Bool) : (s.resetRegs p).rtc = s.rtc := rfl
@[simp] theorem State.resetRegs_rfe (s : State) (p : Nat → Bool) : (s.resetRegs p).rfe = s.rfe := rfl
@[simp] theorem State.resetRegs_phy (s : State) (p : Nat → Bool) : (s.resetRegs p).phy = s.phy := rfl
@[simp] theorem State.resetRegs_slot (s : State) (p : Nat → Bool) : (s.resetRegs p).slot = s.slot := rfl
@[simp] theorem State.resetRegs_hop (s : State) (p : Nat → Bool) : (s.resetRegs p).hop = s.hop := rfl
@[simp] theorem State.resetRegs_ash (s : State) (p : Nat → Bool) : (s.resetRegs p).ash = s.ash := rfl
@[simp] theorem State.resetRegs_tw (s : State) (p : Nat → Bool) : (s.resetRegs p).tw = s.tw := rfl
@[simp] theorem State.resetRegs_gpio (s : State) (p : Nat → Bool) : (s.resetRegs p).gpio = s.gpio := rfl
@[simp] theorem State.resetRegs_adc (s : State) (p : Nat → Bool) : (s.resetRegs p).adc = s.adc := rfl
@[simp] theorem State.resetRegs_dali (s : State) (p : Nat → Bool) : (s.resetRegs p).dali = s.dali := rfl
@[simp] theorem State.resetRegs_hl (s : State) (p : Nat → Bool) : (s.resetRegs p).hl = s.hl := rfl
@[simp] theorem State.resetRegs_spim (s : State) (p : Nat → Bool) : (s.resetRegs p).spim = s.spim := rfl
@[simp] theorem State.resetRegs_i2c (s : State) (p : Nat → Bool) : (s.resetRegs p).i2c = s.i2c := rfl
@[simp] theorem State.resetRegs_dbg (s : State) (p : Nat → Bool) : (s.resetRegs p).dbg = s.dbg := rfl
@[simp] theorem State.resetRegs_nor (s : State) (p : Nat → Bool) : (s.resetRegs p).nor = s.nor := rfl
@[simp] theorem State.resetRegs_upd (s : State) (p : Nat → Bool) : (s.resetRegs p).upd = s.upd := rfl

/-! State.mapAsh -/
@[simp] theorem State.mapAsh_pending (s : State) (f : AshState → AshState) : (s.mapAsh f).pending = s.pending := rfl
@[simp] theorem State.mapAsh_fresh (s : State) (f : AshState → AshState) : (s.mapAsh f).fresh = s.fresh := rfl
@[simp] theorem State.mapAsh_regs (s : State) (f : AshState → AshState) : (s.mapAsh f).regs = s.regs := rfl
@[simp] theorem State.mapAsh_latches (s : State) (f : AshState → AshState) : (s.mapAsh f).latches = s.latches := rfl
@[simp] theorem State.mapAsh_mem (s : State) (f : AshState → AshState) : (s.mapAsh f).mem = s.mem := rfl
@[simp] theorem State.mapAsh_losses (s : State) (f : AshState → AshState) : (s.mapAsh f).losses = s.losses := rfl
@[simp] theorem State.mapAsh_scraps (s : State) (f : AshState → AshState) : (s.mapAsh f).scraps = s.scraps := rfl
@[simp] theorem State.mapAsh_dirty (s : State) (f : AshState → AshState) : (s.mapAsh f).dirty = s.dirty := rfl
@[simp] theorem State.mapAsh_lk (s : State) (f : AshState → AshState) : (s.mapAsh f).lk = s.lk := rfl
@[simp] theorem State.mapAsh_a0 (s : State) (f : AshState → AshState) : (s.mapAsh f).a0 = s.a0 := rfl
@[simp] theorem State.mapAsh_a1 (s : State) (f : AshState → AshState) : (s.mapAsh f).a1 = s.a1 := rfl
@[simp] theorem State.mapAsh_ashc (s : State) (f : AshState → AshState) : (s.mapAsh f).ashc = s.ashc := rfl
@[simp] theorem State.mapAsh_sys (s : State) (f : AshState → AshState) : (s.mapAsh f).sys = s.sys := rfl
@[simp] theorem State.mapAsh_tb (s : State) (f : AshState → AshState) : (s.mapAsh f).tb = s.tb := rfl
@[simp] theorem State.mapAsh_intc (s : State) (f : AshState → AshState) : (s.mapAsh f).intc = s.intc := rfl
@[simp] theorem State.mapAsh_nvm (s : State) (f : AshState → AshState) : (s.mapAsh f).nvm = s.nvm := rfl
@[simp] theorem State.mapAsh_cs (s : State) (f : AshState → AshState) : (s.mapAsh f).cs = s.cs := rfl
@[simp] theorem State.mapAsh_rtc (s : State) (f : AshState → AshState) : (s.mapAsh f).rtc = s.rtc := rfl
@[simp] theorem State.mapAsh_rfe (s : State) (f : AshState → AshState) : (s.mapAsh f).rfe = s.rfe := rfl
@[simp] theorem State.mapAsh_phy (s : State) (f : AshState → AshState) : (s.mapAsh f).phy = s.phy := rfl
@[simp] theorem State.mapAsh_slot (s : State) (f : AshState → AshState) : (s.mapAsh f).slot = s.slot := rfl
@[simp] theorem State.mapAsh_hop (s : State) (f : AshState → AshState) : (s.mapAsh f).hop = s.hop := rfl
@[simp] theorem State.mapAsh_tw (s : State) (f : AshState → AshState) : (s.mapAsh f).tw = s.tw := rfl
@[simp] theorem State.mapAsh_gpio (s : State) (f : AshState → AshState) : (s.mapAsh f).gpio = s.gpio := rfl
@[simp] theorem State.mapAsh_adc (s : State) (f : AshState → AshState) : (s.mapAsh f).adc = s.adc := rfl
@[simp] theorem State.mapAsh_dali (s : State) (f : AshState → AshState) : (s.mapAsh f).dali = s.dali := rfl
@[simp] theorem State.mapAsh_hl (s : State) (f : AshState → AshState) : (s.mapAsh f).hl = s.hl := rfl
@[simp] theorem State.mapAsh_spim (s : State) (f : AshState → AshState) : (s.mapAsh f).spim = s.spim := rfl
@[simp] theorem State.mapAsh_i2c (s : State) (f : AshState → AshState) : (s.mapAsh f).i2c = s.i2c := rfl
@[simp] theorem State.mapAsh_dbg (s : State) (f : AshState → AshState) : (s.mapAsh f).dbg = s.dbg := rfl
@[simp] theorem State.mapAsh_nor (s : State) (f : AshState → AshState) : (s.mapAsh f).nor = s.nor := rfl
@[simp] theorem State.mapAsh_upd (s : State) (f : AshState → AshState) : (s.mapAsh f).upd = s.upd := rfl

/-! State.mapEng -/
@[simp] theorem State.mapEng_pending (s : State) (f : CryptoEngine → CryptoEngine) : (s.mapEng f).pending = s.pending := rfl
@[simp] theorem State.mapEng_fresh (s : State) (f : CryptoEngine → CryptoEngine) : (s.mapEng f).fresh = s.fresh := rfl
@[simp] theorem State.mapEng_regs (s : State) (f : CryptoEngine → CryptoEngine) : (s.mapEng f).regs = s.regs := rfl
@[simp] theorem State.mapEng_latches (s : State) (f : CryptoEngine → CryptoEngine) : (s.mapEng f).latches = s.latches := rfl
@[simp] theorem State.mapEng_mem (s : State) (f : CryptoEngine → CryptoEngine) : (s.mapEng f).mem = s.mem := rfl
@[simp] theorem State.mapEng_losses (s : State) (f : CryptoEngine → CryptoEngine) : (s.mapEng f).losses = s.losses := rfl
@[simp] theorem State.mapEng_scraps (s : State) (f : CryptoEngine → CryptoEngine) : (s.mapEng f).scraps = s.scraps := rfl
@[simp] theorem State.mapEng_dirty (s : State) (f : CryptoEngine → CryptoEngine) : (s.mapEng f).dirty = s.dirty := rfl
@[simp] theorem State.mapEng_lk (s : State) (f : CryptoEngine → CryptoEngine) : (s.mapEng f).lk = s.lk := rfl
@[simp] theorem State.mapEng_a0 (s : State) (f : CryptoEngine → CryptoEngine) : (s.mapEng f).a0 = s.a0 := rfl
@[simp] theorem State.mapEng_a1 (s : State) (f : CryptoEngine → CryptoEngine) : (s.mapEng f).a1 = s.a1 := rfl
@[simp] theorem State.mapEng_ashc (s : State) (f : CryptoEngine → CryptoEngine) : (s.mapEng f).ashc = s.ashc := rfl
@[simp] theorem State.mapEng_sys (s : State) (f : CryptoEngine → CryptoEngine) : (s.mapEng f).sys = s.sys := rfl
@[simp] theorem State.mapEng_tb (s : State) (f : CryptoEngine → CryptoEngine) : (s.mapEng f).tb = s.tb := rfl
@[simp] theorem State.mapEng_intc (s : State) (f : CryptoEngine → CryptoEngine) : (s.mapEng f).intc = s.intc := rfl
@[simp] theorem State.mapEng_nvm (s : State) (f : CryptoEngine → CryptoEngine) : (s.mapEng f).nvm = s.nvm := rfl
@[simp] theorem State.mapEng_cs (s : State) (f : CryptoEngine → CryptoEngine) : (s.mapEng f).cs = s.cs := rfl
@[simp] theorem State.mapEng_rtc (s : State) (f : CryptoEngine → CryptoEngine) : (s.mapEng f).rtc = s.rtc := rfl
@[simp] theorem State.mapEng_rfe (s : State) (f : CryptoEngine → CryptoEngine) : (s.mapEng f).rfe = s.rfe := rfl
@[simp] theorem State.mapEng_phy (s : State) (f : CryptoEngine → CryptoEngine) : (s.mapEng f).phy = s.phy := rfl
@[simp] theorem State.mapEng_slot (s : State) (f : CryptoEngine → CryptoEngine) : (s.mapEng f).slot = s.slot := rfl
@[simp] theorem State.mapEng_hop (s : State) (f : CryptoEngine → CryptoEngine) : (s.mapEng f).hop = s.hop := rfl
@[simp] theorem State.mapEng_tw (s : State) (f : CryptoEngine → CryptoEngine) : (s.mapEng f).tw = s.tw := rfl
@[simp] theorem State.mapEng_gpio (s : State) (f : CryptoEngine → CryptoEngine) : (s.mapEng f).gpio = s.gpio := rfl
@[simp] theorem State.mapEng_adc (s : State) (f : CryptoEngine → CryptoEngine) : (s.mapEng f).adc = s.adc := rfl
@[simp] theorem State.mapEng_dali (s : State) (f : CryptoEngine → CryptoEngine) : (s.mapEng f).dali = s.dali := rfl
@[simp] theorem State.mapEng_hl (s : State) (f : CryptoEngine → CryptoEngine) : (s.mapEng f).hl = s.hl := rfl
@[simp] theorem State.mapEng_spim (s : State) (f : CryptoEngine → CryptoEngine) : (s.mapEng f).spim = s.spim := rfl
@[simp] theorem State.mapEng_i2c (s : State) (f : CryptoEngine → CryptoEngine) : (s.mapEng f).i2c = s.i2c := rfl
@[simp] theorem State.mapEng_dbg (s : State) (f : CryptoEngine → CryptoEngine) : (s.mapEng f).dbg = s.dbg := rfl
@[simp] theorem State.mapEng_nor (s : State) (f : CryptoEngine → CryptoEngine) : (s.mapEng f).nor = s.nor := rfl
@[simp] theorem State.mapEng_upd (s : State) (f : CryptoEngine → CryptoEngine) : (s.mapEng f).upd = s.upd := rfl

/-! State.raiseAsh -/
@[simp] theorem State.raiseAsh_pending (s : State) (n : Nat) : (s.raiseAsh n).pending = s.pending := rfl
@[simp] theorem State.raiseAsh_fresh (s : State) (n : Nat) : (s.raiseAsh n).fresh = s.fresh := rfl
@[simp] theorem State.raiseAsh_regs (s : State) (n : Nat) : (s.raiseAsh n).regs = s.regs := rfl
@[simp] theorem State.raiseAsh_latches (s : State) (n : Nat) : (s.raiseAsh n).latches = s.latches := rfl
@[simp] theorem State.raiseAsh_mem (s : State) (n : Nat) : (s.raiseAsh n).mem = s.mem := rfl
@[simp] theorem State.raiseAsh_losses (s : State) (n : Nat) : (s.raiseAsh n).losses = s.losses := rfl
@[simp] theorem State.raiseAsh_scraps (s : State) (n : Nat) : (s.raiseAsh n).scraps = s.scraps := rfl
@[simp] theorem State.raiseAsh_dirty (s : State) (n : Nat) : (s.raiseAsh n).dirty = s.dirty := rfl
@[simp] theorem State.raiseAsh_lk (s : State) (n : Nat) : (s.raiseAsh n).lk = s.lk := rfl
@[simp] theorem State.raiseAsh_a0 (s : State) (n : Nat) : (s.raiseAsh n).a0 = s.a0 := rfl
@[simp] theorem State.raiseAsh_a1 (s : State) (n : Nat) : (s.raiseAsh n).a1 = s.a1 := rfl
@[simp] theorem State.raiseAsh_ashc (s : State) (n : Nat) : (s.raiseAsh n).ashc = s.ashc := rfl
@[simp] theorem State.raiseAsh_sys (s : State) (n : Nat) : (s.raiseAsh n).sys = s.sys := rfl
@[simp] theorem State.raiseAsh_tb (s : State) (n : Nat) : (s.raiseAsh n).tb = s.tb := rfl
@[simp] theorem State.raiseAsh_nvm (s : State) (n : Nat) : (s.raiseAsh n).nvm = s.nvm := rfl
@[simp] theorem State.raiseAsh_cs (s : State) (n : Nat) : (s.raiseAsh n).cs = s.cs := rfl
@[simp] theorem State.raiseAsh_rtc (s : State) (n : Nat) : (s.raiseAsh n).rtc = s.rtc := rfl
@[simp] theorem State.raiseAsh_rfe (s : State) (n : Nat) : (s.raiseAsh n).rfe = s.rfe := rfl
@[simp] theorem State.raiseAsh_phy (s : State) (n : Nat) : (s.raiseAsh n).phy = s.phy := rfl
@[simp] theorem State.raiseAsh_slot (s : State) (n : Nat) : (s.raiseAsh n).slot = s.slot := rfl
@[simp] theorem State.raiseAsh_hop (s : State) (n : Nat) : (s.raiseAsh n).hop = s.hop := rfl
@[simp] theorem State.raiseAsh_ash (s : State) (n : Nat) : (s.raiseAsh n).ash = s.ash := rfl
@[simp] theorem State.raiseAsh_tw (s : State) (n : Nat) : (s.raiseAsh n).tw = s.tw := rfl
@[simp] theorem State.raiseAsh_gpio (s : State) (n : Nat) : (s.raiseAsh n).gpio = s.gpio := rfl
@[simp] theorem State.raiseAsh_adc (s : State) (n : Nat) : (s.raiseAsh n).adc = s.adc := rfl
@[simp] theorem State.raiseAsh_dali (s : State) (n : Nat) : (s.raiseAsh n).dali = s.dali := rfl
@[simp] theorem State.raiseAsh_hl (s : State) (n : Nat) : (s.raiseAsh n).hl = s.hl := rfl
@[simp] theorem State.raiseAsh_spim (s : State) (n : Nat) : (s.raiseAsh n).spim = s.spim := rfl
@[simp] theorem State.raiseAsh_i2c (s : State) (n : Nat) : (s.raiseAsh n).i2c = s.i2c := rfl
@[simp] theorem State.raiseAsh_dbg (s : State) (n : Nat) : (s.raiseAsh n).dbg = s.dbg := rfl
@[simp] theorem State.raiseAsh_nor (s : State) (n : Nat) : (s.raiseAsh n).nor = s.nor := rfl
@[simp] theorem State.raiseAsh_upd (s : State) (n : Nat) : (s.raiseAsh n).upd = s.upd := rfl

/-! State.unrelease -/
@[simp] theorem State.unrelease_pending (s : State) (n : Nat) : (s.unrelease n).pending = s.pending := rfl
@[simp] theorem State.unrelease_fresh (s : State) (n : Nat) : (s.unrelease n).fresh = s.fresh := rfl
@[simp] theorem State.unrelease_regs (s : State) (n : Nat) : (s.unrelease n).regs = s.regs := rfl
@[simp] theorem State.unrelease_latches (s : State) (n : Nat) : (s.unrelease n).latches = s.latches := rfl
@[simp] theorem State.unrelease_mem (s : State) (n : Nat) : (s.unrelease n).mem = s.mem := rfl
@[simp] theorem State.unrelease_losses (s : State) (n : Nat) : (s.unrelease n).losses = s.losses := rfl
@[simp] theorem State.unrelease_scraps (s : State) (n : Nat) : (s.unrelease n).scraps = s.scraps := rfl
@[simp] theorem State.unrelease_dirty (s : State) (n : Nat) : (s.unrelease n).dirty = s.dirty := rfl
@[simp] theorem State.unrelease_lk (s : State) (n : Nat) : (s.unrelease n).lk = s.lk := rfl
@[simp] theorem State.unrelease_a0 (s : State) (n : Nat) : (s.unrelease n).a0 = s.a0 := rfl
@[simp] theorem State.unrelease_a1 (s : State) (n : Nat) : (s.unrelease n).a1 = s.a1 := rfl
@[simp] theorem State.unrelease_ashc (s : State) (n : Nat) : (s.unrelease n).ashc = s.ashc := rfl
@[simp] theorem State.unrelease_sys (s : State) (n : Nat) : (s.unrelease n).sys = s.sys := rfl
@[simp] theorem State.unrelease_tb (s : State) (n : Nat) : (s.unrelease n).tb = s.tb := rfl
@[simp] theorem State.unrelease_nvm (s : State) (n : Nat) : (s.unrelease n).nvm = s.nvm := rfl
@[simp] theorem State.unrelease_cs (s : State) (n : Nat) : (s.unrelease n).cs = s.cs := rfl
@[simp] theorem State.unrelease_rtc (s : State) (n : Nat) : (s.unrelease n).rtc = s.rtc := rfl
@[simp] theorem State.unrelease_rfe (s : State) (n : Nat) : (s.unrelease n).rfe = s.rfe := rfl
@[simp] theorem State.unrelease_phy (s : State) (n : Nat) : (s.unrelease n).phy = s.phy := rfl
@[simp] theorem State.unrelease_slot (s : State) (n : Nat) : (s.unrelease n).slot = s.slot := rfl
@[simp] theorem State.unrelease_hop (s : State) (n : Nat) : (s.unrelease n).hop = s.hop := rfl
@[simp] theorem State.unrelease_ash (s : State) (n : Nat) : (s.unrelease n).ash = s.ash := rfl
@[simp] theorem State.unrelease_tw (s : State) (n : Nat) : (s.unrelease n).tw = s.tw := rfl
@[simp] theorem State.unrelease_gpio (s : State) (n : Nat) : (s.unrelease n).gpio = s.gpio := rfl
@[simp] theorem State.unrelease_adc (s : State) (n : Nat) : (s.unrelease n).adc = s.adc := rfl
@[simp] theorem State.unrelease_dali (s : State) (n : Nat) : (s.unrelease n).dali = s.dali := rfl
@[simp] theorem State.unrelease_hl (s : State) (n : Nat) : (s.unrelease n).hl = s.hl := rfl
@[simp] theorem State.unrelease_spim (s : State) (n : Nat) : (s.unrelease n).spim = s.spim := rfl
@[simp] theorem State.unrelease_i2c (s : State) (n : Nat) : (s.unrelease n).i2c = s.i2c := rfl
@[simp] theorem State.unrelease_dbg (s : State) (n : Nat) : (s.unrelease n).dbg = s.dbg := rfl
@[simp] theorem State.unrelease_nor (s : State) (n : Nat) : (s.unrelease n).nor = s.nor := rfl
@[simp] theorem State.unrelease_upd (s : State) (n : Nat) : (s.unrelease n).upd = s.upd := rfl

/-! State.setKey -/
@[simp] theorem State.setKey_pending (s : State) (i : Nat) (k : Option LinkKey) : (s.setKey i k).pending = s.pending := rfl
@[simp] theorem State.setKey_fresh (s : State) (i : Nat) (k : Option LinkKey) : (s.setKey i k).fresh = s.fresh := rfl
@[simp] theorem State.setKey_regs (s : State) (i : Nat) (k : Option LinkKey) : (s.setKey i k).regs = s.regs := rfl
@[simp] theorem State.setKey_latches (s : State) (i : Nat) (k : Option LinkKey) : (s.setKey i k).latches = s.latches := rfl
@[simp] theorem State.setKey_mem (s : State) (i : Nat) (k : Option LinkKey) : (s.setKey i k).mem = s.mem := rfl
@[simp] theorem State.setKey_losses (s : State) (i : Nat) (k : Option LinkKey) : (s.setKey i k).losses = s.losses := rfl
@[simp] theorem State.setKey_scraps (s : State) (i : Nat) (k : Option LinkKey) : (s.setKey i k).scraps = s.scraps := rfl
@[simp] theorem State.setKey_dirty (s : State) (i : Nat) (k : Option LinkKey) : (s.setKey i k).dirty = s.dirty := rfl
@[simp] theorem State.setKey_lk (s : State) (i : Nat) (k : Option LinkKey) : (s.setKey i k).lk = s.lk := rfl
@[simp] theorem State.setKey_a0 (s : State) (i : Nat) (k : Option LinkKey) : (s.setKey i k).a0 = s.a0 := rfl
@[simp] theorem State.setKey_a1 (s : State) (i : Nat) (k : Option LinkKey) : (s.setKey i k).a1 = s.a1 := rfl
@[simp] theorem State.setKey_ashc (s : State) (i : Nat) (k : Option LinkKey) : (s.setKey i k).ashc = s.ashc := rfl
@[simp] theorem State.setKey_sys (s : State) (i : Nat) (k : Option LinkKey) : (s.setKey i k).sys = s.sys := rfl
@[simp] theorem State.setKey_tb (s : State) (i : Nat) (k : Option LinkKey) : (s.setKey i k).tb = s.tb := rfl
@[simp] theorem State.setKey_intc (s : State) (i : Nat) (k : Option LinkKey) : (s.setKey i k).intc = s.intc := rfl
@[simp] theorem State.setKey_nvm (s : State) (i : Nat) (k : Option LinkKey) : (s.setKey i k).nvm = s.nvm := rfl
@[simp] theorem State.setKey_cs (s : State) (i : Nat) (k : Option LinkKey) : (s.setKey i k).cs = s.cs := rfl
@[simp] theorem State.setKey_rtc (s : State) (i : Nat) (k : Option LinkKey) : (s.setKey i k).rtc = s.rtc := rfl
@[simp] theorem State.setKey_rfe (s : State) (i : Nat) (k : Option LinkKey) : (s.setKey i k).rfe = s.rfe := rfl
@[simp] theorem State.setKey_phy (s : State) (i : Nat) (k : Option LinkKey) : (s.setKey i k).phy = s.phy := rfl
@[simp] theorem State.setKey_slot (s : State) (i : Nat) (k : Option LinkKey) : (s.setKey i k).slot = s.slot := rfl
@[simp] theorem State.setKey_hop (s : State) (i : Nat) (k : Option LinkKey) : (s.setKey i k).hop = s.hop := rfl
@[simp] theorem State.setKey_tw (s : State) (i : Nat) (k : Option LinkKey) : (s.setKey i k).tw = s.tw := rfl
@[simp] theorem State.setKey_gpio (s : State) (i : Nat) (k : Option LinkKey) : (s.setKey i k).gpio = s.gpio := rfl
@[simp] theorem State.setKey_adc (s : State) (i : Nat) (k : Option LinkKey) : (s.setKey i k).adc = s.adc := rfl
@[simp] theorem State.setKey_dali (s : State) (i : Nat) (k : Option LinkKey) : (s.setKey i k).dali = s.dali := rfl
@[simp] theorem State.setKey_hl (s : State) (i : Nat) (k : Option LinkKey) : (s.setKey i k).hl = s.hl := rfl
@[simp] theorem State.setKey_spim (s : State) (i : Nat) (k : Option LinkKey) : (s.setKey i k).spim = s.spim := rfl
@[simp] theorem State.setKey_i2c (s : State) (i : Nat) (k : Option LinkKey) : (s.setKey i k).i2c = s.i2c := rfl
@[simp] theorem State.setKey_dbg (s : State) (i : Nat) (k : Option LinkKey) : (s.setKey i k).dbg = s.dbg := rfl
@[simp] theorem State.setKey_nor (s : State) (i : Nat) (k : Option LinkKey) : (s.setKey i k).nor = s.nor := rfl
@[simp] theorem State.setKey_upd (s : State) (i : Nat) (k : Option LinkKey) : (s.setKey i k).upd = s.upd := rfl

/-! State.setStored -/
@[simp] theorem State.setStored_pending (s : State) (i : Nat) (k : Option LinkKey) : (s.setStored i k).pending = s.pending := rfl
@[simp] theorem State.setStored_fresh (s : State) (i : Nat) (k : Option LinkKey) : (s.setStored i k).fresh = s.fresh := rfl
@[simp] theorem State.setStored_regs (s : State) (i : Nat) (k : Option LinkKey) : (s.setStored i k).regs = s.regs := rfl
@[simp] theorem State.setStored_latches (s : State) (i : Nat) (k : Option LinkKey) : (s.setStored i k).latches = s.latches := rfl
@[simp] theorem State.setStored_mem (s : State) (i : Nat) (k : Option LinkKey) : (s.setStored i k).mem = s.mem := rfl
@[simp] theorem State.setStored_losses (s : State) (i : Nat) (k : Option LinkKey) : (s.setStored i k).losses = s.losses := rfl
@[simp] theorem State.setStored_scraps (s : State) (i : Nat) (k : Option LinkKey) : (s.setStored i k).scraps = s.scraps := rfl
@[simp] theorem State.setStored_dirty (s : State) (i : Nat) (k : Option LinkKey) : (s.setStored i k).dirty = s.dirty := rfl
@[simp] theorem State.setStored_lk (s : State) (i : Nat) (k : Option LinkKey) : (s.setStored i k).lk = s.lk := rfl
@[simp] theorem State.setStored_a0 (s : State) (i : Nat) (k : Option LinkKey) : (s.setStored i k).a0 = s.a0 := rfl
@[simp] theorem State.setStored_a1 (s : State) (i : Nat) (k : Option LinkKey) : (s.setStored i k).a1 = s.a1 := rfl
@[simp] theorem State.setStored_ashc (s : State) (i : Nat) (k : Option LinkKey) : (s.setStored i k).ashc = s.ashc := rfl
@[simp] theorem State.setStored_sys (s : State) (i : Nat) (k : Option LinkKey) : (s.setStored i k).sys = s.sys := rfl
@[simp] theorem State.setStored_tb (s : State) (i : Nat) (k : Option LinkKey) : (s.setStored i k).tb = s.tb := rfl
@[simp] theorem State.setStored_intc (s : State) (i : Nat) (k : Option LinkKey) : (s.setStored i k).intc = s.intc := rfl
@[simp] theorem State.setStored_nvm (s : State) (i : Nat) (k : Option LinkKey) : (s.setStored i k).nvm = s.nvm := rfl
@[simp] theorem State.setStored_cs (s : State) (i : Nat) (k : Option LinkKey) : (s.setStored i k).cs = s.cs := rfl
@[simp] theorem State.setStored_rtc (s : State) (i : Nat) (k : Option LinkKey) : (s.setStored i k).rtc = s.rtc := rfl
@[simp] theorem State.setStored_rfe (s : State) (i : Nat) (k : Option LinkKey) : (s.setStored i k).rfe = s.rfe := rfl
@[simp] theorem State.setStored_phy (s : State) (i : Nat) (k : Option LinkKey) : (s.setStored i k).phy = s.phy := rfl
@[simp] theorem State.setStored_slot (s : State) (i : Nat) (k : Option LinkKey) : (s.setStored i k).slot = s.slot := rfl
@[simp] theorem State.setStored_hop (s : State) (i : Nat) (k : Option LinkKey) : (s.setStored i k).hop = s.hop := rfl
@[simp] theorem State.setStored_tw (s : State) (i : Nat) (k : Option LinkKey) : (s.setStored i k).tw = s.tw := rfl
@[simp] theorem State.setStored_gpio (s : State) (i : Nat) (k : Option LinkKey) : (s.setStored i k).gpio = s.gpio := rfl
@[simp] theorem State.setStored_adc (s : State) (i : Nat) (k : Option LinkKey) : (s.setStored i k).adc = s.adc := rfl
@[simp] theorem State.setStored_dali (s : State) (i : Nat) (k : Option LinkKey) : (s.setStored i k).dali = s.dali := rfl
@[simp] theorem State.setStored_hl (s : State) (i : Nat) (k : Option LinkKey) : (s.setStored i k).hl = s.hl := rfl
@[simp] theorem State.setStored_spim (s : State) (i : Nat) (k : Option LinkKey) : (s.setStored i k).spim = s.spim := rfl
@[simp] theorem State.setStored_i2c (s : State) (i : Nat) (k : Option LinkKey) : (s.setStored i k).i2c = s.i2c := rfl
@[simp] theorem State.setStored_dbg (s : State) (i : Nat) (k : Option LinkKey) : (s.setStored i k).dbg = s.dbg := rfl
@[simp] theorem State.setStored_nor (s : State) (i : Nat) (k : Option LinkKey) : (s.setStored i k).nor = s.nor := rfl
@[simp] theorem State.setStored_upd (s : State) (i : Nat) (k : Option LinkKey) : (s.setStored i k).upd = s.upd := rfl

/-! State.mapDali -/
@[simp] theorem State.mapDali_pending (s : State) (f : DaliTx → DaliTx) : (s.mapDali f).pending = s.pending := rfl
@[simp] theorem State.mapDali_fresh (s : State) (f : DaliTx → DaliTx) : (s.mapDali f).fresh = s.fresh := rfl
@[simp] theorem State.mapDali_regs (s : State) (f : DaliTx → DaliTx) : (s.mapDali f).regs = s.regs := rfl
@[simp] theorem State.mapDali_latches (s : State) (f : DaliTx → DaliTx) : (s.mapDali f).latches = s.latches := rfl
@[simp] theorem State.mapDali_mem (s : State) (f : DaliTx → DaliTx) : (s.mapDali f).mem = s.mem := rfl
@[simp] theorem State.mapDali_losses (s : State) (f : DaliTx → DaliTx) : (s.mapDali f).losses = s.losses := rfl
@[simp] theorem State.mapDali_scraps (s : State) (f : DaliTx → DaliTx) : (s.mapDali f).scraps = s.scraps := rfl
@[simp] theorem State.mapDali_dirty (s : State) (f : DaliTx → DaliTx) : (s.mapDali f).dirty = s.dirty := rfl
@[simp] theorem State.mapDali_lk (s : State) (f : DaliTx → DaliTx) : (s.mapDali f).lk = s.lk := rfl
@[simp] theorem State.mapDali_a0 (s : State) (f : DaliTx → DaliTx) : (s.mapDali f).a0 = s.a0 := rfl
@[simp] theorem State.mapDali_a1 (s : State) (f : DaliTx → DaliTx) : (s.mapDali f).a1 = s.a1 := rfl
@[simp] theorem State.mapDali_ashc (s : State) (f : DaliTx → DaliTx) : (s.mapDali f).ashc = s.ashc := rfl
@[simp] theorem State.mapDali_sys (s : State) (f : DaliTx → DaliTx) : (s.mapDali f).sys = s.sys := rfl
@[simp] theorem State.mapDali_tb (s : State) (f : DaliTx → DaliTx) : (s.mapDali f).tb = s.tb := rfl
@[simp] theorem State.mapDali_intc (s : State) (f : DaliTx → DaliTx) : (s.mapDali f).intc = s.intc := rfl
@[simp] theorem State.mapDali_nvm (s : State) (f : DaliTx → DaliTx) : (s.mapDali f).nvm = s.nvm := rfl
@[simp] theorem State.mapDali_cs (s : State) (f : DaliTx → DaliTx) : (s.mapDali f).cs = s.cs := rfl
@[simp] theorem State.mapDali_rtc (s : State) (f : DaliTx → DaliTx) : (s.mapDali f).rtc = s.rtc := rfl
@[simp] theorem State.mapDali_rfe (s : State) (f : DaliTx → DaliTx) : (s.mapDali f).rfe = s.rfe := rfl
@[simp] theorem State.mapDali_phy (s : State) (f : DaliTx → DaliTx) : (s.mapDali f).phy = s.phy := rfl
@[simp] theorem State.mapDali_slot (s : State) (f : DaliTx → DaliTx) : (s.mapDali f).slot = s.slot := rfl
@[simp] theorem State.mapDali_hop (s : State) (f : DaliTx → DaliTx) : (s.mapDali f).hop = s.hop := rfl
@[simp] theorem State.mapDali_ash (s : State) (f : DaliTx → DaliTx) : (s.mapDali f).ash = s.ash := rfl
@[simp] theorem State.mapDali_tw (s : State) (f : DaliTx → DaliTx) : (s.mapDali f).tw = s.tw := rfl
@[simp] theorem State.mapDali_gpio (s : State) (f : DaliTx → DaliTx) : (s.mapDali f).gpio = s.gpio := rfl
@[simp] theorem State.mapDali_adc (s : State) (f : DaliTx → DaliTx) : (s.mapDali f).adc = s.adc := rfl
@[simp] theorem State.mapDali_hl (s : State) (f : DaliTx → DaliTx) : (s.mapDali f).hl = s.hl := rfl
@[simp] theorem State.mapDali_spim (s : State) (f : DaliTx → DaliTx) : (s.mapDali f).spim = s.spim := rfl
@[simp] theorem State.mapDali_i2c (s : State) (f : DaliTx → DaliTx) : (s.mapDali f).i2c = s.i2c := rfl
@[simp] theorem State.mapDali_dbg (s : State) (f : DaliTx → DaliTx) : (s.mapDali f).dbg = s.dbg := rfl
@[simp] theorem State.mapDali_nor (s : State) (f : DaliTx → DaliTx) : (s.mapDali f).nor = s.nor := rfl
@[simp] theorem State.mapDali_upd (s : State) (f : DaliTx → DaliTx) : (s.mapDali f).upd = s.upd := rfl

/-! State.setSpare -/
@[simp] theorem State.setSpare_pending (s : State) (r : Nat) (v : Word) : (s.setSpare r v).pending = s.pending := rfl
@[simp] theorem State.setSpare_fresh (s : State) (r : Nat) (v : Word) : (s.setSpare r v).fresh = s.fresh := rfl
@[simp] theorem State.setSpare_regs (s : State) (r : Nat) (v : Word) : (s.setSpare r v).regs = s.regs := rfl
@[simp] theorem State.setSpare_latches (s : State) (r : Nat) (v : Word) : (s.setSpare r v).latches = s.latches := rfl
@[simp] theorem State.setSpare_mem (s : State) (r : Nat) (v : Word) : (s.setSpare r v).mem = s.mem := rfl
@[simp] theorem State.setSpare_losses (s : State) (r : Nat) (v : Word) : (s.setSpare r v).losses = s.losses := rfl
@[simp] theorem State.setSpare_scraps (s : State) (r : Nat) (v : Word) : (s.setSpare r v).scraps = s.scraps := rfl
@[simp] theorem State.setSpare_dirty (s : State) (r : Nat) (v : Word) : (s.setSpare r v).dirty = s.dirty := rfl
@[simp] theorem State.setSpare_lk (s : State) (r : Nat) (v : Word) : (s.setSpare r v).lk = s.lk := rfl
@[simp] theorem State.setSpare_a0 (s : State) (r : Nat) (v : Word) : (s.setSpare r v).a0 = s.a0 := rfl
@[simp] theorem State.setSpare_a1 (s : State) (r : Nat) (v : Word) : (s.setSpare r v).a1 = s.a1 := rfl
@[simp] theorem State.setSpare_ashc (s : State) (r : Nat) (v : Word) : (s.setSpare r v).ashc = s.ashc := rfl
@[simp] theorem State.setSpare_sys (s : State) (r : Nat) (v : Word) : (s.setSpare r v).sys = s.sys := rfl
@[simp] theorem State.setSpare_tb (s : State) (r : Nat) (v : Word) : (s.setSpare r v).tb = s.tb := rfl
@[simp] theorem State.setSpare_intc (s : State) (r : Nat) (v : Word) : (s.setSpare r v).intc = s.intc := rfl
@[simp] theorem State.setSpare_cs (s : State) (r : Nat) (v : Word) : (s.setSpare r v).cs = s.cs := rfl
@[simp] theorem State.setSpare_rtc (s : State) (r : Nat) (v : Word) : (s.setSpare r v).rtc = s.rtc := rfl
@[simp] theorem State.setSpare_rfe (s : State) (r : Nat) (v : Word) : (s.setSpare r v).rfe = s.rfe := rfl
@[simp] theorem State.setSpare_phy (s : State) (r : Nat) (v : Word) : (s.setSpare r v).phy = s.phy := rfl
@[simp] theorem State.setSpare_slot (s : State) (r : Nat) (v : Word) : (s.setSpare r v).slot = s.slot := rfl
@[simp] theorem State.setSpare_hop (s : State) (r : Nat) (v : Word) : (s.setSpare r v).hop = s.hop := rfl
@[simp] theorem State.setSpare_ash (s : State) (r : Nat) (v : Word) : (s.setSpare r v).ash = s.ash := rfl
@[simp] theorem State.setSpare_tw (s : State) (r : Nat) (v : Word) : (s.setSpare r v).tw = s.tw := rfl
@[simp] theorem State.setSpare_gpio (s : State) (r : Nat) (v : Word) : (s.setSpare r v).gpio = s.gpio := rfl
@[simp] theorem State.setSpare_adc (s : State) (r : Nat) (v : Word) : (s.setSpare r v).adc = s.adc := rfl
@[simp] theorem State.setSpare_dali (s : State) (r : Nat) (v : Word) : (s.setSpare r v).dali = s.dali := rfl
@[simp] theorem State.setSpare_hl (s : State) (r : Nat) (v : Word) : (s.setSpare r v).hl = s.hl := rfl
@[simp] theorem State.setSpare_spim (s : State) (r : Nat) (v : Word) : (s.setSpare r v).spim = s.spim := rfl
@[simp] theorem State.setSpare_i2c (s : State) (r : Nat) (v : Word) : (s.setSpare r v).i2c = s.i2c := rfl
@[simp] theorem State.setSpare_dbg (s : State) (r : Nat) (v : Word) : (s.setSpare r v).dbg = s.dbg := rfl
@[simp] theorem State.setSpare_nor (s : State) (r : Nat) (v : Word) : (s.setSpare r v).nor = s.nor := rfl
@[simp] theorem State.setSpare_upd (s : State) (r : Nat) (v : Word) : (s.setSpare r v).upd = s.upd := rfl

/-! State.hlReply -/
@[simp] theorem State.hlReply_pending (s : State) (q : Nat) (n : Option Nat) : (s.hlReply q n).pending = s.pending := rfl
@[simp] theorem State.hlReply_fresh (s : State) (q : Nat) (n : Option Nat) : (s.hlReply q n).fresh = s.fresh := rfl
@[simp] theorem State.hlReply_regs (s : State) (q : Nat) (n : Option Nat) : (s.hlReply q n).regs = s.regs := rfl
@[simp] theorem State.hlReply_latches (s : State) (q : Nat) (n : Option Nat) : (s.hlReply q n).latches = s.latches := rfl
@[simp] theorem State.hlReply_mem (s : State) (q : Nat) (n : Option Nat) : (s.hlReply q n).mem = s.mem := rfl
@[simp] theorem State.hlReply_losses (s : State) (q : Nat) (n : Option Nat) : (s.hlReply q n).losses = s.losses := rfl
@[simp] theorem State.hlReply_scraps (s : State) (q : Nat) (n : Option Nat) : (s.hlReply q n).scraps = s.scraps := rfl
@[simp] theorem State.hlReply_dirty (s : State) (q : Nat) (n : Option Nat) : (s.hlReply q n).dirty = s.dirty := rfl
@[simp] theorem State.hlReply_lk (s : State) (q : Nat) (n : Option Nat) : (s.hlReply q n).lk = s.lk := rfl
@[simp] theorem State.hlReply_a0 (s : State) (q : Nat) (n : Option Nat) : (s.hlReply q n).a0 = s.a0 := rfl
@[simp] theorem State.hlReply_a1 (s : State) (q : Nat) (n : Option Nat) : (s.hlReply q n).a1 = s.a1 := rfl
@[simp] theorem State.hlReply_ashc (s : State) (q : Nat) (n : Option Nat) : (s.hlReply q n).ashc = s.ashc := rfl
@[simp] theorem State.hlReply_sys (s : State) (q : Nat) (n : Option Nat) : (s.hlReply q n).sys = s.sys := rfl
@[simp] theorem State.hlReply_tb (s : State) (q : Nat) (n : Option Nat) : (s.hlReply q n).tb = s.tb := rfl
@[simp] theorem State.hlReply_intc (s : State) (q : Nat) (n : Option Nat) : (s.hlReply q n).intc = s.intc := rfl
@[simp] theorem State.hlReply_nvm (s : State) (q : Nat) (n : Option Nat) : (s.hlReply q n).nvm = s.nvm := rfl
@[simp] theorem State.hlReply_cs (s : State) (q : Nat) (n : Option Nat) : (s.hlReply q n).cs = s.cs := rfl
@[simp] theorem State.hlReply_rtc (s : State) (q : Nat) (n : Option Nat) : (s.hlReply q n).rtc = s.rtc := rfl
@[simp] theorem State.hlReply_rfe (s : State) (q : Nat) (n : Option Nat) : (s.hlReply q n).rfe = s.rfe := rfl
@[simp] theorem State.hlReply_phy (s : State) (q : Nat) (n : Option Nat) : (s.hlReply q n).phy = s.phy := rfl
@[simp] theorem State.hlReply_slot (s : State) (q : Nat) (n : Option Nat) : (s.hlReply q n).slot = s.slot := rfl
@[simp] theorem State.hlReply_hop (s : State) (q : Nat) (n : Option Nat) : (s.hlReply q n).hop = s.hop := rfl
@[simp] theorem State.hlReply_ash (s : State) (q : Nat) (n : Option Nat) : (s.hlReply q n).ash = s.ash := rfl
@[simp] theorem State.hlReply_tw (s : State) (q : Nat) (n : Option Nat) : (s.hlReply q n).tw = s.tw := rfl
@[simp] theorem State.hlReply_gpio (s : State) (q : Nat) (n : Option Nat) : (s.hlReply q n).gpio = s.gpio := rfl
@[simp] theorem State.hlReply_adc (s : State) (q : Nat) (n : Option Nat) : (s.hlReply q n).adc = s.adc := rfl
@[simp] theorem State.hlReply_dali (s : State) (q : Nat) (n : Option Nat) : (s.hlReply q n).dali = s.dali := rfl
@[simp] theorem State.hlReply_spim (s : State) (q : Nat) (n : Option Nat) : (s.hlReply q n).spim = s.spim := rfl
@[simp] theorem State.hlReply_i2c (s : State) (q : Nat) (n : Option Nat) : (s.hlReply q n).i2c = s.i2c := rfl
@[simp] theorem State.hlReply_dbg (s : State) (q : Nat) (n : Option Nat) : (s.hlReply q n).dbg = s.dbg := rfl
@[simp] theorem State.hlReply_nor (s : State) (q : Nat) (n : Option Nat) : (s.hlReply q n).nor = s.nor := rfl
@[simp] theorem State.hlReply_upd (s : State) (q : Nat) (n : Option Nat) : (s.hlReply q n).upd = s.upd := rfl

/-! State.served -/
@[simp] theorem State.served_pending (s : State) (m : Master) : (s.served m).pending = s.pending := rfl
@[simp] theorem State.served_fresh (s : State) (m : Master) : (s.served m).fresh = s.fresh := rfl
@[simp] theorem State.served_regs (s : State) (m : Master) : (s.served m).regs = s.regs := rfl
@[simp] theorem State.served_latches (s : State) (m : Master) : (s.served m).latches = s.latches := rfl
@[simp] theorem State.served_mem (s : State) (m : Master) : (s.served m).mem = s.mem := rfl
@[simp] theorem State.served_losses (s : State) (m : Master) : (s.served m).losses = s.losses := rfl
@[simp] theorem State.served_scraps (s : State) (m : Master) : (s.served m).scraps = s.scraps := rfl
@[simp] theorem State.served_dirty (s : State) (m : Master) : (s.served m).dirty = s.dirty := rfl
@[simp] theorem State.served_lk (s : State) (m : Master) : (s.served m).lk = s.lk := rfl
@[simp] theorem State.served_a0 (s : State) (m : Master) : (s.served m).a0 = s.a0 := rfl
@[simp] theorem State.served_a1 (s : State) (m : Master) : (s.served m).a1 = s.a1 := rfl
@[simp] theorem State.served_ashc (s : State) (m : Master) : (s.served m).ashc = s.ashc := rfl
@[simp] theorem State.served_tb (s : State) (m : Master) : (s.served m).tb = s.tb := rfl
@[simp] theorem State.served_intc (s : State) (m : Master) : (s.served m).intc = s.intc := rfl
@[simp] theorem State.served_nvm (s : State) (m : Master) : (s.served m).nvm = s.nvm := rfl
@[simp] theorem State.served_cs (s : State) (m : Master) : (s.served m).cs = s.cs := rfl
@[simp] theorem State.served_rtc (s : State) (m : Master) : (s.served m).rtc = s.rtc := rfl
@[simp] theorem State.served_rfe (s : State) (m : Master) : (s.served m).rfe = s.rfe := rfl
@[simp] theorem State.served_phy (s : State) (m : Master) : (s.served m).phy = s.phy := rfl
@[simp] theorem State.served_slot (s : State) (m : Master) : (s.served m).slot = s.slot := rfl
@[simp] theorem State.served_hop (s : State) (m : Master) : (s.served m).hop = s.hop := rfl
@[simp] theorem State.served_ash (s : State) (m : Master) : (s.served m).ash = s.ash := rfl
@[simp] theorem State.served_tw (s : State) (m : Master) : (s.served m).tw = s.tw := rfl
@[simp] theorem State.served_gpio (s : State) (m : Master) : (s.served m).gpio = s.gpio := rfl
@[simp] theorem State.served_adc (s : State) (m : Master) : (s.served m).adc = s.adc := rfl
@[simp] theorem State.served_dali (s : State) (m : Master) : (s.served m).dali = s.dali := rfl
@[simp] theorem State.served_hl (s : State) (m : Master) : (s.served m).hl = s.hl := rfl
@[simp] theorem State.served_spim (s : State) (m : Master) : (s.served m).spim = s.spim := rfl
@[simp] theorem State.served_i2c (s : State) (m : Master) : (s.served m).i2c = s.i2c := rfl
@[simp] theorem State.served_dbg (s : State) (m : Master) : (s.served m).dbg = s.dbg := rfl
@[simp] theorem State.served_nor (s : State) (m : Master) : (s.served m).nor = s.nor := rfl
@[simp] theorem State.served_upd (s : State) (m : Master) : (s.served m).upd = s.upd := rfl

/-! State.wdRestart -/
@[simp] theorem State.wdRestart_pending (s : State) : (s.wdRestart).pending = s.pending := rfl
@[simp] theorem State.wdRestart_fresh (s : State) : (s.wdRestart).fresh = s.fresh := rfl
@[simp] theorem State.wdRestart_regs (s : State) : (s.wdRestart).regs = s.regs := rfl
@[simp] theorem State.wdRestart_latches (s : State) : (s.wdRestart).latches = s.latches := rfl
@[simp] theorem State.wdRestart_mem (s : State) : (s.wdRestart).mem = s.mem := rfl
@[simp] theorem State.wdRestart_losses (s : State) : (s.wdRestart).losses = s.losses := rfl
@[simp] theorem State.wdRestart_scraps (s : State) : (s.wdRestart).scraps = s.scraps := rfl
@[simp] theorem State.wdRestart_dirty (s : State) : (s.wdRestart).dirty = s.dirty := rfl
@[simp] theorem State.wdRestart_lk (s : State) : (s.wdRestart).lk = s.lk := rfl
@[simp] theorem State.wdRestart_a0 (s : State) : (s.wdRestart).a0 = s.a0 := rfl
@[simp] theorem State.wdRestart_a1 (s : State) : (s.wdRestart).a1 = s.a1 := rfl
@[simp] theorem State.wdRestart_ashc (s : State) : (s.wdRestart).ashc = s.ashc := rfl
@[simp] theorem State.wdRestart_tb (s : State) : (s.wdRestart).tb = s.tb := rfl
@[simp] theorem State.wdRestart_intc (s : State) : (s.wdRestart).intc = s.intc := rfl
@[simp] theorem State.wdRestart_nvm (s : State) : (s.wdRestart).nvm = s.nvm := rfl
@[simp] theorem State.wdRestart_cs (s : State) : (s.wdRestart).cs = s.cs := rfl
@[simp] theorem State.wdRestart_rtc (s : State) : (s.wdRestart).rtc = s.rtc := rfl
@[simp] theorem State.wdRestart_rfe (s : State) : (s.wdRestart).rfe = s.rfe := rfl
@[simp] theorem State.wdRestart_phy (s : State) : (s.wdRestart).phy = s.phy := rfl
@[simp] theorem State.wdRestart_slot (s : State) : (s.wdRestart).slot = s.slot := rfl
@[simp] theorem State.wdRestart_hop (s : State) : (s.wdRestart).hop = s.hop := rfl
@[simp] theorem State.wdRestart_ash (s : State) : (s.wdRestart).ash = s.ash := rfl
@[simp] theorem State.wdRestart_tw (s : State) : (s.wdRestart).tw = s.tw := rfl
@[simp] theorem State.wdRestart_gpio (s : State) : (s.wdRestart).gpio = s.gpio := rfl
@[simp] theorem State.wdRestart_adc (s : State) : (s.wdRestart).adc = s.adc := rfl
@[simp] theorem State.wdRestart_dali (s : State) : (s.wdRestart).dali = s.dali := rfl
@[simp] theorem State.wdRestart_hl (s : State) : (s.wdRestart).hl = s.hl := rfl
@[simp] theorem State.wdRestart_spim (s : State) : (s.wdRestart).spim = s.spim := rfl
@[simp] theorem State.wdRestart_i2c (s : State) : (s.wdRestart).i2c = s.i2c := rfl
@[simp] theorem State.wdRestart_dbg (s : State) : (s.wdRestart).dbg = s.dbg := rfl
@[simp] theorem State.wdRestart_nor (s : State) : (s.wdRestart).nor = s.nor := rfl
@[simp] theorem State.wdRestart_upd (s : State) : (s.wdRestart).upd = s.upd := rfl

/-! State.setUpdCount -/
@[simp] theorem State.setUpdCount_pending (s : State) (n : Option Nat) : (s.setUpdCount n).pending = s.pending := rfl
@[simp] theorem State.setUpdCount_fresh (s : State) (n : Option Nat) : (s.setUpdCount n).fresh = s.fresh := rfl
@[simp] theorem State.setUpdCount_regs (s : State) (n : Option Nat) : (s.setUpdCount n).regs = s.regs := rfl
@[simp] theorem State.setUpdCount_latches (s : State) (n : Option Nat) : (s.setUpdCount n).latches = s.latches := rfl
@[simp] theorem State.setUpdCount_mem (s : State) (n : Option Nat) : (s.setUpdCount n).mem = s.mem := rfl
@[simp] theorem State.setUpdCount_losses (s : State) (n : Option Nat) : (s.setUpdCount n).losses = s.losses := rfl
@[simp] theorem State.setUpdCount_scraps (s : State) (n : Option Nat) : (s.setUpdCount n).scraps = s.scraps := rfl
@[simp] theorem State.setUpdCount_dirty (s : State) (n : Option Nat) : (s.setUpdCount n).dirty = s.dirty := rfl
@[simp] theorem State.setUpdCount_lk (s : State) (n : Option Nat) : (s.setUpdCount n).lk = s.lk := rfl
@[simp] theorem State.setUpdCount_a0 (s : State) (n : Option Nat) : (s.setUpdCount n).a0 = s.a0 := rfl
@[simp] theorem State.setUpdCount_a1 (s : State) (n : Option Nat) : (s.setUpdCount n).a1 = s.a1 := rfl
@[simp] theorem State.setUpdCount_ashc (s : State) (n : Option Nat) : (s.setUpdCount n).ashc = s.ashc := rfl
@[simp] theorem State.setUpdCount_sys (s : State) (n : Option Nat) : (s.setUpdCount n).sys = s.sys := rfl
@[simp] theorem State.setUpdCount_tb (s : State) (n : Option Nat) : (s.setUpdCount n).tb = s.tb := rfl
@[simp] theorem State.setUpdCount_intc (s : State) (n : Option Nat) : (s.setUpdCount n).intc = s.intc := rfl
@[simp] theorem State.setUpdCount_nvm (s : State) (n : Option Nat) : (s.setUpdCount n).nvm = s.nvm := rfl
@[simp] theorem State.setUpdCount_cs (s : State) (n : Option Nat) : (s.setUpdCount n).cs = s.cs := rfl
@[simp] theorem State.setUpdCount_rtc (s : State) (n : Option Nat) : (s.setUpdCount n).rtc = s.rtc := rfl
@[simp] theorem State.setUpdCount_rfe (s : State) (n : Option Nat) : (s.setUpdCount n).rfe = s.rfe := rfl
@[simp] theorem State.setUpdCount_phy (s : State) (n : Option Nat) : (s.setUpdCount n).phy = s.phy := rfl
@[simp] theorem State.setUpdCount_slot (s : State) (n : Option Nat) : (s.setUpdCount n).slot = s.slot := rfl
@[simp] theorem State.setUpdCount_hop (s : State) (n : Option Nat) : (s.setUpdCount n).hop = s.hop := rfl
@[simp] theorem State.setUpdCount_ash (s : State) (n : Option Nat) : (s.setUpdCount n).ash = s.ash := rfl
@[simp] theorem State.setUpdCount_tw (s : State) (n : Option Nat) : (s.setUpdCount n).tw = s.tw := rfl
@[simp] theorem State.setUpdCount_gpio (s : State) (n : Option Nat) : (s.setUpdCount n).gpio = s.gpio := rfl
@[simp] theorem State.setUpdCount_adc (s : State) (n : Option Nat) : (s.setUpdCount n).adc = s.adc := rfl
@[simp] theorem State.setUpdCount_dali (s : State) (n : Option Nat) : (s.setUpdCount n).dali = s.dali := rfl
@[simp] theorem State.setUpdCount_hl (s : State) (n : Option Nat) : (s.setUpdCount n).hl = s.hl := rfl
@[simp] theorem State.setUpdCount_spim (s : State) (n : Option Nat) : (s.setUpdCount n).spim = s.spim := rfl
@[simp] theorem State.setUpdCount_i2c (s : State) (n : Option Nat) : (s.setUpdCount n).i2c = s.i2c := rfl
@[simp] theorem State.setUpdCount_dbg (s : State) (n : Option Nat) : (s.setUpdCount n).dbg = s.dbg := rfl
@[simp] theorem State.setUpdCount_nor (s : State) (n : Option Nat) : (s.setUpdCount n).nor = s.nor := rfl

/-! State.noteBus -/
@[simp] theorem State.noteBus_pending (s : State) (err : Bool) : (s.noteBus err).pending = s.pending := rfl
@[simp] theorem State.noteBus_fresh (s : State) (err : Bool) : (s.noteBus err).fresh = s.fresh := rfl
@[simp] theorem State.noteBus_regs (s : State) (err : Bool) : (s.noteBus err).regs = s.regs := rfl
@[simp] theorem State.noteBus_latches (s : State) (err : Bool) : (s.noteBus err).latches = s.latches := rfl
@[simp] theorem State.noteBus_mem (s : State) (err : Bool) : (s.noteBus err).mem = s.mem := rfl
@[simp] theorem State.noteBus_losses (s : State) (err : Bool) : (s.noteBus err).losses = s.losses := rfl
@[simp] theorem State.noteBus_scraps (s : State) (err : Bool) : (s.noteBus err).scraps = s.scraps := rfl
@[simp] theorem State.noteBus_dirty (s : State) (err : Bool) : (s.noteBus err).dirty = s.dirty := rfl
@[simp] theorem State.noteBus_lk (s : State) (err : Bool) : (s.noteBus err).lk = s.lk := rfl
@[simp] theorem State.noteBus_a0 (s : State) (err : Bool) : (s.noteBus err).a0 = s.a0 := rfl
@[simp] theorem State.noteBus_a1 (s : State) (err : Bool) : (s.noteBus err).a1 = s.a1 := rfl
@[simp] theorem State.noteBus_ashc (s : State) (err : Bool) : (s.noteBus err).ashc = s.ashc := rfl
@[simp] theorem State.noteBus_tb (s : State) (err : Bool) : (s.noteBus err).tb = s.tb := rfl
@[simp] theorem State.noteBus_intc (s : State) (err : Bool) : (s.noteBus err).intc = s.intc := rfl
@[simp] theorem State.noteBus_nvm (s : State) (err : Bool) : (s.noteBus err).nvm = s.nvm := rfl
@[simp] theorem State.noteBus_cs (s : State) (err : Bool) : (s.noteBus err).cs = s.cs := rfl
@[simp] theorem State.noteBus_rtc (s : State) (err : Bool) : (s.noteBus err).rtc = s.rtc := rfl
@[simp] theorem State.noteBus_rfe (s : State) (err : Bool) : (s.noteBus err).rfe = s.rfe := rfl
@[simp] theorem State.noteBus_phy (s : State) (err : Bool) : (s.noteBus err).phy = s.phy := rfl
@[simp] theorem State.noteBus_slot (s : State) (err : Bool) : (s.noteBus err).slot = s.slot := rfl
@[simp] theorem State.noteBus_hop (s : State) (err : Bool) : (s.noteBus err).hop = s.hop := rfl
@[simp] theorem State.noteBus_ash (s : State) (err : Bool) : (s.noteBus err).ash = s.ash := rfl
@[simp] theorem State.noteBus_tw (s : State) (err : Bool) : (s.noteBus err).tw = s.tw := rfl
@[simp] theorem State.noteBus_gpio (s : State) (err : Bool) : (s.noteBus err).gpio = s.gpio := rfl
@[simp] theorem State.noteBus_adc (s : State) (err : Bool) : (s.noteBus err).adc = s.adc := rfl
@[simp] theorem State.noteBus_dali (s : State) (err : Bool) : (s.noteBus err).dali = s.dali := rfl
@[simp] theorem State.noteBus_hl (s : State) (err : Bool) : (s.noteBus err).hl = s.hl := rfl
@[simp] theorem State.noteBus_spim (s : State) (err : Bool) : (s.noteBus err).spim = s.spim := rfl
@[simp] theorem State.noteBus_i2c (s : State) (err : Bool) : (s.noteBus err).i2c = s.i2c := rfl
@[simp] theorem State.noteBus_dbg (s : State) (err : Bool) : (s.noteBus err).dbg = s.dbg := rfl
@[simp] theorem State.noteBus_nor (s : State) (err : Bool) : (s.noteBus err).nor = s.nor := rfl
@[simp] theorem State.noteBus_upd (s : State) (err : Bool) : (s.noteBus err).upd = s.upd := rfl

/-! State.setPath -/
@[simp] theorem State.setPath_pending (s : State) (p1 : Bool) (v : Nat) : (s.setPath p1 v).pending = s.pending := rfl
@[simp] theorem State.setPath_fresh (s : State) (p1 : Bool) (v : Nat) : (s.setPath p1 v).fresh = s.fresh := rfl
@[simp] theorem State.setPath_latches (s : State) (p1 : Bool) (v : Nat) : (s.setPath p1 v).latches = s.latches := rfl
@[simp] theorem State.setPath_mem (s : State) (p1 : Bool) (v : Nat) : (s.setPath p1 v).mem = s.mem := rfl
@[simp] theorem State.setPath_losses (s : State) (p1 : Bool) (v : Nat) : (s.setPath p1 v).losses = s.losses := rfl
@[simp] theorem State.setPath_scraps (s : State) (p1 : Bool) (v : Nat) : (s.setPath p1 v).scraps = s.scraps := rfl
@[simp] theorem State.setPath_dirty (s : State) (p1 : Bool) (v : Nat) : (s.setPath p1 v).dirty = s.dirty := rfl
@[simp] theorem State.setPath_lk (s : State) (p1 : Bool) (v : Nat) : (s.setPath p1 v).lk = s.lk := rfl
@[simp] theorem State.setPath_a0 (s : State) (p1 : Bool) (v : Nat) : (s.setPath p1 v).a0 = s.a0 := rfl
@[simp] theorem State.setPath_a1 (s : State) (p1 : Bool) (v : Nat) : (s.setPath p1 v).a1 = s.a1 := rfl
@[simp] theorem State.setPath_ashc (s : State) (p1 : Bool) (v : Nat) : (s.setPath p1 v).ashc = s.ashc := rfl
@[simp] theorem State.setPath_sys (s : State) (p1 : Bool) (v : Nat) : (s.setPath p1 v).sys = s.sys := rfl
@[simp] theorem State.setPath_tb (s : State) (p1 : Bool) (v : Nat) : (s.setPath p1 v).tb = s.tb := rfl
@[simp] theorem State.setPath_intc (s : State) (p1 : Bool) (v : Nat) : (s.setPath p1 v).intc = s.intc := rfl
@[simp] theorem State.setPath_nvm (s : State) (p1 : Bool) (v : Nat) : (s.setPath p1 v).nvm = s.nvm := rfl
@[simp] theorem State.setPath_cs (s : State) (p1 : Bool) (v : Nat) : (s.setPath p1 v).cs = s.cs := rfl
@[simp] theorem State.setPath_rtc (s : State) (p1 : Bool) (v : Nat) : (s.setPath p1 v).rtc = s.rtc := rfl
@[simp] theorem State.setPath_rfe (s : State) (p1 : Bool) (v : Nat) : (s.setPath p1 v).rfe = s.rfe := rfl
@[simp] theorem State.setPath_phy (s : State) (p1 : Bool) (v : Nat) : (s.setPath p1 v).phy = s.phy := rfl
@[simp] theorem State.setPath_slot (s : State) (p1 : Bool) (v : Nat) : (s.setPath p1 v).slot = s.slot := rfl
@[simp] theorem State.setPath_hop (s : State) (p1 : Bool) (v : Nat) : (s.setPath p1 v).hop = s.hop := rfl
@[simp] theorem State.setPath_ash (s : State) (p1 : Bool) (v : Nat) : (s.setPath p1 v).ash = s.ash := rfl
@[simp] theorem State.setPath_tw (s : State) (p1 : Bool) (v : Nat) : (s.setPath p1 v).tw = s.tw := rfl
@[simp] theorem State.setPath_gpio (s : State) (p1 : Bool) (v : Nat) : (s.setPath p1 v).gpio = s.gpio := rfl
@[simp] theorem State.setPath_adc (s : State) (p1 : Bool) (v : Nat) : (s.setPath p1 v).adc = s.adc := rfl
@[simp] theorem State.setPath_dali (s : State) (p1 : Bool) (v : Nat) : (s.setPath p1 v).dali = s.dali := rfl
@[simp] theorem State.setPath_hl (s : State) (p1 : Bool) (v : Nat) : (s.setPath p1 v).hl = s.hl := rfl
@[simp] theorem State.setPath_spim (s : State) (p1 : Bool) (v : Nat) : (s.setPath p1 v).spim = s.spim := rfl
@[simp] theorem State.setPath_i2c (s : State) (p1 : Bool) (v : Nat) : (s.setPath p1 v).i2c = s.i2c := rfl
@[simp] theorem State.setPath_dbg (s : State) (p1 : Bool) (v : Nat) : (s.setPath p1 v).dbg = s.dbg := rfl
@[simp] theorem State.setPath_nor (s : State) (p1 : Bool) (v : Nat) : (s.setPath p1 v).nor = s.nor := rfl
@[simp] theorem State.setPath_upd (s : State) (p1 : Bool) (v : Nat) : (s.setPath p1 v).upd = s.upd := rfl

/-! State.buffer -/
@[simp] theorem State.buffer_pending (s : State) (row : Nat) : (s.buffer row).pending = s.pending := rfl
@[simp] theorem State.buffer_fresh (s : State) (row : Nat) : (s.buffer row).fresh = s.fresh := rfl
@[simp] theorem State.buffer_regs (s : State) (row : Nat) : (s.buffer row).regs = s.regs := rfl
@[simp] theorem State.buffer_latches (s : State) (row : Nat) : (s.buffer row).latches = s.latches := rfl
@[simp] theorem State.buffer_mem (s : State) (row : Nat) : (s.buffer row).mem = s.mem := rfl
@[simp] theorem State.buffer_losses (s : State) (row : Nat) : (s.buffer row).losses = s.losses := rfl
@[simp] theorem State.buffer_scraps (s : State) (row : Nat) : (s.buffer row).scraps = s.scraps := rfl
@[simp] theorem State.buffer_dirty (s : State) (row : Nat) : (s.buffer row).dirty = s.dirty := rfl
@[simp] theorem State.buffer_lk (s : State) (row : Nat) : (s.buffer row).lk = s.lk := rfl
@[simp] theorem State.buffer_a0 (s : State) (row : Nat) : (s.buffer row).a0 = s.a0 := rfl
@[simp] theorem State.buffer_a1 (s : State) (row : Nat) : (s.buffer row).a1 = s.a1 := rfl
@[simp] theorem State.buffer_ashc (s : State) (row : Nat) : (s.buffer row).ashc = s.ashc := rfl
@[simp] theorem State.buffer_sys (s : State) (row : Nat) : (s.buffer row).sys = s.sys := rfl
@[simp] theorem State.buffer_tb (s : State) (row : Nat) : (s.buffer row).tb = s.tb := rfl
@[simp] theorem State.buffer_intc (s : State) (row : Nat) : (s.buffer row).intc = s.intc := rfl
@[simp] theorem State.buffer_cs (s : State) (row : Nat) : (s.buffer row).cs = s.cs := rfl
@[simp] theorem State.buffer_rtc (s : State) (row : Nat) : (s.buffer row).rtc = s.rtc := rfl
@[simp] theorem State.buffer_rfe (s : State) (row : Nat) : (s.buffer row).rfe = s.rfe := rfl
@[simp] theorem State.buffer_phy (s : State) (row : Nat) : (s.buffer row).phy = s.phy := rfl
@[simp] theorem State.buffer_slot (s : State) (row : Nat) : (s.buffer row).slot = s.slot := rfl
@[simp] theorem State.buffer_hop (s : State) (row : Nat) : (s.buffer row).hop = s.hop := rfl
@[simp] theorem State.buffer_ash (s : State) (row : Nat) : (s.buffer row).ash = s.ash := rfl
@[simp] theorem State.buffer_tw (s : State) (row : Nat) : (s.buffer row).tw = s.tw := rfl
@[simp] theorem State.buffer_gpio (s : State) (row : Nat) : (s.buffer row).gpio = s.gpio := rfl
@[simp] theorem State.buffer_adc (s : State) (row : Nat) : (s.buffer row).adc = s.adc := rfl
@[simp] theorem State.buffer_dali (s : State) (row : Nat) : (s.buffer row).dali = s.dali := rfl
@[simp] theorem State.buffer_hl (s : State) (row : Nat) : (s.buffer row).hl = s.hl := rfl
@[simp] theorem State.buffer_spim (s : State) (row : Nat) : (s.buffer row).spim = s.spim := rfl
@[simp] theorem State.buffer_i2c (s : State) (row : Nat) : (s.buffer row).i2c = s.i2c := rfl
@[simp] theorem State.buffer_dbg (s : State) (row : Nat) : (s.buffer row).dbg = s.dbg := rfl
@[simp] theorem State.buffer_nor (s : State) (row : Nat) : (s.buffer row).nor = s.nor := rfl
@[simp] theorem State.buffer_upd (s : State) (row : Nat) : (s.buffer row).upd = s.upd := rfl

/-! State.unbuffer -/
@[simp] theorem State.unbuffer_pending (s : State) (row : Nat) : (s.unbuffer row).pending = s.pending := rfl
@[simp] theorem State.unbuffer_fresh (s : State) (row : Nat) : (s.unbuffer row).fresh = s.fresh := rfl
@[simp] theorem State.unbuffer_regs (s : State) (row : Nat) : (s.unbuffer row).regs = s.regs := rfl
@[simp] theorem State.unbuffer_latches (s : State) (row : Nat) : (s.unbuffer row).latches = s.latches := rfl
@[simp] theorem State.unbuffer_mem (s : State) (row : Nat) : (s.unbuffer row).mem = s.mem := rfl
@[simp] theorem State.unbuffer_losses (s : State) (row : Nat) : (s.unbuffer row).losses = s.losses := rfl
@[simp] theorem State.unbuffer_scraps (s : State) (row : Nat) : (s.unbuffer row).scraps = s.scraps := rfl
@[simp] theorem State.unbuffer_dirty (s : State) (row : Nat) : (s.unbuffer row).dirty = s.dirty := rfl
@[simp] theorem State.unbuffer_lk (s : State) (row : Nat) : (s.unbuffer row).lk = s.lk := rfl
@[simp] theorem State.unbuffer_a0 (s : State) (row : Nat) : (s.unbuffer row).a0 = s.a0 := rfl
@[simp] theorem State.unbuffer_a1 (s : State) (row : Nat) : (s.unbuffer row).a1 = s.a1 := rfl
@[simp] theorem State.unbuffer_ashc (s : State) (row : Nat) : (s.unbuffer row).ashc = s.ashc := rfl
@[simp] theorem State.unbuffer_sys (s : State) (row : Nat) : (s.unbuffer row).sys = s.sys := rfl
@[simp] theorem State.unbuffer_tb (s : State) (row : Nat) : (s.unbuffer row).tb = s.tb := rfl
@[simp] theorem State.unbuffer_intc (s : State) (row : Nat) : (s.unbuffer row).intc = s.intc := rfl
@[simp] theorem State.unbuffer_cs (s : State) (row : Nat) : (s.unbuffer row).cs = s.cs := rfl
@[simp] theorem State.unbuffer_rtc (s : State) (row : Nat) : (s.unbuffer row).rtc = s.rtc := rfl
@[simp] theorem State.unbuffer_rfe (s : State) (row : Nat) : (s.unbuffer row).rfe = s.rfe := rfl
@[simp] theorem State.unbuffer_phy (s : State) (row : Nat) : (s.unbuffer row).phy = s.phy := rfl
@[simp] theorem State.unbuffer_slot (s : State) (row : Nat) : (s.unbuffer row).slot = s.slot := rfl
@[simp] theorem State.unbuffer_hop (s : State) (row : Nat) : (s.unbuffer row).hop = s.hop := rfl
@[simp] theorem State.unbuffer_ash (s : State) (row : Nat) : (s.unbuffer row).ash = s.ash := rfl
@[simp] theorem State.unbuffer_tw (s : State) (row : Nat) : (s.unbuffer row).tw = s.tw := rfl
@[simp] theorem State.unbuffer_gpio (s : State) (row : Nat) : (s.unbuffer row).gpio = s.gpio := rfl
@[simp] theorem State.unbuffer_adc (s : State) (row : Nat) : (s.unbuffer row).adc = s.adc := rfl
@[simp] theorem State.unbuffer_dali (s : State) (row : Nat) : (s.unbuffer row).dali = s.dali := rfl
@[simp] theorem State.unbuffer_hl (s : State) (row : Nat) : (s.unbuffer row).hl = s.hl := rfl
@[simp] theorem State.unbuffer_spim (s : State) (row : Nat) : (s.unbuffer row).spim = s.spim := rfl
@[simp] theorem State.unbuffer_i2c (s : State) (row : Nat) : (s.unbuffer row).i2c = s.i2c := rfl
@[simp] theorem State.unbuffer_dbg (s : State) (row : Nat) : (s.unbuffer row).dbg = s.dbg := rfl
@[simp] theorem State.unbuffer_nor (s : State) (row : Nat) : (s.unbuffer row).nor = s.nor := rfl
@[simp] theorem State.unbuffer_upd (s : State) (row : Nat) : (s.unbuffer row).upd = s.upd := rfl

/-! State.thaw -/
@[simp] theorem State.thaw_pending (s : State) (m : Master) : (s.thaw m).pending = s.pending := rfl
@[simp] theorem State.thaw_fresh (s : State) (m : Master) : (s.thaw m).fresh = s.fresh := rfl
@[simp] theorem State.thaw_regs (s : State) (m : Master) : (s.thaw m).regs = s.regs := rfl
@[simp] theorem State.thaw_latches (s : State) (m : Master) : (s.thaw m).latches = s.latches := rfl
@[simp] theorem State.thaw_mem (s : State) (m : Master) : (s.thaw m).mem = s.mem := rfl
@[simp] theorem State.thaw_losses (s : State) (m : Master) : (s.thaw m).losses = s.losses := rfl
@[simp] theorem State.thaw_scraps (s : State) (m : Master) : (s.thaw m).scraps = s.scraps := rfl
@[simp] theorem State.thaw_dirty (s : State) (m : Master) : (s.thaw m).dirty = s.dirty := rfl
@[simp] theorem State.thaw_lk (s : State) (m : Master) : (s.thaw m).lk = s.lk := rfl
@[simp] theorem State.thaw_a0 (s : State) (m : Master) : (s.thaw m).a0 = s.a0 := rfl
@[simp] theorem State.thaw_a1 (s : State) (m : Master) : (s.thaw m).a1 = s.a1 := rfl
@[simp] theorem State.thaw_ashc (s : State) (m : Master) : (s.thaw m).ashc = s.ashc := rfl
@[simp] theorem State.thaw_sys (s : State) (m : Master) : (s.thaw m).sys = s.sys := rfl
@[simp] theorem State.thaw_tb (s : State) (m : Master) : (s.thaw m).tb = s.tb := rfl
@[simp] theorem State.thaw_intc (s : State) (m : Master) : (s.thaw m).intc = s.intc := rfl
@[simp] theorem State.thaw_nvm (s : State) (m : Master) : (s.thaw m).nvm = s.nvm := rfl
@[simp] theorem State.thaw_cs (s : State) (m : Master) : (s.thaw m).cs = s.cs := rfl
@[simp] theorem State.thaw_rfe (s : State) (m : Master) : (s.thaw m).rfe = s.rfe := rfl
@[simp] theorem State.thaw_phy (s : State) (m : Master) : (s.thaw m).phy = s.phy := rfl
@[simp] theorem State.thaw_slot (s : State) (m : Master) : (s.thaw m).slot = s.slot := rfl
@[simp] theorem State.thaw_hop (s : State) (m : Master) : (s.thaw m).hop = s.hop := rfl
@[simp] theorem State.thaw_ash (s : State) (m : Master) : (s.thaw m).ash = s.ash := rfl
@[simp] theorem State.thaw_tw (s : State) (m : Master) : (s.thaw m).tw = s.tw := rfl
@[simp] theorem State.thaw_gpio (s : State) (m : Master) : (s.thaw m).gpio = s.gpio := rfl
@[simp] theorem State.thaw_adc (s : State) (m : Master) : (s.thaw m).adc = s.adc := rfl
@[simp] theorem State.thaw_dali (s : State) (m : Master) : (s.thaw m).dali = s.dali := rfl
@[simp] theorem State.thaw_hl (s : State) (m : Master) : (s.thaw m).hl = s.hl := rfl
@[simp] theorem State.thaw_spim (s : State) (m : Master) : (s.thaw m).spim = s.spim := rfl
@[simp] theorem State.thaw_i2c (s : State) (m : Master) : (s.thaw m).i2c = s.i2c := rfl
@[simp] theorem State.thaw_dbg (s : State) (m : Master) : (s.thaw m).dbg = s.dbg := rfl
@[simp] theorem State.thaw_nor (s : State) (m : Master) : (s.thaw m).nor = s.nor := rfl
@[simp] theorem State.thaw_upd (s : State) (m : Master) : (s.thaw m).upd = s.upd := rfl

/-! State.setCore: by the core written -/
@[simp] theorem State.setCore_pending (s : State) (c : CoreId) (k : CoreState) : (s.setCore c k).pending = s.pending := by cases c <;> rfl
@[simp] theorem State.setCore_fresh (s : State) (c : CoreId) (k : CoreState) : (s.setCore c k).fresh = s.fresh := by cases c <;> rfl
@[simp] theorem State.setCore_regs (s : State) (c : CoreId) (k : CoreState) : (s.setCore c k).regs = s.regs := by cases c <;> rfl
@[simp] theorem State.setCore_latches (s : State) (c : CoreId) (k : CoreState) : (s.setCore c k).latches = s.latches := by cases c <;> rfl
@[simp] theorem State.setCore_mem (s : State) (c : CoreId) (k : CoreState) : (s.setCore c k).mem = s.mem := by cases c <;> rfl
@[simp] theorem State.setCore_losses (s : State) (c : CoreId) (k : CoreState) : (s.setCore c k).losses = s.losses := by cases c <;> rfl
@[simp] theorem State.setCore_scraps (s : State) (c : CoreId) (k : CoreState) : (s.setCore c k).scraps = s.scraps := by cases c <;> rfl
@[simp] theorem State.setCore_dirty (s : State) (c : CoreId) (k : CoreState) : (s.setCore c k).dirty = s.dirty := by cases c <;> rfl
@[simp] theorem State.setCore_sys (s : State) (c : CoreId) (k : CoreState) : (s.setCore c k).sys = s.sys := by cases c <;> rfl
@[simp] theorem State.setCore_tb (s : State) (c : CoreId) (k : CoreState) : (s.setCore c k).tb = s.tb := by cases c <;> rfl
@[simp] theorem State.setCore_intc (s : State) (c : CoreId) (k : CoreState) : (s.setCore c k).intc = s.intc := by cases c <;> rfl
@[simp] theorem State.setCore_nvm (s : State) (c : CoreId) (k : CoreState) : (s.setCore c k).nvm = s.nvm := by cases c <;> rfl
@[simp] theorem State.setCore_cs (s : State) (c : CoreId) (k : CoreState) : (s.setCore c k).cs = s.cs := by cases c <;> rfl
@[simp] theorem State.setCore_rtc (s : State) (c : CoreId) (k : CoreState) : (s.setCore c k).rtc = s.rtc := by cases c <;> rfl
@[simp] theorem State.setCore_rfe (s : State) (c : CoreId) (k : CoreState) : (s.setCore c k).rfe = s.rfe := by cases c <;> rfl
@[simp] theorem State.setCore_phy (s : State) (c : CoreId) (k : CoreState) : (s.setCore c k).phy = s.phy := by cases c <;> rfl
@[simp] theorem State.setCore_slot (s : State) (c : CoreId) (k : CoreState) : (s.setCore c k).slot = s.slot := by cases c <;> rfl
@[simp] theorem State.setCore_hop (s : State) (c : CoreId) (k : CoreState) : (s.setCore c k).hop = s.hop := by cases c <;> rfl
@[simp] theorem State.setCore_ash (s : State) (c : CoreId) (k : CoreState) : (s.setCore c k).ash = s.ash := by cases c <;> rfl
@[simp] theorem State.setCore_tw (s : State) (c : CoreId) (k : CoreState) : (s.setCore c k).tw = s.tw := by cases c <;> rfl
@[simp] theorem State.setCore_gpio (s : State) (c : CoreId) (k : CoreState) : (s.setCore c k).gpio = s.gpio := by cases c <;> rfl
@[simp] theorem State.setCore_adc (s : State) (c : CoreId) (k : CoreState) : (s.setCore c k).adc = s.adc := by cases c <;> rfl
@[simp] theorem State.setCore_dali (s : State) (c : CoreId) (k : CoreState) : (s.setCore c k).dali = s.dali := by cases c <;> rfl
@[simp] theorem State.setCore_hl (s : State) (c : CoreId) (k : CoreState) : (s.setCore c k).hl = s.hl := by cases c <;> rfl
@[simp] theorem State.setCore_spim (s : State) (c : CoreId) (k : CoreState) : (s.setCore c k).spim = s.spim := by cases c <;> rfl
@[simp] theorem State.setCore_i2c (s : State) (c : CoreId) (k : CoreState) : (s.setCore c k).i2c = s.i2c := by cases c <;> rfl
@[simp] theorem State.setCore_dbg (s : State) (c : CoreId) (k : CoreState) : (s.setCore c k).dbg = s.dbg := by cases c <;> rfl
@[simp] theorem State.setCore_nor (s : State) (c : CoreId) (k : CoreState) : (s.setCore c k).nor = s.nor := by cases c <;> rfl
@[simp] theorem State.setCore_upd (s : State) (c : CoreId) (k : CoreState) : (s.setCore c k).upd = s.upd := by cases c <;> rfl
@[simp] theorem State.core_setCore (s : State) (c : CoreId) (k : CoreState) : (s.setCore c k).core c = k := by cases c <;> rfl
@[simp] theorem State.setCore_setCore (s : State) (c : CoreId) (k k2 : CoreState) : (s.setCore c k).setCore c k2 = s.setCore c k2 := by cases c <;> rfl
@[simp] theorem State.setCore_core (s : State) (c : CoreId) : s.setCore c (s.core c) = s := by cases c <;> rfl
theorem State.core_setCore_ne (s : State) (c d : CoreId) (k : CoreState) (h : d ≠ c) : (s.setCore c k).core d = s.core d := by
  cases c <;> cases d <;> first | rfl | exact absurd rfl h
@[simp] theorem State.mapAsh_id (s : State) : s.mapAsh (fun a => a) = s := rfl

/-! A free value draws the counter on -/
@[simp] theorem State.drawFree_fst (s : State) : s.drawFree.1 = Config.freeValue s.fresh := rfl
@[simp] theorem State.drawFree_pending (s : State) : s.drawFree.2.pending = s.pending := rfl
@[simp] theorem State.drawFree_fresh (s : State) : s.drawFree.2.fresh = s.fresh + 1 := rfl
@[simp] theorem State.drawFree_regs (s : State) : s.drawFree.2.regs = s.regs := rfl
@[simp] theorem State.drawFree_latches (s : State) : s.drawFree.2.latches = s.latches := rfl
@[simp] theorem State.drawFree_mem (s : State) : s.drawFree.2.mem = s.mem := rfl
@[simp] theorem State.drawFree_losses (s : State) : s.drawFree.2.losses = s.losses := rfl
@[simp] theorem State.drawFree_scraps (s : State) : s.drawFree.2.scraps = s.scraps := rfl
@[simp] theorem State.drawFree_dirty (s : State) : s.drawFree.2.dirty = s.dirty := rfl
@[simp] theorem State.drawFree_lk (s : State) : s.drawFree.2.lk = s.lk := rfl
@[simp] theorem State.drawFree_a0 (s : State) : s.drawFree.2.a0 = s.a0 := rfl
@[simp] theorem State.drawFree_a1 (s : State) : s.drawFree.2.a1 = s.a1 := rfl
@[simp] theorem State.drawFree_ashc (s : State) : s.drawFree.2.ashc = s.ashc := rfl
@[simp] theorem State.drawFree_sys (s : State) : s.drawFree.2.sys = s.sys := rfl
@[simp] theorem State.drawFree_tb (s : State) : s.drawFree.2.tb = s.tb := rfl
@[simp] theorem State.drawFree_intc (s : State) : s.drawFree.2.intc = s.intc := rfl
@[simp] theorem State.drawFree_nvm (s : State) : s.drawFree.2.nvm = s.nvm := rfl
@[simp] theorem State.drawFree_cs (s : State) : s.drawFree.2.cs = s.cs := rfl
@[simp] theorem State.drawFree_rtc (s : State) : s.drawFree.2.rtc = s.rtc := rfl
@[simp] theorem State.drawFree_rfe (s : State) : s.drawFree.2.rfe = s.rfe := rfl
@[simp] theorem State.drawFree_phy (s : State) : s.drawFree.2.phy = s.phy := rfl
@[simp] theorem State.drawFree_slot (s : State) : s.drawFree.2.slot = s.slot := rfl
@[simp] theorem State.drawFree_hop (s : State) : s.drawFree.2.hop = s.hop := rfl
@[simp] theorem State.drawFree_ash (s : State) : s.drawFree.2.ash = s.ash := rfl
@[simp] theorem State.drawFree_tw (s : State) : s.drawFree.2.tw = s.tw := rfl
@[simp] theorem State.drawFree_gpio (s : State) : s.drawFree.2.gpio = s.gpio := rfl
@[simp] theorem State.drawFree_adc (s : State) : s.drawFree.2.adc = s.adc := rfl
@[simp] theorem State.drawFree_dali (s : State) : s.drawFree.2.dali = s.dali := rfl
@[simp] theorem State.drawFree_hl (s : State) : s.drawFree.2.hl = s.hl := rfl
@[simp] theorem State.drawFree_spim (s : State) : s.drawFree.2.spim = s.spim := rfl
@[simp] theorem State.drawFree_i2c (s : State) : s.drawFree.2.i2c = s.i2c := rfl
@[simp] theorem State.drawFree_dbg (s : State) : s.drawFree.2.dbg = s.dbg := rfl
@[simp] theorem State.drawFree_nor (s : State) : s.drawFree.2.nor = s.nor := rfl
@[simp] theorem State.drawFree_upd (s : State) : s.drawFree.2.upd = s.upd := rfl

end Sys2Proof.Machine
end

