-- ==== Sys2Proof/Laws/Memory.lean ====
section
/-! SUPPORT. The laws of the sparse maps: a read after a write to the same place gives the value written, a write leaves every other place
alone, and every operation keeps the canonical form; and the same for registers, latches and memory. -/
namespace Sys2Proof.Machine

namespace WordMap

theorem get_erase (d : Nat → Word) (m : WordMap) (a b : Nat) :
    get d (erase m a) b = if b = a then d b else get d m b := by
  induction m with
  | nil => simp [erase, get]
  | cons e m ih =>
    obtain ⟨k, w⟩ := e
    by_cases hk : a = k
    · subst hk
      simp only [erase, if_true, ih, get]
      by_cases hb : b = a
      · simp only [hb, if_true]
      · simp only [hb, if_false]
    · by_cases hb : b = k
      · subst hb
        simp [erase, get, hk, Ne.symm hk]
      · simp [erase, get, hk, hb, ih]

theorem get_insert (d : Nat → Word) (m : WordMap) (a b : Nat) (v : Word) :
    get d (insert (erase m a) a v) b = if b = a then v else get d (erase m a) b := by
  induction m with
  | nil => simp [erase, insert, get]
  | cons e m ih =>
    obtain ⟨k, w⟩ := e
    by_cases hk : a = k
    · simp only [erase, hk, if_true]
      subst hk
      exact ih
    · simp only [erase, hk, if_false]
      by_cases hlt : a < k
      · simp [insert, hlt, get]
      · simp only [insert, hlt, if_false, get, ih]
        by_cases hb : b = k
        · subst hb
          simp [Ne.symm hk]
        · simp [hb]

/-- Read after write. -/
theorem get_set (d : Nat → Word) (m : WordMap) (a b : Nat) (v : Word) :
    get d (set d m a v) b = if b = a then v else get d m b := by
  unfold set
  by_cases hv : v = d a
  · simp only [hv, if_true, get_erase]
    by_cases hb : b = a
    · simp [hb]
    · simp [hb]
  · simp only [hv, if_false, get_insert, get_erase]
    by_cases hb : b = a
    · simp [hb]
    · simp [hb]

theorem get_drop (d : Nat → Word) (p : Nat → Bool) (m : WordMap) (a : Nat) :
    get d (drop p m) a = if p a then d a else get d m a := by
  induction m with
  | nil => simp [drop, get]
  | cons e m ih =>
    obtain ⟨k, w⟩ := e
    unfold drop at ih ⊢
    by_cases hp : p k = true
    · simp only [List.filter, hp, Bool.not_true]
      rw [ih]
      by_cases ha : a = k
      · simp [ha, hp]
      · simp [get, ha]
    · simp only [Bool.not_eq_true] at hp
      simp only [List.filter, hp, Bool.not_false, get]
      rw [ih]
      by_cases ha : a = k
      · simp [ha, hp]
      · simp [ha]

theorem sortedFrom_le {lo hi : Nat} {m : WordMap} (h : lo ≤ hi) (hm : sortedFrom hi m = true) : sortedFrom lo m = true := by
  cases m with
  | nil => rfl
  | cons e m =>
    simp only [sortedFrom, Bool.and_eq_true, decide_eq_true_eq] at hm ⊢
    exact ⟨Nat.le_trans h hm.1, hm.2⟩

theorem sortedFrom_filter (p : Nat × Word → Bool) {lo : Nat} {m : WordMap} (hm : sortedFrom lo m = true) :
    sortedFrom lo (m.filter p) = true := by
  induction m generalizing lo with
  | nil => rfl
  | cons e m ih =>
    obtain ⟨k, w⟩ := e
    simp only [sortedFrom, Bool.and_eq_true, decide_eq_true_eq] at hm
    simp only [List.filter]
    cases p (k, w)
    · exact sortedFrom_le (Nat.le_trans hm.1 (Nat.le_succ k)) (ih hm.2)
    · simp only [sortedFrom, Bool.and_eq_true, decide_eq_true_eq]
      exact ⟨hm.1, ih hm.2⟩

theorem erase_eq_filter (m : WordMap) (a : Nat) : erase m a = m.filter fun e => decide (a ≠ e.1) := by
  induction m with
  | nil => rfl
  | cons e m ih =>
    obtain ⟨k, w⟩ := e
    by_cases h : a = k
    · subst h
      simp only [erase, if_true, ih, List.filter, ne_eq, not_true, decide_false]
    · simp only [erase, h, if_false, ih, List.filter, ne_eq, not_false_eq_true, decide_true]

theorem sortedFrom_insert {lo : Nat} {m : WordMap} (a : Nat) (v : Word) (hl : lo ≤ a) (hn : ∀ e ∈ m, e.1 ≠ a)
    (hm : sortedFrom lo m = true) : sortedFrom lo (insert m a v) = true := by
  induction m generalizing lo with
  | nil => simp [insert, sortedFrom, hl]
  | cons e m ih =>
    obtain ⟨k, w⟩ := e
    have hk : k ≠ a := hn (k, w) (List.mem_cons_self ..)
    simp only [sortedFrom, Bool.and_eq_true, decide_eq_true_eq] at hm
    by_cases hlt : a < k
    · simp only [insert, hlt, if_true, sortedFrom, Bool.and_eq_true, decide_eq_true_eq]
      exact ⟨hl, hlt, hm.2⟩
    · simp only [insert, hlt, if_false, sortedFrom, Bool.and_eq_true, decide_eq_true_eq]
      exact ⟨hm.1, ih (by omega) (fun e he => hn e (List.mem_cons_of_mem _ he)) hm.2⟩

theorem mem_insert {m : WordMap} {a : Nat} {v : Word} {e : Nat × Word} (h : e ∈ insert m a v) : e = (a, v) ∨ e ∈ m := by
  induction m with
  | nil => simpa [insert] using h
  | cons f m ih =>
    obtain ⟨k, w⟩ := f
    by_cases hlt : a < k
    · simpa [insert, hlt] using h
    · simp only [insert, hlt, if_false, List.mem_cons] at h ⊢
      rcases h with h | h
      · exact .inr (.inl h)
      · rcases ih h with h | h
        · exact .inl h
        · exact .inr (.inr h)

theorem wf_nil (d : Nat → Word) : wf d [] = true := rfl

theorem wf_filter (d : Nat → Word) (p : Nat × Word → Bool) {m : WordMap} (h : wf d m = true) : wf d (m.filter p) = true := by
  simp only [wf, Bool.and_eq_true, List.all_eq_true] at h ⊢
  exact ⟨sortedFrom_filter p h.1, fun e he => h.2 e (List.mem_filter.mp he).1⟩

/-- Entries dropped: the canonical form stays, also for another reading of unlisted addresses that agrees on what is left. -/
theorem wf_drop (d e : Nat → Word) (p : Nat → Bool) {m : WordMap} (h : wf d m = true) (he : ∀ a, p a = false → e a = d a) :
    wf e (drop p m) = true := by
  have h1 := wf_filter d (fun x => ! p x.1) h
  simp only [wf, Bool.and_eq_true, List.all_eq_true, decide_eq_true_eq] at h1 ⊢
  refine ⟨h1.1, fun x hx => ?_⟩
  have hp : p x.1 = false := by simpa using (List.mem_filter.mp hx).2
  rw [he _ hp]
  exact h1.2 x hx

/-- A write keeps the canonical form. -/
theorem wf_set (d : Nat → Word) {m : WordMap} (a : Nat) (v : Word) (h : wf d m = true) : wf d (set d m a v) = true := by
  unfold set
  have he : wf d (erase m a) = true := by
    rw [erase_eq_filter]
    exact wf_filter d _ h
  by_cases hv : v = d a
  · simpa [hv] using he
  · simp only [hv, if_false]
    simp only [wf, Bool.and_eq_true, List.all_eq_true, decide_eq_true_eq] at he ⊢
    refine ⟨sortedFrom_insert a v (Nat.zero_le _) ?_ he.1, fun e hm => ?_⟩
    · intro e hm
      rw [erase_eq_filter] at hm
      have := (List.mem_filter.mp hm).2
      simp only [ne_eq, decide_not, Bool.not_eq_true', decide_eq_false_iff_not] at this
      exact fun hh => this hh.symm
    · rcases mem_insert hm with rfl | hm
      · exact hv
      · exact he.2 e hm

end WordMap

/-! ## Registers, latches, memory -/

theorem State.reg_setReg (s : State) (a b : Nat) (v : Word) : (s.setReg a v).reg b = if b = a then v else s.reg b :=
  WordMap.get_set resetWord s.regs a b v

theorem State.mem1_setMem (s : State) (a b : Nat) (v : Word) : (s.setMem a v).mem1 b = if b = a then v else s.mem1 b :=
  WordMap.get_set _ s.mem a b v

theorem latchKey_inj {m n : Master} {a b : Nat} (ha : a < 0x1000000) (hb : b < 0x1000000) (h : latchKey m a = latchKey n b) :
    m = n ∧ a = b := by
  unfold latchKey at h
  have h1 : m.index = n.index := by omega
  exact ⟨by cases m <;> cases n <;> first | rfl | exact absurd h1 (by decide), by omega⟩

theorem State.latch_setLatch (s : State) (m : Master) (a b : Nat) (v : Word) :
    (s.setLatch m a v).latch m b = if b = a then v else s.latch m b := by
  have h := WordMap.get_set (fun _ => 0#24) s.latches (latchKey m a) (latchKey m b) v
  have hk : (latchKey m b = latchKey m a) ↔ b = a := by unfold latchKey; omega
  simpa [State.latch, State.setLatch, hk] using h

/-! ## The canonical form of the state -/

theorem State.canon_setReg {s : State} (h : s.Canon) (a : Nat) (v : Word) : (s.setReg a v).Canon :=
  ⟨WordMap.wf_set resetWord a v h.1, h.2⟩

theorem State.canon_setFld {s : State} (h : s.Canon) (a lo len v : Nat) : (s.setFld a lo len v).Canon := State.canon_setReg h _ _

theorem State.canon_setBit {s : State} (h : s.Canon) (a i : Nat) (b : Bool) : (s.setBit a i b).Canon := State.canon_setReg h _ _

theorem State.canon_setLatch {s : State} (h : s.Canon) (m : Master) (a : Nat) (v : Word) : (s.setLatch m a v).Canon :=
  ⟨h.1, WordMap.wf_set (fun _ => 0#24) _ v h.2.1, h.2.2⟩

theorem State.canon_setMem {s : State} (h : s.Canon) (a : Nat) (v : Word) : (s.setMem a v).Canon :=
  ⟨h.1, h.2.1, WordMap.wf_set _ a v h.2.2.1, h.2.2.2⟩

theorem State.canon_setSpare {s : State} (h : s.Canon) (r : Nat) (v : Word) : (s.setSpare r v).Canon :=
  ⟨h.1, h.2.1, h.2.2.1, WordMap.wf_set _ r v h.2.2.2.1, h.2.2.2.2⟩

theorem State.canon_resetRegs {s : State} (h : s.Canon) (p : Nat → Bool) : (s.resetRegs p).Canon :=
  ⟨WordMap.wf_filter resetWord _ h.1, h.2⟩

theorem State.canon_drawFree {s : State} (h : s.Canon) : s.drawFree.2.Canon := h

theorem State.canon_setCore {s : State} (h : s.Canon) (c : CoreId) (k : CoreState) : (s.setCore c k).Canon := by
  cases c <;> exact h

theorem State.canon_storeReg {s : State} (h : s.Canon) (a : Nat) (v : Word) : (s.storeReg a v).Canon := by
  unfold State.storeReg
  split
  · exact h
  · exact State.canon_setReg h _ _

theorem State.canon_countReg {s : State} (h : s.Canon) (a : Nat) : (s.countReg a).Canon := by
  unfold State.countReg
  split
  · exact h
  · exact State.canon_setReg h _ _

theorem State.canon_setMemWords {s : State} (h : s.Canon) (a : Nat) (ws : List Word) : (s.setMemWords a ws).Canon := by
  induction ws generalizing s a with
  | nil => exact h
  | cons w ws ih => exact ih (State.canon_setMem h a w) (a + 1)

theorem State.canon_storeRam {s : State} (h : s.Canon) (a : Nat) (v : Word) : (s.storeRam a v).Canon := by
  unfold State.storeRam
  split <;> exact State.canon_setMem h a v

theorem State.canon_storeRams {s : State} (h : s.Canon) (a : Nat) (ws : List Word) : (s.storeRams a ws).Canon := by
  induction ws generalizing s a with
  | nil => exact h
  | cons w ws ih => exact ih (State.canon_storeRam h a w) (a + 1)

theorem getD_mapAt_ne (f : Nat → Nat) (l : List Nat) (r k : Nat) (h : k ≠ r) : (mapAt f l r).getD k 0 = l.getD k 0 := by
  induction l generalizing r k with
  | nil => rfl
  | cons x xs ih =>
    cases r with
    | zero => cases k with
      | zero => exact absurd rfl h
      | succ k => rfl
    | succ r => cases k with
      | zero => rfl
      | succ k => simpa [mapAt] using ih r k (by omega)

theorem memUnlisted_losses (x y : List Nat) (l : List (Nat × Nat)) (a : Nat)
    (h : (isSram a || isLinkRam a) = true → x.getD (lossRegion a) 0 = y.getD (lossRegion a) 0) :
    memUnlisted x l a = memUnlisted y l a := by
  unfold memUnlisted
  by_cases hr : (isSram a || isLinkRam a) = true
  · rw [h hr]
  · simp only [hr]
    rfl

theorem State.canon_loseRegion {s : State} (h : s.Canon) (r : Nat) : (s.loseRegion r).Canon := by
  refine ⟨h.1, h.2.1, ?_, h.2.2.2⟩
  show WordMap.wf (memUnlisted (mapAt (· + 1) s.losses r) s.scraps)
    (WordMap.drop (fun a => (isSram a || isLinkRam a) && lossRegion a == r) s.mem) = true
  refine WordMap.wf_drop _ _ _ h.2.2.1 fun a ha => memUnlisted_losses _ _ _ _ fun hr => ?_
  simp only [hr, Bool.true_and, beq_eq_false_iff_ne, ne_eq] at ha
  exact getD_mapAt_ne _ _ _ _ ha

theorem scrapOf_filter {l : List (Nat × Nat)} {sector x : Nat} (h : x ≠ sector) :
    scrapOf (l.filter fun e => e.1 != sector) x = scrapOf l x := by
  induction l with
  | nil => rfl
  | cons e l ih =>
    obtain ⟨k, n⟩ := e
    by_cases hk : k = sector
    · subst hk
      simp [scrapOf, ih, Ne.symm h]
    · have hb : (k != sector) = true := by simpa using hk
      simp only [List.filter, hb, scrapOf, ih]

theorem memUnlisted_scraps (l : List Nat) (x y : List (Nat × Nat)) (a : Nat) (h : scrapOf x (a / 2048) = scrapOf y (a / 2048)) :
    memUnlisted l x a = memUnlisted l y a := by
  unfold memUnlisted
  rw [h]

theorem spareUnlisted_scraps (x y : List (Nat × Nat)) (r : Nat) (h : scrapOf x (r / 2048) = scrapOf y (r / 2048)) :
    spareUnlisted x r = spareUnlisted y r := by
  unfold spareUnlisted
  rw [h]

/-- The maps of flash stay canonical where a sector's entries are dropped and the readings of the other sectors stay. -/
theorem State.canon_dropSector {s : State} (h : s.Canon) (sector : Nat) (x : List (Nat × Nat))
    (hx : ∀ k, k ≠ sector → scrapOf x k = scrapOf s.scraps k) :
    WordMap.wf (memUnlisted s.losses x) (WordMap.drop (fun a => a / 2048 == sector) s.mem) = true ∧
      WordMap.wf (spareUnlisted x) (WordMap.drop (fun a => a / 2048 == sector) s.nvm.spare) = true :=
  ⟨WordMap.wf_drop _ _ _ h.2.2.1 fun a ha => memUnlisted_scraps _ _ _ _ (hx _ (by simpa using ha)),
    WordMap.wf_drop _ _ _ h.2.2.2.1 fun a ha => spareUnlisted_scraps _ _ _ (hx _ (by simpa using ha))⟩

theorem State.canon_scrapSector {s : State} (h : s.Canon) (sector : Nat) : (s.scrapSector sector).Canon := by
  have hd := State.canon_dropSector h sector ((sector, s.fresh) :: s.scraps.filter fun e => e.1 != sector) fun k hk => by
    simp only [scrapOf, Ne.symm hk, if_false]
    exact scrapOf_filter hk
  exact ⟨h.1, h.2.1, hd.1, hd.2, h.2.2.2.2⟩

theorem State.canon_blankSector {s : State} (h : s.Canon) (sector : Nat) : (s.blankSector sector).Canon := by
  have hd := State.canon_dropSector h sector (s.scraps.filter fun e => e.1 != sector) fun k hk => scrapOf_filter hk
  exact ⟨h.1, h.2.1, hd.1, hd.2, h.2.2.2.2⟩

end Sys2Proof.Machine
end

