-- ==== Sys2Proof/Laws/Issue.lean ====
section
/-! SUPPORT. What an instruction leaves that issues on a settled core (R176, R178, R182): one lemma for the forms that write at distance
1, one for those that write later. -/
namespace Sys2Proof.Machine

theorem getLsbD_ofNat24 (n i : Nat) : (BitVec.ofNat 24 n).getLsbD i = (decide (i < 24) && n.testBit i) := by
  rw [BitVec.getLsbD_ofNat]

theorem getLsbD_withMask (old m v : Word) (i : Nat) (h : i < 24) :
    (withMask old m v).getLsbD i = if m.getLsbD i then v.getLsbD i else old.getLsbD i := by
  simp only [withMask, BitVec.getLsbD_or, BitVec.getLsbD_and, BitVec.getLsbD_not, h, decide_true, Bool.true_and]
  cases m.getLsbD i <;> simp

theorem getLsbD_withBit (w : Word) (b : Bool) (i j : Nat) (hi : i < 24) :
    (withBit w j b).getLsbD i = if i = j then b else w.getLsbD i := by
  have h1 : (1 <<< j).testBit i = decide (i = j) := by
    rw [Nat.one_shiftLeft, Nat.testBit_two_pow]
    simp [eq_comm]
  have h0 : ∀ k : Nat, (0 <<< k).testBit i = false := by intro k; simp
  unfold withBit withField
  simp only [BitVec.getLsbD_or, BitVec.getLsbD_and, BitVec.getLsbD_not, getLsbD_ofNat24, hi, decide_true, Bool.true_and]
  by_cases hij : i = j
  · cases b <;> simp [hij]
  · cases b <;> simp [h1, hij]

theorem flagWrite_land (k : CoreState) (n z c v : Option Bool) :
    ∃ sr, k.land (flagWrite n z c v) = { k with sr := sr } ∧ ∀ i, i < 24 → sr.getLsbD i = match i with
      | 0 => v.getD (k.sr.getLsbD 0)
      | 1 => c.getD (k.sr.getLsbD 1)
      | 2 => z.getD (k.sr.getLsbD 2)
      | 3 => n.getD (k.sr.getLsbD 3)
      | 7 => k.sr.getLsbD 7 || v == some true
      | _ => k.sr.getLsbD i := by
  refine ⟨_, rfl, fun i hi => ?_⟩
  rw [getLsbD_withMask _ _ _ _ hi]
  simp only [getLsbD_ofNat24, hi, decide_true, Bool.true_and]
  have h : i = 0 ∨ i = 1 ∨ i = 2 ∨ i = 3 ∨ i = 4 ∨ i = 5 ∨ i = 6 ∨ i = 7 ∨ i = 8 ∨ i = 9 ∨ i = 10 ∨ i = 11 ∨ i = 12 ∨ i = 13 ∨ i = 14 ∨ i = 15 ∨ i = 16 ∨ i = 17 ∨ i = 18 ∨ i = 19 ∨ i = 20 ∨ i = 21 ∨ i = 22 ∨ i = 23 := by omega
  rcases h with rfl | rfl | rfl | rfl | rfl | rfl | rfl | rfl | rfl | rfl | rfl | rfl | rfl | rfl | rfl | rfl | rfl | rfl | rfl | rfl | rfl | rfl | rfl | rfl <;> rcases n with _ | _ | _ <;> rcases z with _ | _ | _ <;>
    rcases c with _ | _ | _ <;> rcases v with _ | _ | _ <;> first | rfl | exact (Bool.or_false _).symm | exact (Bool.or_true _).symm

/-- A core of the forms that a settled core's issue leaves: k with the result of its writes. -/
theorem CoreState.begin_of_none {k : CoreState} (h : k.rptPc = none) : k.begin = k := by
  simp [CoreState.begin, h]

theorem CryptoEngine.cycle_idle {e : CryptoEngine} (h1 : e.aes = none) (h2 : e.sha = none) : e.cycle = e := by
  simp [CryptoEngine.cycle, h1, h2]

theorem State.cycle_idle {s : State} (c : CoreId) (h1 : s.ash.eng.aes = none) (h2 : s.ash.eng.sha = none) :
    s.cycle c = s.setCore c (s.core c).cycle := by
  have e1 : s.ash.eng.cycle = s.ash.eng := CryptoEngine.cycle_idle h1 h2
  unfold State.cycle
  by_cases hc : c = .ash
  · subst hc
    simp [e1, h1, h2]
    rfl
  · simp [hc]

theorem State.debugBoundary_quiet {s : State} {c : CoreId}
    (h : (s.dbg.haltReq ||| s.dbg.step) &&& BitVec.ofNat 3 (2 ^ c.cid) = 0#3) : s.debugBoundary c = s := by
  unfold State.debugBoundary
  exact if_neg fun h' => h'.2.1 h

/-- An instruction whose effect on its settled core is f, with what its issue adds. -/
theorem State.issueCore_settled {s : State} {c : CoreId} {len : Nat} {own : Option Nat} (h : s.settled c)
    (hi : s.canIssue c = true) (ho : s.causeOf c len own = none) (f : CoreState → CoreState)
    (hb : (f (s.core c)).cycle.branch = none) (hr : (f (s.core c)).cycle.rptPc = none) :
    s.issueCore c len own f = s.setCore c
      { (f (s.core c)).cycle with
        pc := nextAddr (f (s.core c)).cycle.pc len, rptPc := none, sr := withBit (f (s.core c)).cycle.sr 22 false
        issued := true } := by
  obtain ⟨h1, h2, h3, h4, h5, h6, h7⟩ := h
  unfold State.issueCore State.issue State.attempt
  simp only [hi, if_true, ho]
  rw [CoreState.begin_of_none h2, State.setCore_core]
  unfold State.finish
  rw [State.cycle_idle c (by simpa using h6) (by simpa using h7)]
  have hn : ((f (s.core c)).cycle).returning = none := by simp [CoreState.returning, hb]
  simp only [State.core_setCore, State.setCore_setCore, hn]
  rw [if_neg (by simp), State.setCore_setCore, State.debugBoundary_quiet (by simpa using h5)]
  simp [CoreState.advance, hb, hr]

theorem CoreState.tickC0_none {k : CoreState} (h : k.c0run = none) : k.tickC0 = k := by
  simp [CoreState.tickC0, h]

/-- A cycle is counted (R177). -/
def CoreState.ticked (k : CoreState) : CoreState := { k with cyc := k.cyc + 1#24 }

/-- Writes at distance 1 land in the cycle of their issue. -/
theorem CoreState.cycle_puts_one {k : CoreState} (h : k.inflight = []) (h0 : k.c0run = none) (ws : List Write) :
    (k.puts 1 ws).cycle = ws.foldl CoreState.land k.ticked := by
  have e0 : (k.puts 1 ws).tickC0 = k.puts 1 ws := CoreState.tickC0_none h0
  have hf : ((k.puts 1 ws).inflight.filter fun f => decide (f.left ≤ 1)) = ws.map fun w => { left := 1, w := w } := by
    simp only [CoreState.puts, h, List.nil_append]
    exact List.filter_eq_self.mpr fun f hf => by
      obtain ⟨w, _, rfl⟩ := List.mem_map.mp hf
      rfl
  have hl : ((k.puts 1 ws).inflight.filter fun f => decide (1 < f.left)) = [] := by
    simp only [CoreState.puts, h, List.nil_append]
    exact List.filter_eq_nil_iff.mpr fun f hf => by
      obtain ⟨w, _, rfl⟩ := List.mem_map.mp hf
      simp
  unfold CoreState.cycle
  simp only [e0, hf, hl, List.map_nil, List.foldl_map]
  have : ({ k.puts 1 ws with inflight := [], cyc := (k.puts 1 ws).cyc + 1#24 } : CoreState) = k.ticked := by
    cases k
    simp only at h
    subst h
    rfl
  rw [this]

/-- Writes at a greater distance are in flight after the cycle of their issue. -/
theorem CoreState.cycle_puts_later {k : CoreState} (h : k.inflight = []) (h0 : k.c0run = none) (d : Nat) (hd : 1 < d)
    (ws : List Write) :
    (k.puts d ws).cycle = { k.ticked with inflight := ws.map fun w => { left := d - 1, w := w } } := by
  have e0 : (k.puts d ws).tickC0 = k.puts d ws := CoreState.tickC0_none h0
  have hf : ((k.puts d ws).inflight.filter fun f => decide (f.left ≤ 1)) = [] := by
    simp only [CoreState.puts, h, List.nil_append]
    exact List.filter_eq_nil_iff.mpr fun f hf => by
      obtain ⟨w, _, rfl⟩ := List.mem_map.mp hf
      simpa using hd
  have hl : ((k.puts d ws).inflight.filter fun f => decide (1 < f.left)) = ws.map fun w => { left := d, w := w } := by
    simp only [CoreState.puts, h, List.nil_append]
    exact List.filter_eq_self.mpr fun f hf => by
      obtain ⟨w, _, rfl⟩ := List.mem_map.mp hf
      simpa using hd
  unfold CoreState.cycle
  simp only [e0, hf, hl, List.map_map]
  rfl

theorem CoreState.land_branch (k : CoreState) (w : Write) : (k.land w).branch = k.branch := by
  cases w <;> simp only [CoreState.land] <;> (try split) <;> (try rfl)
  unfold CoreState.setSpecial
  split <;> rfl

theorem CoreState.land_rptPc (k : CoreState) (w : Write) : (k.land w).rptPc = k.rptPc := by
  cases w <;> simp only [CoreState.land] <;> (try split) <;> (try rfl)
  unfold CoreState.setSpecial
  split <;> rfl

theorem CoreState.lands_branch (ws : List Write) (k : CoreState) : (ws.foldl CoreState.land k).branch = k.branch := by
  induction ws generalizing k with
  | nil => rfl
  | cons w ws ih => rw [List.foldl_cons, ih, CoreState.land_branch]

theorem CoreState.lands_rptPc (ws : List Write) (k : CoreState) : (ws.foldl CoreState.land k).rptPc = k.rptPc := by
  induction ws generalizing k with
  | nil => rfl
  | cons w ws ih => rw [List.foldl_cons, ih, CoreState.land_rptPc]

/-- An instruction that writes at distance 1 on a settled core. -/
theorem State.alu_ready {s : State} {c : CoreId} {len : Nat} (h : s.ready c len) (f : CoreState → List Write) :
    s.alu c len 1 f = s.setCore c
      { (f (s.core c)).foldl CoreState.land (s.core c).ticked with
        pc := nextAddr ((f (s.core c)).foldl CoreState.land (s.core c).ticked).pc len, rptPc := none
        sr := withBit ((f (s.core c)).foldl CoreState.land (s.core c).ticked).sr 22 false, issued := true } := by
  obtain ⟨hs, hi, ho⟩ := h
  have hc := CoreState.cycle_puts_one (k := s.core c) hs.2.2.1 hs.2.2.2.1 (f (s.core c))
  have := State.issueCore_settled hs hi ho (fun k => k.puts 1 (f k)) (by rw [hc, CoreState.lands_branch]; exact hs.1)
    (by rw [hc, CoreState.lands_rptPc]; exact hs.2.1)
  rw [hc] at this
  exact this

/-- An instruction that writes at a greater distance on a settled core: its writes are in flight. -/
theorem State.alu_ready_later {s : State} {c : CoreId} {len d : Nat} (h : s.ready c len) (hd : 1 < d) (f : CoreState → List Write) :
    s.alu c len d f = s.setCore c
      { (s.core c).after len none (withBit (s.core c).sr 22 false) with
        inflight := (f (s.core c)).map fun w => { left := d - 1, w := w } } := by
  obtain ⟨hs, hi, ho⟩ := h
  have hc := CoreState.cycle_puts_later (k := s.core c) hs.2.2.1 hs.2.2.2.1 d hd (f (s.core c))
  have := State.issueCore_settled hs hi ho (fun k => k.puts d (f k)) (by rw [hc]; exact hs.1) (by rw [hc]; exact hs.2.1)
  rw [hc] at this
  refine this.trans ?_
  congr 1
  simp [CoreState.after, CoreState.ticked, hs.2.1]

theorem srAfter_of_bits {old new : Word} {n z c v : Option Bool}
    (h : ∀ i, i < 24 → new.getLsbD i = match i with
      | 0 => v.getD (old.getLsbD 0)
      | 1 => c.getD (old.getLsbD 1)
      | 2 => z.getD (old.getLsbD 2)
      | 3 => n.getD (old.getLsbD 3)
      | 7 => old.getLsbD 7 || v == some true
      | _ => old.getLsbD i) : srAfter old (withBit new 22 false) n z c v := by
  intro i hi
  rw [getLsbD_withBit _ _ _ _ hi]
  by_cases h22 : i = 22
  · subst h22
    rfl
  · simp only [h22, if_false, h i hi]
    split <;> simp_all

/-- gd and flags written at distance 1. -/
theorem State.alu_wrote {s : State} {c : CoreId} {len : Nat} (h : s.ready c len) (f : CoreState → List Write) (d : Fin 16) (v : Word)
    (n z cy ov : Option Bool) (hf : f (s.core c) = [.g d.val v, flagWrite n z cy ov]) :
    s.Wrote (s.alu c len 1 f) c len d v n z cy ov := by
  have hg : (s.core c).ticked.land (.g d.val v) =
      { (s.core c).ticked with g := if d = 0 then (s.core c).g else setAt v (s.core c).g d.val } := by
    simp only [CoreState.land]
    by_cases hd : d = 0
    · subst hd
      simp [CoreState.ticked]
    · have : d.val ≠ 0 := fun h0 => hd (Fin.ext h0)
      simp [CoreState.ticked, hd, this]
  obtain ⟨sr, hl, hbits⟩ := flagWrite_land ((s.core c).ticked.land (.g d.val v)) n z cy ov
  refine ⟨withBit sr 22 false, ?_, srAfter_of_bits (by rw [hg] at hbits; exact hbits)⟩
  rw [State.alu_ready h f, hf]
  simp only [List.foldl_cons, List.foldl_nil, hl]
  rw [hg]
  simp [CoreState.after, CoreState.ticked, h.1.2.1]

/-- gd alone written at distance 1. -/
theorem State.alu_wrote_reg {s : State} {c : CoreId} {len : Nat} (h : s.ready c len) (f : CoreState → List Write) (d : Fin 16) (v : Word)
    (hf : f (s.core c) = [.g d.val v]) : s.Wrote (s.alu c len 1 f) c len d v none none none none := by
  refine ⟨withBit (s.core c).sr 22 false, ?_, srAfter_of_bits fun i hi => ?_⟩
  · rw [State.alu_ready h f, hf]
    simp only [List.foldl_cons, List.foldl_nil, CoreState.land]
    by_cases hd : d = 0
    · subst hd
      simp [CoreState.after, CoreState.ticked, h.1.2.1]
    · have : d.val ≠ 0 := fun h0 => hd (Fin.ext h0)
      simp [CoreState.after, CoreState.ticked, h.1.2.1, hd, this]
  · split <;> simp

end Sys2Proof.Machine
end

