-- ==== Sys2Proof/Laws/Lands.lean ====
section
/-! SUPPORT. Results that come into view later (R182): what is in flight lands together. -/
namespace Sys2Proof.Machine

theorem CoreState.cycle_wait {k : CoreState} (h0 : k.c0run = none) (n : Nat) (ws : List Write) :
    ({ k with inflight := ws.map fun w => { left := n + 2, w := w } } : CoreState).cycle =
      { k.ticked with inflight := ws.map fun w => { left := n + 1, w := w } } := by
  have hf : ((ws.map fun w => ({ left := n + 2, w := w } : InFlight)).filter fun f => decide (f.left ≤ 1)) = [] :=
    List.filter_eq_nil_iff.mpr fun f hf => by
      obtain ⟨w, _, rfl⟩ := List.mem_map.mp hf
      simp
  have hl : ((ws.map fun w => ({ left := n + 2, w := w } : InFlight)).filter fun f => decide (1 < f.left)) =
      ws.map fun w => { left := n + 2, w := w } :=
    List.filter_eq_self.mpr fun f hf => by
      obtain ⟨w, _, rfl⟩ := List.mem_map.mp hf
      simp
  unfold CoreState.cycle
  rw [CoreState.tickC0_none (by exact h0)]
  simp only [hf, hl, List.map_map, List.foldl_nil]
  rfl

theorem CoreState.cycle_last {k : CoreState} (h0 : k.c0run = none) (hi : k.inflight = []) (ws : List Write) :
    ({ k with inflight := ws.map fun w => { left := 1, w := w } } : CoreState).cycle = ws.foldl CoreState.land k.ticked := by
  have := CoreState.cycle_puts_one (k := k) hi h0 ws
  rw [← this]
  congr 1
  simp [CoreState.puts, hi]

/-- n cycles are counted. -/
def CoreState.tickedBy (k : CoreState) (n : Nat) : CoreState := { k with cyc := k.cyc + BitVec.ofNat 24 n }

theorem CoreState.tickedBy_ticked (k : CoreState) (n : Nat) : k.ticked.tickedBy n = k.tickedBy (n + 1) := by
  unfold CoreState.tickedBy CoreState.ticked
  have : k.cyc + 1#24 + BitVec.ofNat 24 n = k.cyc + BitVec.ofNat 24 (n + 1) := by
    apply BitVec.eq_of_toNat_eq
    simp only [BitVec.toNat_add, BitVec.toNat_ofNat]
    omega
  simp [this]

theorem CoreState.land_withCyc (k : CoreState) (w : Write) (n : Word) :
    ({ k with cyc := n } : CoreState).land w = { k.land w with cyc := n } := by
  cases w <;> simp only [CoreState.land] <;> (try split) <;> (try rfl)
  unfold CoreState.setSpecial
  split <;> rfl

theorem CoreState.lands_withCyc (ws : List Write) (k : CoreState) (n : Word) :
    ws.foldl CoreState.land { k with cyc := n } = { ws.foldl CoreState.land k with cyc := n } := by
  induction ws generalizing k with
  | nil => rfl
  | cons w ws ih => rw [List.foldl_cons, CoreState.land_withCyc, ih, List.foldl_cons]

theorem State.cycles_wait {s : State} {c : CoreId} (h1 : s.ash.eng.aes = none) (h2 : s.ash.eng.sha = none) {k : CoreState}
    (h0 : k.c0run = none) (hi : k.inflight = []) (ws : List Write) (n : Nat) :
    (s.setCore c { k with inflight := ws.map fun w => { left := n + 1, w := w } }).cycles c (n + 1) =
      s.setCore c { ws.foldl CoreState.land k with cyc := k.cyc + BitVec.ofNat 24 (n + 1) } := by
  induction n generalizing k with
  | zero =>
    simp only [State.cycles]
    rw [State.cycle_idle c (by simpa using h1) (by simpa using h2)]
    simp only [State.core_setCore, State.setCore_setCore]
    rw [CoreState.cycle_last h0 hi, CoreState.ticked, CoreState.lands_withCyc]
  | succ n ih =>
    rw [State.cycles, State.cycle_idle c (by simpa using h1) (by simpa using h2)]
    simp only [State.core_setCore, State.setCore_setCore]
    rw [CoreState.cycle_wait h0, ih (k := k.ticked) h0 hi]
    have := congrArg CoreState.cyc (CoreState.tickedBy_ticked k (n + 1))
    simp only [CoreState.tickedBy] at this
    rw [this, CoreState.ticked, CoreState.lands_withCyc]

theorem foldl_max_left (n : Nat) (ws : List Write) (m : Nat) (h : ws ≠ [] ∨ m = n) (hm : m ≤ n) :
    (ws.map fun w => ({ left := n, w := w } : InFlight)).foldl (fun m f => max m f.left) m = n := by
  induction ws generalizing m with
  | nil => simpa using h
  | cons w ws ih =>
    simp only [List.map_cons, List.foldl_cons]
    exact ih _ (Or.inr (by omega)) (by omega)

/-- A settled core's instruction whose writes come into view at distance d, where they land as p tells. -/
theorem State.alu_lands {s : State} {c : CoreId} {len d : Nat} (h : s.ready c len) (hd : 1 < d) (f : CoreState → List Write)
    (hn : f (s.core c) ≠ []) {p : State → Prop}
    (hp : p (s.setCore c ((f (s.core c)).foldl CoreState.land ((s.core c).after len none (withBit (s.core c).sr 22 false))))) :
    s.Lands (s.alu c len d f) c len d p := by
  have hs := h.1
  obtain ⟨n, rfl⟩ : ∃ n, d = n + 2 := ⟨d - 2, by omega⟩
  rw [State.alu_ready_later h hd f]
  refine ⟨?_, ?_, ?_, ?_⟩
  · simp
  · simpa using hn
  · intro g hg
    simp only [State.core_setCore, List.mem_map] at hg
    obtain ⟨w, _, rfl⟩ := hg
    simp
  · unfold State.drain
    simp only [State.core_setCore]
    have e : n + 2 - 1 = n + 1 := by omega
    rw [e, foldl_max_left _ _ _ (Or.inl hn) (by omega),
      State.cycles_wait hs.2.2.2.2.2.1 hs.2.2.2.2.2.2 (by simpa [CoreState.after] using hs.2.2.2.1)
        (by simpa [CoreState.after] using hs.2.2.1)]
    refine ⟨?_, ?_⟩
    · simp only [State.core_setCore, CoreState.after]
      apply BitVec.eq_of_toNat_eq
      simp only [BitVec.toNat_add, BitVec.toNat_ofNat]
      omega
    · have hw := CoreState.lands_withCyc (f (s.core c)) ((s.core c).after len none (withBit (s.core c).sr 22 false)) ((s.core c).cyc + 1#24)
      have ha : ({ (s.core c).after len none (withBit (s.core c).sr 22 false) with cyc := (s.core c).cyc + 1#24 } : CoreState) =
          (s.core c).after len none (withBit (s.core c).sr 22 false) := rfl
      rw [ha] at hw
      rw [hw] at hp
      simpa [State.withCyc] using hp

end Sys2Proof.Machine
end

