-- ==== Sys2Proof/Laws/Transfer.lean ====
section
/-! SUPPORT. What a transfer on the system bus and a read of flash can do (R12, R15, R264, R273, R302, R303), said once, and that they keep the
canonical form. -/
namespace Sys2Proof.Machine

/-! ## Transfers -/

/-- Everything a register command's transfer can do: in deep sleep nothing, to a register that its master does not reach a bus error, and
otherwise its effect on the state with the master's priority taken and no bus error. -/
theorem State.transfer_cases (s : State) (m : Master) (a : Nat) (wr : Bool) (f : State → State) :
    (s.asleep = true ∧ s.transfer m a wr f = s)
    ∨ (s.asleep = false ∧ s.reaches m a wr = false ∧ s.transfer m a wr f = (s.served m).noteBus true)
    ∨ (s.asleep = false ∧ s.reaches m a wr = true ∧ s.transfer m a wr f = f ((s.served m).noteBus false)) := by
  unfold State.transfer
  cases s.asleep <;> cases s.reaches m a wr <;> simp

theorem State.canon_noteBus {s : State} (h : s.Canon) (err : Bool) : (s.noteBus err).Canon := h

theorem State.canon_served {s : State} (h : s.Canon) (m : Master) : (s.served m).Canon := h

/-- A transfer keeps the canonical form where its effect does. -/
theorem State.canon_transfer {s : State} (h : s.Canon) (m : Master) (a : Nat) (wr : Bool) (f : State → State) (hf : ∀ t : State, t.Canon → (f t).Canon) :
    (s.transfer m a wr f).Canon := by
  rcases s.transfer_cases m a wr f with ⟨-, e⟩ | ⟨-, -, e⟩ | ⟨-, -, e⟩ <;> rw [e]
  · exact h
  · exact canon_noteBus (canon_served h m) true
  · exact hf _ (canon_noteBus (canon_served h m) false)

/-! ## What an engine stores -/

/-- An engine's store outside SRAM ends with a bus error alone; one inside is a store of the word (R11, R15). -/
theorem State.sramStore_cases (s : State) (a : Nat) (v : Word) :
    (isSram a = true ∧ s.sramStore a v = s.storeRam a v) ∨ (isSram a = false ∧ s.sramStore a v = s.noteBus true) := by
  unfold State.sramStore
  cases isSram a <;> simp

theorem State.canon_sramStore {s : State} (h : s.Canon) (a : Nat) (v : Word) : (s.sramStore a v).Canon := by
  rcases s.sramStore_cases a v with ⟨-, e⟩ | ⟨-, e⟩ <;> rw [e]
  · exact canon_storeRam h a v
  · exact h

theorem State.canon_sramStores {s : State} (h : s.Canon) (a : Nat) (ws : List Word) : (s.sramStores a ws).Canon := by
  induction ws generalizing s a with
  | nil => exact h
  | cons w ws ih => exact ih (canon_sramStore h a w) (a + 1)

/-! ## Reads of flash -/

theorem State.canon_buffer {s : State} (h : s.Canon) (row : Nat) : (s.buffer row).Canon := h

theorem State.canon_unbuffer {s : State} (h : s.Canon) (row : Nat) : (s.unbuffer row).Canon := h

/-- The word that a read of flash answers, and when it answers none: a row of the read buffer always, another where it passes its check
within four reads (R302, R303). -/
theorem State.flashWord_fst (s : State) (a failed : Nat) :
    (s.flashWord a failed).1 = if s.inBuffer (rowOf a) = true ∨ (s.rowOk (rowOf a) = true ∧ failed < 4) then some (s.mem1 a) else none := by
  unfold State.flashWord
  by_cases hb : s.inBuffer (rowOf a) = true
  · simp [hb]
  · by_cases hr : s.rowOk (rowOf a) = true <;> by_cases hf : 4 ≤ failed <;> simp [hb, hr, hf] <;> omega

/-- A read that is answered changes the read buffer and the count of re-reads alone. -/
theorem State.flashWord_mem (s : State) (a failed : Nat) : (s.flashWord a failed).1.isSome = true → (s.flashWord a failed).2.mem = s.mem := by
  unfold State.flashWord
  split
  · intro _; rfl
  · split
    · intro h; cases h
    · intro _
      split
      · rfl
      · show (s.countReg Reg.NVM_RRCNT).mem = s.mem
        unfold State.countReg
        split <;> rfl

end Sys2Proof.Machine
end

