-- ==== Sys2Proof/Machine/Pads.lean ====
section
/-! DEFINITION. What the part drives on its output pads (R267, R404, R446 to R449): in run, sleep and deep sleep by the state of each
block, through a reset by the reset values of that state, and nothing in off-with-RTC. -/
namespace Sys2Proof.Machine

/-- The output pads of R446. -/
inductive Pad where
  | femPa | femLna | femByp | tcxoEn | spimCsn | spimSck | spimMosi | i2cScl | i2cSda | daliTx | hlTxd | hlMiso | hlRdy | twAct | twFlt
  | pwm (n : Fin 2)
  | gpio (n : Fin 24)
  deriving DecidableEq, Repr

/-- What the part drives on a pad: a low level, a high level, or nothing. -/
inductive Drive where
  | low | high | z
  deriving DecidableEq, Repr

/-- A driven level. -/
def Drive.of (b : Bool) : Drive := if b then .high else .low

/-- An open-drain pad, pulled low or released. -/
def Drive.pull (low : Bool) : Drive := if low then .low else .z

/-- A level that no rule fixes at the moment (assumption 120). -/
def State.freeLevel (s : State) (k : Nat) : Bool := (Config.freeValue s.fresh).testBit k

/-- TCXO_EN: driven while tcxo is 1, and not in deep sleep (R255, R273, R274). -/
def State.tcxoEn (s : State) : Bool := s.bit Reg.SYS_CLKCTL 22 && s.sys.power != .deepSleep

/-- What a GPIO pad with an enable, a level and an open drain drives. -/
def drivePad (dir out od : Bool) : Drive := if ! dir || (od && out) then .z else Drive.of out

/-- What pad GPIOn drives (R234, R267, R404, R429): AD and ARDY of the Adit port are not driven between two commands. -/
def State.gpioDrive (s : State) (n : Nat) : Drive :=
  let od := s.bit (Reg.GPIO_CFG n) 21
  if s.bit Reg.SYS_CLKSTAT 17 then
    match s.fld (if n < 12 then Reg.SYS_GPSAFE0 else Reg.SYS_GPSAFE1) (2 * (n % 12)) 2 with
    | 0 => drivePad (s.gpio.kept.1.getLsbD n) (s.gpio.kept.2.getLsbD n) od
    | 1 => .low
    | 2 => .high
    | _ => .z
  else if s.aditHolds n then (if 12 ≤ n ∧ n ≤ 14 then Drive.of (s.aditPad n false) else .z)
  else drivePad (s.bit Reg.GPIO_DIR n) (s.bit Reg.GPIO_OUT n) od

/-- What the part drives on a pad while it is on. -/
def State.padOn (s : State) : Pad → Drive
  | .femPa => Drive.of s.femPads.1
  | .femLna => Drive.of s.femPads.2.1
  | .femByp => Drive.of s.femPads.2.2
  | .tcxoEn => Drive.of s.tcxoEn
  | .spimCsn => Drive.of (! s.bit Reg.SPIM_STAT 22)
  | .spimSck => Drive.of (if s.spim.open_.isSome then s.freeLevel 0 else s.bit Reg.SPIM_CTL 22)
  | .spimMosi => Drive.of (s.bit Reg.SPIM_CTL 23 && s.freeLevel 1)
  | .i2cScl => Drive.pull (s.i2c.open_.isSome && s.freeLevel 2)
  | .i2cSda => Drive.pull (s.i2c.open_.isSome && s.freeLevel 3)
  | .daliTx => Drive.of s.daliPad
  | .hlTxd => Drive.of (! (s.bit Reg.HL_CTL 23 && ! s.bit Reg.HL_CTL 22) || s.freeLevel 4)
  | .hlMiso => if s.bit Reg.HL_CTL 23 && s.bit Reg.HL_CTL 22 && s.freeLevel 5 then Drive.of (s.freeLevel 6) else .z
  | .hlRdy => Drive.of s.hlRdy
  | .twAct => Drive.of s.twAct
  | .twFlt => Drive.pull s.twFltLow
  | .pwm n => Drive.of (s.pwmPad n.val)
  | .gpio n => s.gpioDrive n.val

/-- What the part drives on a pad (R447, R448): in off-with-RTC, and with VDD absent, nothing. -/
def State.pad (s : State) (p : Pad) : Drive := if s.sys.power = .off then .z else s.padOn p

end Sys2Proof.Machine
end

