-- ==== Sys2Proof/Machine/Words.lean ====
section
/-! DEFINITION. Instruction words of the Ixxia-24 (R210 to R213, R214 to R224, R227 to R231, R349, R350): the command that a word at a
core's pc spells, and ILLEGAL_OP where it spells none. The commands carry their operands, so no command reads a word; what a core finds
at its pc is decoded here. -/
namespace Sys2Proof.Machine

/-! ## Fields (R212) -/

/-- A register field. -/
def regAt (w : Word) (lo : Nat) : Fin 16 := Fin.ofNat 16 (fieldOf w lo 4)

/-- A field that names an accumulator: its bits 3:2 must be 0. -/
def accAt (w : Word) (lo : Nat) : Option (Fin 4) := if fieldOf w lo 4 < 4 then some (Fin.ofNat 4 (fieldOf w lo 4)) else none

/-- An instruction where a condition on its fields holds. -/
def onlyIf (p : Bool) (i : Instr) : Option Instr := if p then some i else none

/-- imm9 with the bit x; with x = 1 the short field must be 0 (R210, R211). -/
def imm9At (w ext : Word) : Option Imm9 :=
  if ! w.getLsbD 9 then some (.short (BitVec.ofNat 9 (fieldOf w 0 9))) else if fieldOf w 0 9 = 0 then some (.ext ext) else none

/-- imm13 with the bit x. -/
def imm13At (w ext : Word) : Option Imm13 :=
  if ! w.getLsbD 13 then some (.short (BitVec.ofNat 13 (fieldOf w 0 13))) else if fieldOf w 0 13 = 0 then some (.ext ext) else none

/-- The target of format B. -/
def targetAt (w ext : Word) : Option Target :=
  if ! w.getLsbD 13 then some (.rel (BitVec.ofNat 13 (fieldOf w 0 13))) else if fieldOf w 0 13 = 0 then some (.ext ext) else none

/-- The address of format M (R220): every other combination of mode, x, k and b is illegal. -/
def addrAt (w ext : Word) : Option Addr :=
  let b := regAt w 10
  let k := BitVec.ofNat 6 (fieldOf w 0 6)
  if w.getLsbD 6 then none
  else match fieldOf w 8 2, w.getLsbD 7 with
    | 0, false => some (.offset b k)
    | 0, true => if k = 0#6 then some (.offsetExt b ext) else none
    | 1, false => if k = 0#6 then some (.postInc b) else none
    | 2, false => if k = 0#6 then some (.preDec b) else none
    | 3, true => if k = 0#6 ∧ b = 0 then some (.absolute ext) else none
    | _, _ => none

/-! ## Groups (R214 to R223) -/

/-- Major 0x01 (R214). -/
def aluWord (c : CoreId) (f : Nat) (d a b : Fin 16) : Option Instr :=
  match f with
  | 0x00 => some (.add c d a b)
  | 0x01 => some (.addc c d a b)
  | 0x02 => some (.sub c d a b)
  | 0x03 => some (.subc c d a b)
  | 0x04 => some (.adds c d a b)
  | 0x05 => some (.subs c d a b)
  | 0x08 => some (.and c d a b)
  | 0x09 => some (.or c d a b)
  | 0x0A => some (.xor c d a b)
  | 0x0B => some (.andn c d a b)
  | 0x0C => some (.min c d a b)
  | 0x0D => some (.max c d a b)
  | 0x0E => some (.minu c d a b)
  | 0x0F => some (.maxu c d a b)
  | _ => none

/-- Major 0x02 (R215). -/
def shiftWord (c : CoreId) (f : Nat) (d a b : Fin 16) : Option Instr :=
  match f with
  | 0 => some (.shl c d a b)
  | 1 => some (.shr c d a b)
  | 2 => some (.sar c d a b)
  | 3 => some (.shls c d a b)
  | _ => none

/-- Major 0x0D (R215): the function in bits 8:6, the count in bits 5:0, x = 0. -/
def shiftImmWord (c : CoreId) (w : Word) : Option Instr :=
  let d := regAt w 14
  let a := regAt w 10
  let n := BitVec.ofNat 6 (fieldOf w 0 6)
  if w.getLsbD 9 then none
  else match fieldOf w 6 3 with
    | 0 => some (.shli c d a n)
    | 1 => some (.shri c d a n)
    | 2 => some (.sari c d a n)
    | 3 => some (.shlsi c d a n)
    | _ => none

/-- Major 0x03 (R216). -/
def mulWord (c : CoreId) (f : Nat) (d : Fin 4) (a b : Fin 16) : Option Instr :=
  match f with
  | 0 => some (.mpy c d a b)
  | 1 => some (.mpf c d a b)
  | 2 => some (.mac c d a b)
  | 3 => some (.macf c d a b)
  | 4 => some (.msu c d a b)
  | 5 => some (.msuf c d a b)
  | _ => none

/-- Major 0x05 (R217). -/
def accWord (c : CoreId) (w : Word) : Option Instr :=
  let ga := regAt w 10
  let gd := regAt w 14
  match fieldOf w 0 6 with
  | 0x00 => (accAt w 14).map fun d => .aclr c d
  | 0x01 => (accAt w 14).bind fun d => (accAt w 10).map fun a => .aadd c d a
  | 0x02 => (accAt w 14).bind fun d => (accAt w 10).map fun a => .asub c d a
  | 0x03 => (accAt w 14).map fun d => .ash c d (BitVec.ofNat 6 (fieldOf w 8 6))
  | 0x04 => (accAt w 14).map fun d => .mvgL c d ga
  | 0x05 => (accAt w 14).map fun d => .mvgH c d ga
  | 0x06 => (accAt w 14).map fun d => .mvgG c d ga
  | 0x07 => (accAt w 14).map fun d => .mvgI c d ga
  | 0x08 => (accAt w 14).map fun d => .mvgF c d ga
  | 0x10 => (accAt w 10).map fun a => .mvaL c gd a
  | 0x11 => (accAt w 10).map fun a => .mvaH c gd a
  | 0x12 => (accAt w 10).map fun a => .mvaG c gd a
  | 0x13 => (accAt w 10).map fun a => .mvaR c gd a
  | _ => none

/-- Major 0x06 (R218). -/
def miscWord (c : CoreId) (f : Nat) (d a b : Fin 16) : Option Instr :=
  match f with
  | 0 => some (.mov c d a)
  | 1 => some (.not c d a)
  | 2 => some (.neg c d a)
  | 3 => some (.negs c d a)
  | 4 => some (.abs c d a)
  | 5 => some (.clz c d a)
  | 6 => some (.exo c d a b)
  | 7 => some (.ino c d a b)
  | _ => none

/-- Major 0x0E (R219): bits 7:2 and x must be 0. -/
def octetWord (c : CoreId) (w : Word) : Option Instr :=
  let k := BitVec.ofNat 2 (fieldOf w 0 2)
  if w.getLsbD 9 ∨ fieldOf w 2 6 ≠ 0 then none
  else if w.getLsbD 8 then some (.inoi c (regAt w 14) (regAt w 10) k) else some (.exoi c (regAt w 14) (regAt w 10) k)

/-- Major 0x00 (R223): fields that an instruction does not use must be 0. -/
def systemWord (c : CoreId) (w : Word) : Option Instr :=
  let s := BitVec.ofNat 5 (fieldOf w 5 5)
  let bare := fieldOf w 5 13 == 0
  match fieldOf w 0 5 with
  | 0 => onlyIf bare (.nop c)
  | 1 => onlyIf (fieldOf w 10 4 == 0) (.mfs c (regAt w 14) s)
  | 2 => onlyIf (fieldOf w 14 4 == 0) (.mts c s (regAt w 10))
  | 3 => onlyIf (fieldOf w 5 5 == 0) (.trap c (BitVec.ofNat 8 (fieldOf w 10 8)))
  | 4 => onlyIf bare (.brk c)
  | 5 => onlyIf bare (.wfi c)
  | 6 => onlyIf bare (.wst c)
  | 7 => onlyIf bare (.cpwait c)
  | _ => none

/-- A word that may not stand in a delay slot or under a prefix (R186, R188). -/
def pairBars (w : Word) : Bool :=
  let m := fieldOf w 18 6
  m == 0x20 || m == 0x21 || m == 0x22 || m == 0x24
    || (m == 0x00 && ([3, 5, 6, 7] : List Nat).contains (fieldOf w 0 5))

/-- A word that writes lc (R188). -/
def writesLc (w : Word) : Bool := fieldOf w 18 6 == 0 && fieldOf w 0 5 == 2 && fieldOf w 5 5 == 2

/-- The two delay slots that begin k words after the branch (R186, R222). -/
def slotsAt (mem : Nat → Word) (k : Nat) : Slots :=
  let x1 := hasExt (mem k)
  let w2 := mem (k + 1 + b2n x1)
  { x1 := x1, x2 := hasExt w2, bad := pairBars (mem k) || pairBars w2 }

/-- Majors 0x20 to 0x24 (R212, R221, R222). -/
def flowWord (c : CoreId) (mem : Nat → Word) : Option Instr :=
  let w := mem 0
  match fieldOf w 18 6 with
  | 0x20 => (targetAt w (mem 1)).map fun t => .branch c (BitVec.ofNat 4 (fieldOf w 14 4)) t (slotsAt mem (targetLen t))
  | 0x21 => (targetAt w (mem 1)).bind fun t => onlyIf (fieldOf w 14 4 == 0) (.call c t (slotsAt mem (targetLen t)))
  | 0x22 => match fieldOf w 0 6 with
    | 0 => onlyIf (fieldOf w 14 4 == 0 && fieldOf w 6 4 == 0) (.jr c (regAt w 10) (slotsAt mem 1))
    | 1 => some (.calr c (regAt w 10) (slotsAt mem 1))
    | 2 => onlyIf (fieldOf w 6 12 == 0) (.reti c (slotsAt mem 1))
    | _ => none
  | 0x24 =>
    let x := hasExt (mem 1)
    let bad := pairBars (mem 1) || writesLc (mem 1)
    if fieldOf w 14 3 ≠ 0 then none
    else if w.getLsbD 17 then onlyIf (fieldOf w 0 10 == 0) (.rpt c (.reg (regAt w 10)) x bad)
    else some (.rpt c (.imm (BitVec.ofNat 10 (fieldOf w 0 10))) x bad)
  | _ => none

/-! ## Coprocessors (R224, R228 to R231, R350) -/

/-- Major 0x3C (R228). -/
def cp0Word (c : CoreId) (op : Nat) (d a b : Fin 16) : Option Instr :=
  if op < 0x10 then some (.c0wr c (Fin.ofNat 16 op) a)
  else if op < 0x20 then some (.c0rd c d (Fin.ofNat 16 op))
  else match op with
    | 0x20 => some (.c0code c)
    | 0x21 => some (.c0eval c)
    | 0x22 => some (.c0cnt c d a)
    | 0x23 => some (.c0ext c d a b)
    | 0x24 => some (.c0dep c d a b)
    | 0x25 => some (.c0nsym c d a)
    | _ => none

/-- Major 0x3D on LK, A0 and A1 (R229). -/
def cp1Word (c : CoreId) (op : Nat) (d a : Fin 16) : Option Instr :=
  match op with
  | 0x00 => some (.c1crc c a)
  | 0x01 => some (.c1crco c a)
  | 0x02 => some (.c1rdc c d)
  | 0x03 => some (.c1wrc c a)
  | 0x04 => some (.c1ini c)
  | 0x08 => some (.c1pn9 c d a)
  | 0x09 => some (.c1pn9o c d a)
  | 0x0A => some (.c1wrp c a)
  | 0x0B => some (.c1rdp c d)
  | 0x10 => some (.c1scr c d a)
  | 0x11 => some (.c1wrs c a)
  | 0x12 => some (.c1rds c d)
  | _ => none

/-- What the operations of the crypto engine do. -/
abbrev Meaning := State → Host.Outcome State Fault Refusal

/-- A meaning where a condition on the fields holds. -/
def meansIf (p : Bool) (m : Meaning) : Option Meaning := if p then some m else none

/-- Major 0x3D on the Ashlar core (R349, R350): an index is d × 16 + b in an operation that writes the engine, a × 16 + b in one that
reads it. -/
def engineWord (op : Nat) (d a b : Fin 16) : Option Meaning :=
  let wi := d.val * 16 + b.val
  let ri := a.val * 16 + b.val
  match op with
  | 0x00 => meansIf (decide (wi < 11)) (execK1key (Fin.ofNat 11 wi) a)
  | 0x01 => some execK1kek
  | 0x02 => some (execK1cfg a)
  | 0x03 => some execK1clr
  | 0x04 => meansIf (decide (wi < 6)) (execK1bw (Fin.ofNat 6 wi) a)
  | 0x05 => meansIf (decide (ri < 6)) (execK1br d (Fin.ofNat 6 ri))
  | 0x06 => some execK1enc
  | 0x07 => some execK1dec
  | 0x08 => some execK1hini
  | 0x09 => meansIf (decide (wi < 43)) (execK1hw (Fin.ofNat 43 wi) a)
  | 0x0A => some execK1hrun
  | 0x0B => meansIf (decide (ri < 22)) (execK1hr d (Fin.ofNat 22 ri))
  | 0x0C => some (execK1st d)
  | 0x10 => some (execK1rsa a b)
  | 0x11 => some (execK1rng d)
  | _ => none

/-- Major 0x3E (R230). -/
def cp2Word (c : CoreId) (op : Nat) (d a b : Fin 16) : Option Instr :=
  match op with
  | 0x00 => some (.cadd c d a b)
  | 0x01 => some (.csub c d a b)
  | 0x02 => some (.cconj c d a)
  | 0x03 => some (.cmul c d a b)
  | 0x04 => some (.cmulc c d a b)
  | 0x05 => some (.crot c d a b)
  | 0x06 => some (.cpwr c d a)
  | 0x07 => some (.cmac c a b)
  | 0x08 => some (.cmacc c a b)
  | 0x09 => some (.cclr c)
  | 0x0A => some (.crdr c d)
  | 0x0B => some (.crdi c d)
  | 0x0C => some (.crdrh c d)
  | 0x0D => some (.crdrl c d)
  | 0x0E => some (.crdih c d)
  | 0x0F => some (.crdil c d)
  | 0x10 => some (.cwrr c a b)
  | 0x11 => some (.cwri c a b)
  | _ => none

/-! ## A word (R211, R213) -/

/-- The instruction of core c whose words stand from place 0 of a memory on: none where its encoding is illegal (R211). A field that no
rule makes 0 and that the instruction does not use is ignored (assumption 124). The operations of the crypto engine stand in
`engineWord`. -/
def instrOf (c : CoreId) (mem : Nat → Word) : Option Instr :=
  let w := mem 0
  let d := regAt w 14
  let a := regAt w 10
  let b := regAt w 6
  let f := fieldOf w 0 6
  match fieldOf w 18 6 with
  | 0x00 => systemWord c w
  | 0x01 => aluWord c f d a b
  | 0x02 => shiftWord c f d a b
  | 0x03 => (accAt w 14).bind fun d => mulWord c f d a b
  | 0x04 => if d.val % 2 = 1 then none else match f with
    | 0 => some (.div c d a b)
    | 1 => some (.divu c d a b)
    | _ => none
  | 0x05 => accWord c w
  | 0x06 => miscWord c f d a b
  | 0x08 => (imm9At w (mem 1)).map fun i => .addi c d a i
  | 0x09 => (imm9At w (mem 1)).map fun i => .subi c d a i
  | 0x0A => (imm9At w (mem 1)).map fun i => .andi c d a i
  | 0x0B => (imm9At w (mem 1)).map fun i => .ori c d a i
  | 0x0C => (imm9At w (mem 1)).map fun i => .xori c d a i
  | 0x0D => shiftImmWord c w
  | 0x0E => octetWord c w
  | 0x10 => (imm13At w (mem 1)).map fun i => .ldi c d i
  | 0x14 => (addrAt w (mem 1)).map fun m => .ld c d m
  | 0x15 => (addrAt w (mem 1)).map fun m => .st c d m
  | 0x3C => cp0Word c f d a b
  | 0x3D => if c = .ash then none else cp1Word c f d a
  | 0x3E => cp2Word c f d a b
  | 0x3F => some (.c3 c d a b (BitVec.ofNat 6 f))
  | _ => flowWord c mem

/-- The words from a core's pc on. -/
def State.wordsAt (s : State) (c : CoreId) (i : Nat) : Word := s.codeWord c ((s.core c).pc + BitVec.ofNat 24 i).toNat

/-- What the instruction at a core's pc does; none for a word that spells no instruction (R211). -/
def State.meaningAt (s : State) (c : CoreId) : Option Meaning :=
  let w := s.wordsAt c 0
  if c = .ash ∧ fieldOf w 18 6 = 0x3D then engineWord (fieldOf w 0 6) (regAt w 14) (regAt w 10) (regAt w 6)
  else (instrOf c (s.wordsAt c)).map exec

/-- A core issues what stands at its pc: the instruction, or ILLEGAL_OP (R197, R211) for a word that spells none. -/
def State.issueAtPc (s : State) (c : CoreId) : Host.Outcome State Fault Refusal :=
  match s.meaningAt c with
  | some m => m s
  | none => .next (s.attempt c 1 (some 2) 0 id)

end Sys2Proof.Machine
end

