-- ==== Sys2Proof/Tests/Slice0.lean ====
section
/-! SUPPORT. Tests: an ill-formed term for each check of well-formedness, and for every statement states and operands that meet the hypotheses of
its clauses together, with what the spec's rule gives there. The expected values are worked out from the rules by hand. -/
namespace Sys2Proof.Tests
set_option Elab.async false
open Sys2Proof Sys2Proof.Machine

/-- A command answers a next state of which a check holds. -/
def runs (i : Instr) (s : State) (p : State → Bool) : Bool :=
  match exec i s with
  | .next t => p t
  | _ => false

/-- A command leaves the state as it is. -/
def idles (i : Instr) (s : State) : Bool := runs i s fun t => decide (t = s)

/-- Registers take values, one after the other. -/
def withRegs (s : State) (l : List (Nat × Word)) : State := l.foldl (fun s e => s.setReg e.1 e.2) s

/-- The part after reset with registers set. -/
def part (l : List (Nat × Word)) : State := withRegs State.reset l

/-! ## Well-formedness (R11, R17 and the sizes of what a command brings) -/

/-- R11, R17: a register write names an address of peripheral space, and a block's commands come from a master that reaches it. -/
theorem test_wellFormed_masters :
    (Instr.registerWrite .a0 0x200000#24 0#24).wellFormed = false ∧ (Instr.registerWrite .a0 0xF00065#24 0#24).wellFormed = true
    ∧ (∀ m ∈ [Master.radio, .tw, .ash, .hl], ∀ i ∈ [Instr.semaphoreTake m 0, .semaphoreRelease m 0 0#24, .tbCnt0Read m, .armStage m 0#24, .armCommit m 0#24,
        .disarmStage m 0#24, .disarmCommit m 0#24, .absoluteValueStage m 0 true 0#24, .absoluteValueLoad m 0 0#24, .captureRead m 0, .asnRead m, .asnSetRequest m 0#24,
        .hopListCommit m 0#24, .slotArm m 0#24, .slotAbort m 0#24, .resultRead m, .coastEnter m 0#24, .bankSwitchRequest m 0#24, .cellAlloc m, .cellAllocReserve m,
        .enqueue m 0#24, .dequeue m 0, .program m 0#24, .erase m 0#24, .suspend m 0#24 true, .resume m 0#24, .journalWrite m 0#24, .journalIncrement m 0#24,
        .calibrationWrite m 0#24, .calendarFreeze m, .calendarRelease m, .shadowStale m, .daliRxRead m, .headRead m, .firmwareEntry m 0#24],
      i.wellFormed = false) := by decide +kernel

/-- R11, R328: the commands of the mailbox come from a master that reaches peripheral space. -/
theorem test_wellFormed_mailbox :
    ∀ m ∈ [Master.radio, .tw, .ash, .hl], ∀ i ∈ [Instr.mailboxClaim m, .getInfo m 0#10, .getCert m 0#10, .random m 0#10, .hashStart m 0#10, .hashData m 0#10,
        .verifyConfig m 0#10, .verifyImage m 0#10, .commitBoot m 0#10, .applySec m 0#10, .registerOwner m 0#10, .transferOwner m 0#10, .attest m 0#10, .verifyToken m 0#10,
        .loadLinkKey m 0#10, .clearLinkKey m 0#10, .fcntReserve m 0#10, .fcntRaise m 0#10, .debugChallenge m 0#10, .debugUnlock m 0#10, .mailboxRelease m 0#24 true,
        .withdraw m 0#24 true],
      i.wellFormed = false := by decide +kernel

/-- The sizes that a command's operands cannot exceed. -/
theorem test_wellFormed_sizes :
    (Instr.flashRead .a0 0#24 false 5).wellFormed = false ∧ (Instr.flashRead .a0 0x200000#24 false 0).wellFormed = false ∧ (Instr.flashRead .tw 0#24 false 0).wellFormed = false
    ∧ (Instr.flashRead .ash 0#24 true 4).wellFormed = true ∧ (Instr.bootSequence [512] [] [] true false true).wellFormed = false
    ∧ (Instr.bootSequence [] [512] [] true false true).wellFormed = false ∧ (Instr.bootSequence [] [] [512] true false true).wellFormed = false
    ∧ (Instr.applicationRestart [512] []).wellFormed = false ∧ (Instr.applicationRestart [] [512]).wellFormed = false
    ∧ (Instr.updHeader 0 0#16 [] true).wellFormed = false ∧ (Instr.updBlock 0 0#16 0#24 [] true true).wellFormed = false
    ∧ (Instr.pageReceived 0#8 0#24 []).wellFormed = false ∧ (Instr.schedSet 0#16 [] []).wellFormed = false
    ∧ (Instr.arbitrationRaise .lk).wellFormed = true := by decide +kernel

/-- R106, R301, R328, R372, R422: lists that are too long. -/
theorem test_wellFormed_lists (os : List Octet) (ws : List Word) (ho : 2047 < os.length) (hw : 513 < ws.length) :
    (Instr.frameEnd false os).wellFormed = false ∧ (Instr.meshSend 0#16 os).wellFormed = false ∧ (Instr.norWrite 0#16 0#24 ws).wellFormed = false
    ∧ (Instr.ashlar 0#16 0#8 ws).wellFormed = false ∧ (Instr.heartbeatReceived 0#8 ws).wellFormed = false ∧ (Instr.stateReceived 0#8 ws).wellFormed = false
    ∧ (Instr.dataReceived 0#8 ws).wellFormed = false ∧ (Instr.hlFrameReceived ws).wellFormed = false ∧ (Instr.spimTransferDone os).wellFormed = false ∧ (Instr.ackReceived os).wellFormed = false
    ∧ (Instr.i2cTransferDone 0 os).wellFormed = false := by
  simp [Instr.wellFormed]; omega

/-- R80, R94, R106: a header brings at most 2,047 octets, a sync symbol the powers of at most 96 data carriers, and a survey sample those of at most 24 groups. -/
theorem test_wellFormed_received (h : RxHeader) (y : RxSync) (ps : List Nat) (hm : 2047 < h.mac.length) (ha : 96 < y.sigA.length) (hp : 24 < ps.length) :
    (Instr.headerReceived false h).wellFormed = false ∧ (Instr.syncWordMatch false y).wellFormed = false ∧ (Instr.surveySampleDone false ps).wellFormed = false := by
  simp [Instr.wellFormed]; omega


/-! ## The integer instructions (R174 to R178, R190 to R192, R214 to R219) -/

/-- A0 at the start of SRAM with g1 on and sr given. -/
def onA0 (g : List Word) (sr : Word := 0#24) : State :=
  { State.reset with a0 := { State.reset.a0 with pc := 0x200000#24, g := 0#24 :: g ++ List.replicate (15 - g.length) 0#24, sr := sr } }

/-- The Ashlar core with g1 on. -/
def onAsh (g : List Word) : State := { State.reset with ashc := { State.reset.ashc with g := 0#24 :: g ++ List.replicate (15 - g.length) 0#24 } }

/-- LK in its link RAM. -/
def onLk : State := { part [(Reg.SYS_CLKSTAT, 0x200000#24)] with lk := { State.reset.lk with run := .run } }

/-- Once an instruction's results have landed, g3 holds a value and sr another. -/
def gives (i : Instr) (s : State) (v sr : Word) : Bool := runs i s fun t => ((t.drain .a0).a0.gr 3, (t.drain .a0).a0.sr) == (v, sr)

/-- R182, R194: cores that stand at a boundary with nothing in flight issue there. -/
theorem test_ready :
    (onA0 []).ready .a0 1 ∧ (onA0 []).ready .a0 2 ∧ onLk.ready .lk 2 ∧ (onAsh []).ready .ash 2 ∧ (onA0 []).settled .a0
    ∧ ({ onA0 [] with a1 := (onA0 []).a0 }).ready .a1 1 := by decide +kernel

/-- R178, R214: overflow, borrow, saturation and the logic of the ALU. -/
theorem test_AluResults :
    gives (.add .a0 3 1 2) (onA0 [0x7FFFFF#24, 1#24]) 0x800000#24 0x89#24 = true ∧ gives (.addc .a0 3 1 2) (onA0 [0xFFFFFF#24, 0#24] 2#24) 0#24 6#24 = true
    ∧ gives (.sub .a0 3 1 2) (onA0 [1#24, 2#24]) 0xFFFFFF#24 8#24 = true ∧ gives (.subc .a0 3 1 2) (onA0 [5#24, 3#24]) 1#24 2#24 = true
    ∧ gives (.adds .a0 3 1 2) (onA0 [0x7FFFFF#24, 1#24]) 0x7FFFFF#24 0x81#24 = true ∧ gives (.subs .a0 3 1 2) (onA0 [0x800000#24, 1#24]) 0x800000#24 0x89#24 = true
    ∧ gives (.and .a0 3 1 2) (onA0 [0xF0F0F0#24, 0xFF00FF#24]) 0xF000F0#24 8#24 = true ∧ gives (.or .a0 3 1 2) (onA0 [0xF0F0F0#24, 0xFF00FF#24]) 0xFFF0FF#24 8#24 = true
    ∧ gives (.xor .a0 3 1 2) (onA0 [0xF0F0F0#24, 0xFF00FF#24]) 0x0FF00F#24 0#24 = true ∧ gives (.andn .a0 3 1 2) (onA0 [0xF0F0F0#24, 0xFF00FF#24]) 0x00F000#24 0#24 = true
    ∧ gives (.min .a0 3 1 2) (onA0 [0xFFFFFF#24, 1#24]) 0xFFFFFF#24 8#24 = true ∧ gives (.max .a0 3 1 2) (onA0 [0xFFFFFF#24, 1#24]) 1#24 0#24 = true
    ∧ gives (.minu .a0 3 1 2) (onA0 [0xFFFFFF#24, 1#24]) 1#24 0#24 = true ∧ gives (.maxu .a0 3 1 2) (onA0 [0xFFFFFF#24, 1#24]) 0xFFFFFF#24 8#24 = true
    ∧ runs (.add .a0 0 1 2) (onA0 [1#24, 2#24]) (fun t => t.a0.gr 0 == 0#24 && t.a0.pc == 0x200001#24) = true := by decide +kernel

/-- R190, R215: the count is the low 6 bits; a left shift that overflows saturates. -/
theorem test_ShiftResults :
    gives (.shl .a0 3 1 2) (onA0 [1#24, 65#24]) 2#24 0#24 = true ∧ gives (.shr .a0 3 1 2) (onA0 [0x800000#24, 23#24]) 1#24 0#24 = true
    ∧ gives (.sar .a0 3 1 2) (onA0 [0x800000#24, 30#24]) 0xFFFFFF#24 8#24 = true ∧ gives (.shls .a0 3 1 2) (onA0 [0x400000#24, 1#24]) 0x7FFFFF#24 0x81#24 = true
    ∧ gives (.shli .a0 3 1 24#6) (onA0 [1#24]) 0#24 4#24 = true ∧ gives (.shri .a0 3 1 4#6) (onA0 [0xFF#24]) 0xF#24 0#24 = true
    ∧ gives (.sari .a0 3 1 4#6) (onA0 [0x800000#24]) 0xF80000#24 8#24 = true ∧ gives (.shlsi .a0 3 1 63#6) (onA0 [0xFFFFFF#24]) 0x800000#24 0x89#24 = true := by decide +kernel

/-- R181, R218, R219: moves, octets and immediates, short and of the extension word. -/
theorem test_MoveResults :
    gives (.mov .a0 3 1) (onA0 [7#24] 0x4#24) 7#24 0x4#24 = true ∧ gives (.not .a0 3 1) (onA0 [0#24]) 0xFFFFFF#24 8#24 = true
    ∧ gives (.neg .a0 3 1) (onA0 [0x800000#24]) 0x800000#24 0x89#24 = true ∧ gives (.negs .a0 3 1) (onA0 [0x800000#24]) 0x7FFFFF#24 0x81#24 = true
    ∧ gives (.abs .a0 3 1) (onA0 [0xFFFFFE#24]) 2#24 0#24 = true ∧ gives (.clz .a0 3 1) (onA0 [1#24]) 23#24 0#24 = true
    ∧ gives (.exo .a0 3 1 2) (onA0 [0x123456#24, 1#24]) 0x34#24 0#24 = true ∧ gives (.exo .a0 3 1 2) (onA0 [0x123456#24, 3#24]) 0#24 0#24 = true
    ∧ gives (.ino .a0 3 1 2) (onA0 [0xAB#24, 2#24, 0x123456#24]) 0x1234AB#24 0#24 = true ∧ gives (.exoi .a0 3 1 0#2) (onA0 [0x123456#24]) 0x12#24 0#24 = true
    ∧ gives (.inoi .a0 3 1 0#2) (onA0 [0xAB#24, 0#24, 0x123456#24]) 0xAB3456#24 0#24 = true ∧ gives (.addi .a0 3 1 (.short 0x1FF#9)) (onA0 [5#24]) 4#24 2#24 = true
    ∧ gives (.subi .a0 3 1 (.ext 6#24)) (onA0 [5#24]) 0xFFFFFF#24 8#24 = true ∧ gives (.andi .a0 3 1 (.short 0x1FF#9)) (onA0 [0xFFFFFF#24]) 0x1FF#24 0#24 = true
    ∧ gives (.ori .a0 3 1 (.ext 0x800000#24)) (onA0 [1#24]) 0x800001#24 8#24 = true ∧ gives (.xori .a0 3 1 (.short 1#9)) (onA0 [1#24]) 0#24 4#24 = true
    ∧ gives (.ldi .a0 3 (.short 0x1FFF#13)) (onA0 []) 0xFFFFFF#24 0#24 = true
    ∧ runs (.ldi .a0 3 (.ext 0x123456#24)) (onA0 []) (fun t => t.a0.gr 3 == 0x123456#24 && t.a0.pc == 0x200002#24) = true := by decide +kernel

/-- a1 of A0 once an instruction's results have landed, and S. -/
def givesAcc (i : Instr) (s : State) (v : Acc) (wrap : Bool) : Bool :=
  runs i s fun t => ((t.drain .a0).a0.ar 1, (t.drain .a0).a0.sr.getLsbD 7) == (v, wrap)

/-- A0 with g1, g2 and the accumulators. -/
def accs (g : List Word) (acc : List Acc) : State := { onA0 g with a0 := { (onA0 g).a0 with acc := acc } }

/-- R175, R216, R217: products and accumulators, with S where the exact result lies outside acc56. -/
theorem test_AccumulatorResults :
    givesAcc (.mpy .a0 1 1 2) (onA0 [0xFFFFFE#24, 3#24]) (-6#56) false = true ∧ givesAcc (.mpf .a0 1 1 2) (onA0 [0xFFFFFE#24, 3#24]) (-12#56) false = true
    ∧ givesAcc (.mac .a0 1 1 2) (accs [2#24, 3#24] [0#56, 0x7FFFFFFFFFFFFF#56, 0#56, 0#56]) 0x80000000000005#56 true = true
    ∧ givesAcc (.macf .a0 1 1 2) (accs [2#24, 3#24] [0#56, 1#56, 0#56, 0#56]) 13#56 false = true ∧ givesAcc (.msu .a0 1 1 2) (accs [2#24, 3#24] [0#56, 1#56, 0#56, 0#56]) (-5#56) false = true
    ∧ givesAcc (.msuf .a0 1 1 2) (accs [2#24, 3#24] [0#56, 1#56, 0#56, 0#56]) (-11#56) false = true ∧ givesAcc (.aclr .a0 1) (accs [] [0#56, 5#56, 0#56, 0#56]) 0#56 false = true
    ∧ givesAcc (.aadd .a0 1 2) (accs [] [0#56, 5#56, 6#56, 0#56]) 11#56 false = true ∧ givesAcc (.asub .a0 1 2) (accs [] [0#56, 0x80000000000000#56, 1#56, 0#56]) 0x7FFFFFFFFFFFFF#56 true = true
    ∧ givesAcc (.ash .a0 1 4#6) (accs [] [0#56, 1#56, 0#56, 0#56]) 16#56 false = true ∧ givesAcc (.ash .a0 1 0x3C#6) (accs [] [0#56, 0x80000000000000#56, 0#56, 0#56]) 0xF8000000000000#56 false = true
    ∧ givesAcc (.mvgL .a0 1 1) (accs [0xABCDEF#24] [0#56, 0#56, 0#56, 0#56]) 0xABCDEF#56 false = true ∧ givesAcc (.mvgH .a0 1 1) (accs [0xABCDEF#24] [0#56, 1#56, 0#56, 0#56]) 0xABCDEF000001#56 false = true
    ∧ givesAcc (.mvgG .a0 1 1) (accs [0xABCDEF#24] [0#56, 1#56, 0#56, 0#56]) 0xEF000000000001#56 false = true ∧ givesAcc (.mvgI .a0 1 1) (accs [0xFFFFFF#24] [0#56, 1#56, 0#56, 0#56]) (-1#56) false = true
    ∧ givesAcc (.mvgF .a0 1 1) (accs [1#24] [0#56, 1#56, 0#56, 0#56]) 0x1000000#56 false = true := by decide +kernel

/-- R191, R217: parts of an accumulator, and rounding with saturation. -/
theorem test_AccumulatorMoves :
    gives (.mvaL .a0 3 1) (accs [] [0#56, 0x12345678ABCDEF#56, 0#56, 0#56]) 0xABCDEF#24 0#24 = true ∧ gives (.mvaH .a0 3 1) (accs [] [0#56, 0x12345678ABCDEF#56, 0#56, 0#56]) 0x345678#24 0#24 = true
    ∧ gives (.mvaG .a0 3 1) (accs [] [0#56, 0xF2345678ABCDEF#56, 0#56, 0#56]) 0xF2#24 0#24 = true ∧ gives (.mvaR .a0 3 1) (accs [] [0#56, 0x1800000#56, 0#56, 0#56]) 2#24 0#24 = true
    ∧ gives (.mvaR .a0 3 1) (accs [] [0#56, 0x7FFFFFFFFFFFFF#56, 0#56, 0#56]) 0x7FFFFF#24 0x81#24 = true := by decide +kernel

/-- R190, R192, R216: a quotient truncates, the remainder has the dividend's sign; a divisor of 0 sets DZ while DZ traps are off. -/
theorem test_DivideResults :
    runs (.div .a0 4 1 2) (onA0 [0xFFFFF9#24, 2#24]) (fun t => let k := (t.drain .a0).a0; (k.gr 4, k.gr 5, k.sr) == (0xFFFFFD#24, 0xFFFFFF#24, 8#24)) = true
    ∧ runs (.div .a0 4 1 2) (onA0 [0x800000#24, 0xFFFFFF#24]) (fun t => let k := (t.drain .a0).a0; (k.gr 4, k.gr 5, k.sr) == (0x7FFFFF#24, 0#24, 0x81#24)) = true
    ∧ runs (.div .a0 4 1 2) (onA0 [0xFFFFF9#24, 0#24]) (fun t => let k := (t.drain .a0).a0; (k.gr 4, k.gr 5, k.sr) == (0x800000#24, 0xFFFFF9#24, 0x48#24)) = true
    ∧ runs (.divu .a0 4 1 2) (onA0 [0xFFFFF9#24, 2#24]) (fun t => let k := (t.drain .a0).a0; (k.gr 4, k.gr 5, k.sr) == (0x7FFFFC#24, 1#24, 0#24)) = true
    ∧ runs (.divu .a0 4 1 2) (onA0 [7#24, 0#24]) (fun t => let k := (t.drain .a0).a0; (k.gr 4, k.gr 5, k.sr) == (0xFFFFFF#24, 7#24, 0x40#24)) = true := by decide +kernel


/-! ## Loads, stores, branches, special registers, exceptions and interrupts (R177 to R204, R220 to R223) -/

/-- R179, R180, R220: a load at distance 3 and a store, with the base's update; each clause's address lies in SRAM at an end of it. -/
theorem test_LoadsAndStores :
    isSram (addrMeans (onA0 [0x27FFFF#24]).a0 (.postInc 1)).2.1.toNat = true
    ∧ runs (.ld .a0 3 (.postInc 1)) ((onA0 [0x27FFFF#24]).setMem 0x27FFFF 0x123456#24)
        (fun t => t.a0.gr 3 == 0#24 && t.a0.gr 1 == 0x280000#24 && (t.drain .a0).a0.gr 3 == 0x123456#24) = true
    ∧ runs (.st .a0 2 (.preDec 1)) (onA0 [0x200001#24, 0xABCDEF#24]) (fun t => t.mem1 0x200000 == 0xABCDEF#24 && t.mem1 0x200001 == 0#24 && t.a0.gr 1 == 0x200000#24) = true
    ∧ runs (.st .a0 1 (.preDec 1)) (onA0 [0x200009#24]) (fun t => t.mem1 0x200008 == 0x200009#24 && t.a0.gr 1 == 0x200008#24) = true
    ∧ runs (.ld .a0 3 (.offset 1 0x3F#6)) ((onA0 [0x200001#24]).setMem 0x200000 7#24) (fun t => (t.drain .a0).a0.gr 3 == 7#24) = true
    ∧ runs (.ld .a0 3 (.offsetExt 1 0xFFFFFF#24)) ((onA0 [0x200001#24]).setMem 0x200000 7#24) (fun t => (t.drain .a0).a0.gr 3 == 7#24 && t.a0.pc == 0x200002#24) = true := by
  decide +kernel

/-- R15, R199: link RAM is out of A0's reach: a load brings 0 and BUS_ERR waits with its addresses. -/
theorem test_LoadsAndStores_busError :
    (onA0 []).ready .a0 2 ∧ isFlash 0xD00000 = false ∧ canRead .a0 0xD00000 = false
    ∧ runs (.ld .a0 3 (.absolute 0xD00000#24)) (onA0 []) (fun t => t.a0.fault == some { code := 5, efa := 0xD00000#24, eia := 0x200000#24 } && (t.drain .a0).a0.gr 3 == 0#24) = true
    ∧ runs (.st .a0 3 (.absolute 0xD00000#24)) (onA0 []) (fun t => t.a0.fault == some { code := 5, efa := 0xD00000#24, eia := 0x200000#24 } && t.mem1 0xD00000 == 0#24) = true := by
  decide +kernel

/-- Two slots of one word each. -/
def slots2 : Slots := { x1 := false, x2 := false, bad := false }

/-- A0 in a delay slot. -/
def inSlot (b : BranchState) : State := { onA0 [] with a0 := { (onA0 []).a0 with branch := some b } }

/-- R186, R196, R221, R222: branches taken and not taken, calls with their return address, and the slots. -/
theorem test_BranchesAndSlots :
    runs (.branch .a0 1#4 (.rel 0x10#13) slots2) (onA0 [] 4#24) (fun t => t.a0.branch == some { target := 0x200010#24, left := 2, src := 0x200000#24, reti := none }) = true
    ∧ runs (.branch .a0 1#4 (.rel 0x10#13) { slots2 with x1 := true }) (onA0 []) (fun t => t.a0.branch == some { target := 0x200004#24, left := 2, src := 0x200000#24, reti := none }) = true
    ∧ runs (.call .a0 (.ext 0x1234#24) slots2) (onA0 []) (fun t => t.a0.gr 15 == 0x200004#24 && (t.a0.branch.map (·.target)) == some 0x1234#24 && t.a0.pc == 0x200002#24) = true
    ∧ runs (.calr .a0 1 slots2) (onA0 [0x300#24]) (fun t => t.a0.gr 15 == 0x200003#24 && (t.a0.branch.map (·.target)) == some 0x300#24) = true
    ∧ runs (.jr .a0 1 slots2) (onA0 [0x300#24]) (fun t => t.a0.gr 15 == 0#24 && (t.a0.branch.map (·.target)) == some 0x300#24) = true
    ∧ runs (.reti .a0 slots2) (onA0 []) (fun t => (t.a0.branch.map (·.reti)) == some (some { epc := 0#24, esr := 0#24, elc := 0#24, ebt := 0#24 })) = true
    ∧ runs (.nop .a0) (inSlot { target := 0x300#24, left := 2, src := 0x1FFFFF#24, reti := none }) (fun t => (t.a0.branch.map (·.left)) == some 1 && t.a0.pc == 0x200001#24) = true
    ∧ runs (.nop .a0) (inSlot { target := 0x300#24, left := 1, src := 0x1FFFFE#24, reti := none }) (fun t => t.a0.branch == none && t.a0.pc == 0x300#24) = true := by decide +kernel

/-- R186, R196: the return from an exception restores pc, sr and lc; slots that were left run, and a repetition goes on. -/
theorem test_BranchesAndSlots_reti :
    runs (.nop .a0) (inSlot { target := 0x300#24, left := 1, src := 0x1FFFFE#24, reti := some { epc := 0x300#24, esr := 0x8#24, elc := 5#24, ebt := 0#24 } })
        (fun t => (t.a0.pc, t.a0.sr, t.a0.lc, t.a0.branch) == (0x300#24, 8#24, 5#24, none)) = true
    ∧ runs (.nop .a0) (inSlot { target := 0x300#24, left := 1, src := 0x1FFFFE#24, reti := some { epc := 0x300#24, esr := 0x400000#24, elc := 5#24, ebt := 0#24 } })
        (fun t => (t.a0.pc, t.a0.sr, t.a0.lc, t.a0.rptPc, t.a0.rptLeft) == (0x301#24, 0x400000#24, 5#24, some 0x300#24, 5)) = true
    ∧ runs (.nop .a0) (inSlot { target := 0x300#24, left := 1, src := 0x1FFFFE#24, reti := some { epc := 0x300#24, esr := 0x100000#24, elc := 0#24, ebt := 0x500#24 } })
        (fun t => (t.a0.pc, t.a0.branch) == (0x300#24, some { target := 0x500#24, left := 1, src := 0x300#24, reti := none })) = true := by decide +kernel

/-- R187: the prefix, a count of 0, an iteration and the last one. -/
theorem test_Repetition :
    runs (.rpt .a0 (.imm 0x3FF#10) false false) (onA0 []) (fun t => (t.a0.lc, t.a0.sr, t.a0.rptPc) == (1024#24, 0x400000#24, some 0x200000#24)) = true
    ∧ runs (.rpt .a0 (.reg 1) false false) (onA0 [2000#24]) (fun t => t.a0.lc == 1024#24) = true
    ∧ runs (.rpt .a0 (.reg 1) true false) (onA0 [0#24]) (fun t => (t.a0.lc, t.a0.sr, t.a0.pc) == (0#24, 0#24, 0x200003#24)) = true
    ∧ runs (.nop .a0) { onA0 [] with a0 := { (onA0 []).a0 with rptPc := some 0x1FFFFF#24, lc := 2#24, rptLeft := 2, sr := 0x400000#24 } }
        (fun t => (t.a0.lc, t.a0.pc, t.a0.rptPc) == (1#24, 0x200000#24, some 0x1FFFFF#24)) = true
    ∧ runs (.nop .a0) { onA0 [] with a0 := { (onA0 []).a0 with rptPc := some 0x1FFFFF#24, lc := 1#24, rptLeft := 1, sr := 0x400000#24 } }
        (fun t => (t.a0.lc, t.a0.pc, t.a0.rptPc, t.a0.sr) == (0#24, 0x200001#24, none, 0#24)) = true := by decide +kernel

/-- R177, R223: a special register holds the bits that its field list gives it; cid of A1 is 2. -/
theorem test_SpecialRegisters :
    ([(1#5, 0x8800CF#24), (2#5, 0x7FF#24), (3#5, 1#24), (4#5, 0xFFFF00#24), (5#5, 0xFFFFFF#24), (6#5, 0xF800CF#24), (7#5, 0xFFFFFF#24), (8#5, 0xFFFFFF#24), (9#5, 0xEFFFFF#24),
        (10#5, 0xFFFFFF#24), (11#5, 0xFFFFFF#24)].all fun e =>
      runs (.mts .a0 e.1 1) (onA0 [0xFFFFFF#24]) (fun t => (t.drain .a0).a0.special .a0 e.1.toNat == e.2)) = true
    ∧ runs (.mfs .a1 3 12#5) { onA0 [] with a1 := (onA0 []).a0 } (fun t => t.a1.gr 3 == 2#24) = true
    ∧ runs (.mfs .a0 3 0#5) (onA0 []) (fun t => t.a0.gr 3 == 0x200000#24) = true ∧ runs (.nop .a0) (onA0 []) (fun t => t.a0.pc == 0x200001#24 && t.a0.cyc == 1#24) = true := by decide +kernel

/-- A0 with its vectors at 0x200100, those of traps, interrupts and faults at 0x300 + the vector. -/
def vectored : State :=
  { onA0 [] with a0 := { (onA0 []).a0 with ivb := 0x200100#24 }, mem := (List.range 32).map fun i => (0x200100 + i, BitVec.ofNat 24 (0x300 + i)) }

/-- The vector entered and the cause of a command on a state. -/
def enters (i : Instr) (s : State) (vec : Nat) (cause epc : Word) : Bool :=
  runs i s fun t => (t.a0.pc, t.a0.ecause, t.a0.epc, t.a0.sr.getLsbD 23) == (BitVec.ofNat 24 (0x300 + vec), cause, epc, true)

/-- R195, R197: precise exceptions outside a handler. -/
theorem test_Exceptions :
    vectored.ready .a0 1 ∧ vectored.vectorReads .a0 0 ∧ vectored.vectorReads .a0 9 ∧ enters (.trap .a0 5#8) vectored 7 0x507#24 0x200001#24 = true ∧ enters (.brk .a0) vectored 8 8#24 0x200000#24 = true
    ∧ runs (.brk .a0) { vectored with dbg := { vectored.dbg with att := true } } (fun t => t.a0.dbgHalt && t.a0.pc == 0x200000#24) = true
    ∧ enters (.exoi .a0 1 1 3#2) vectored 2 2#24 0x200000#24 = true ∧ enters (.inoi .a0 1 1 3#2) vectored 2 2#24 0x200000#24 = true ∧ enters (.mfs .a0 1 14#5) vectored 2 2#24 0x200000#24 = true
    ∧ enters (.mts .a0 0#5 1) vectored 2 2#24 0x200000#24 = true ∧ enters (.mts .a0 12#5 1) vectored 2 2#24 0x200000#24 = true ∧ enters (.div .a0 3 1 2) vectored 2 2#24 0x200000#24 = true
    ∧ enters (.divu .a0 3 1 2) vectored 2 2#24 0x200000#24 = true ∧ enters (.c3 .a0 1 1 1 0#6) vectored 2 2#24 0x200000#24 = true
    ∧ enters (.branch .a0 15#4 (.rel 0#13) slots2) vectored 2 2#24 0x200000#24 = true
    ∧ (∀ i ∈ [Instr.branch .a0 0#4 (.rel 0#13) { slots2 with bad := true }, .call .a0 (.rel 0#13) { slots2 with bad := true }, .jr .a0 1 { slots2 with bad := true },
        .calr .a0 1 { slots2 with bad := true }, .reti .a0 { slots2 with bad := true }, .rpt .a0 (.imm 1#10) false true], enters i vectored 3 3#24 0x200000#24 = true)
    ∧ enters (.div .a0 2 1 3) { vectored with a0 := { vectored.a0 with sr := 0x80000#24 } } 4 4#24 0x200000#24 = true
    ∧ enters (.divu .a0 2 1 3) { vectored with a0 := { vectored.a0 with sr := 0x80000#24 } } 4 4#24 0x200000#24 = true := by decide +kernel

/-- R201: an exception in a handler halts A0, with the second code. -/
theorem test_Exceptions_double :
    runs (.trap .a0 5#8) (onA0 [] 0x800000#24) (fun t => t.a0.run == .halted && t.a0.ecause == 0x270000#24 && t.isPending 108) = true
    ∧ runs (.trap .a1 5#8) { State.reset with a1 := (onA0 [] 0x800000#24).a0 } (fun t => t.a1.run == .halted && t.isPending 109) = true := by decide +kernel

/-- R202 to R204: `wfi` and `wst`, and the ends of their waits. -/
theorem test_Waiting :
    runs (.wfi .a0) (onA0 []) (fun t => t.a0.run == .wfi && t.a0.pc == 0x200001#24) = true
    ∧ runs (.wfi .a0) { part [(Reg.INT_SRC 112, 0xA10000#24), (Reg.INT_PEND 4, 0x010000#24)] with a0 := (onA0 []).a0 } (fun t => t.a0.run == .run) = true
    ∧ runs (.wfiWake .a0) { part [(Reg.INT_SRC 112, 0xA10000#24), (Reg.INT_PEND 4, 0x010000#24)] with a0 := { (onA0 []).a0 with run := .wfi } } (fun t => t.a0.run == .run) = true
    ∧ runs (.wst .a0) (onA0 []) (fun t => t.a0.run == .wst && t.a0.pc == 0x200000#24 && t.a0.waits == [{ addr := 0x200000#24 }]) = true
    ∧ runs (.wst .a0) { onA0 [] with a0 := { (onA0 []).a0 with waits := [{ addr := 0x200000#24, seen := true }] } } (fun t => t.a0.pc == 0x200001#24 && t.a0.waits == []) = true
    ∧ runs (.wstResume .a0) { onA0 [] with a0 := { (onA0 []).a0 with run := .wst, waits := [{ addr := 0x200000#24, seen := true }] } } (fun t => t.a0.run == .run && t.a0.pc == 0x200001#24) = true := by decide +kernel

/-- A CP3 operation. -/
def op3 (st : Cp3State) : Cp3Op := { rd := 3, tag := 1, op := 5, ga := 1#24, gb := 2#24, st := st, ord := 7 }

/-- A0 with CP3 operations and discarded ones. -/
def cp3 (s : State) (ops : List Cp3Op) (disc : Nat) : State := { s with a0 := { s.a0 with cp3 := ops, disc := disc } }

/-- R204, R231 to R233: `cpwait` collects the oldest operation, faults with it, waits for it, or passes. -/
theorem test_Collecting :
    runs (.cpwait .a0) (onA0 []) (fun t => t.a0.pc == 0x200001#24) = true
    ∧ runs (.cpwait .a0) (cp3 (onA0 []) [op3 (.result 0x55#24), op3 .sent] 0) (fun t => t.a0.gr 3 == 0x55#24 && t.a0.cp3 == [op3 .sent]) = true
    ∧ runs (.cpwait .a0) (cp3 (onA0 []) [op3 .sent] 0) (fun t => t.a0.run == .cpwait && t.a0.pc == 0x200000#24) = true
    ∧ enters (.cpwait .a0) (cp3 vectored [op3 (.failed 2)] 0) 9 9#24 0x200000#24 = true
    ∧ runs (.cpwait .a0) (cp3 vectored [op3 (.failed 2)] 0) (fun t => t.a0.cp3cause == 2 && t.a0.cp3 == []) = true
    ∧ enters (.cpwait .a0) (cp3 vectored [] 1) 9 9#24 0x200000#24 = true
    ∧ runs (.cpwaitCollect .a0) (cp3 { onA0 [] with a0 := { (onA0 []).a0 with run := .cpwait } } [op3 (.result 0x55#24)] 0)
        (fun t => t.a0.gr 3 == 0x55#24 && t.a0.run == .run && t.a0.pc == 0x200001#24) = true := by decide +kernel

/-- Source 112 presented to A0, unmasked. -/
def presented : State :=
  { withRegs vectored [(Reg.INT_SRC 112, 0xA10000#24), (Reg.INT_PEND 4, 0x010000#24)] with a0 := { vectored.a0 with ie := 1#24 } }

/-- R194, R195, R199, R200: an interrupt is accepted and entered; an imprecise fault is entered with its addresses. -/
theorem test_InterruptEntry :
    presented.presentedTo .a0 = some 112 ∧ runs (.interruptAccept .a0) presented (fun t => t.a0.accepted == some 112 && t.activeFor 112 1 && ! t.isPending 112) = true
    ∧ presented.vectorReads .a0 (16 + 112)
    ∧ runs (.interruptEntry .a0) { presented with a0 := { presented.a0 with accepted := some 112 }, mem := presented.mem ++ [(0x200180, 0x777#24)] }
        (fun t => (t.a0.pc, t.a0.ecause, t.a0.accepted) == (0x777#24, 0x800070#24, none)) = true
    ∧ enters (.impreciseFault .a0) { vectored with a0 := { vectored.a0 with fault := some { code := 5, efa := 1#24, eia := 2#24 } } } 5 0x400005#24 0x200000#24 = true
    ∧ runs (.impreciseFault .a0) { vectored with a0 := { vectored.a0 with fault := some { code := 5, efa := 1#24, eia := 2#24 } } }
        (fun t => (t.a0.efa, t.a0.eia, t.a0.fault) == (1#24, 2#24, none)) = true
    ∧ runs (.interruptAccept .ash) { State.reset with ashc := { State.reset.ashc with ie := 1#24 }, intc := { State.reset.intc with ashPend := 0x0100#16 } }
        (fun t => t.ashc.accepted == some 8 && t.intc.ashAct == 0x0100#16 && t.intc.ashPend == 0#16) = true := by decide +kernel


/-! ## Coprocessors (R89, R90, R99, R224 to R237, R349 to R352) -/

/-- A0 with g1, g2 and CP0's registers. -/
def withCp0 (g cp : List Word) : State := { onA0 g with a0 := { (onA0 g).a0 with cp0 := cp ++ List.replicate (16 - cp.length) 0#24 } }

/-- g3 of A0 once an instruction's results have landed. -/
def g3 (i : Instr) (s : State) : Word :=
  match exec i s with
  | .next t => (t.drain .a0).a0.gr 3
  | _ => 0xDEAD#24

/-- R224, R227, R228: CP0's registers and its operations; with D at 0 and at 288. -/
theorem test_LoadingCoprocessor :
    runs (.c0wr .a0 3 1) (onA0 [0x123456#24]) (fun t => t.a0.cp0.getD 3 0#24 == 0x123456#24 && t.a0.cp0.getD 4 0#24 == 0#24) = true
    ∧ runs (.c0wr .a0 15 1) (onA0 [0xFFFFFF#24]) (fun t => t.a0.cp0.getD 15 0#24 == 0x7FF81F#24) = true
    ∧ g3 (.c0rd .a0 3 2) (withCp0 [] [1#24, 2#24, 9#24]) = 9#24 ∧ g3 (.c0rd .a0 3 15) (withCp0 [] (List.replicate 15 0#24 ++ [0x123456#24])) = 0x123456#24
    ∧ runs (.c0code .a0) (onA0 []) (fun t => (t.a0.c0run.map (·.left)) == some 27 && (t.a0.c0 15).getLsbD 23) = true
    ∧ g3 (.c0cnt .a0 3 1) (onA0 [0o12345600#24]) = 21#24 ∧ g3 (.c0ext .a0 3 1 2) (onA0 [0o12345670#24, 1#24]) = 2#24
    ∧ g3 (.c0dep .a0 3 1 2) (onA0 [0o7#24, 7#24]) = 7#24 ∧ g3 (.c0dep .a0 3 1 2) (onA0 [0o5#24, 0#24, 0o77777777#24]) = 0o57777777#24
    ∧ g3 (.c0nsym .a0 3 1) (onA0 [100#24]) = 0#24 ∧ g3 (.c0nsym .a0 3 1) (withCp0 [100#24] (List.replicate 15 0#24 ++ [0x90000#24])) = 3#24
    ∧ runs (.c0eval .a0) (withCp0 [] (List.replicate 12 0#24 ++ [0o60000000#24])) (fun t => (((t.drain .a0).a0.c0 15).getLsbD 21) == true) = true := by decide +kernel

/-- R225: at the end of its time the table lands. -/
theorem test_LoadingTableLands :
    let s := { onA0 [] with a0 := { (onA0 []).a0 with c0run := some { left := 5, tabs := [1#24, 2#24, 3#24], res := 0xFFFFFF#24 } } }
    (s.core .a0).inflight = [] ∧ s.ash.eng.aes = none ∧ s.ash.eng.sha = none
    ∧ runs (.c0codeDone .a0) s (fun t => t.a0.c0run == none && t.a0.cp0.drop 12 == [1#24, 2#24, 3#24, 0x7FF800#24]) = true := by decide +kernel

/-- R229: one octet of 0 through the CRC-24 generator, the whitening (its first 24 bits as IEEE 802.15.4 lists them, 0000 1111 0111 0000 1011 0011) and the scrambler's register. -/
theorem test_CrcAndWhitening :
    runs (.c1crco .a0 1) (onA0 [1#24]) (fun t => t.a0.crc == 0x864CFB#24) = true ∧ runs (.c1crc .a0 1) (onA0 [1#24]) (fun t => t.a0.crc == 0x864CFB#24) = true
    ∧ runs (.c1wrc .a0 1) (onA0 [7#24]) (fun t => t.a0.crc == 7#24) = true ∧ runs (.c1ini .a0) (onA0 []) (fun t => t.a0.crc == 0xB704CE#24) = true
    ∧ runs (.c1wrp .a0 1) (onA0 [0x200#24]) (fun t => t.a0.pn9 == 0#9) = true ∧ runs (.c1wrp .a0 1) (onA0 [0x3FF#24]) (fun t => t.a0.pn9 == 0x1FF#9) = true
    ∧ runs (.c1wrs .a0 1) (onA0 [0xFF#24]) (fun t => t.a0.scr == 0x7F#7) = true ∧ g3 (.c1rdc .a0 3) (onA0 []) = 0#24 ∧ g3 (.c1rdp .a0 3) (onA0 []) = 0#24
    ∧ g3 (.c1rds .a0 3) (onA0 []) = 0#24 ∧ g3 (.c1scr .a0 3 1) (onA0 [5#24]) = 5#24 ∧ runs (.c1pn9 .a0 3 1) (onA0 [0#24]) (fun t => (t.drain .a0).a0.gr 3 == 0xF00ECD#24) = true
    ∧ g3 (.c1pn9o .a0 3 1) (onA0 [0x1FF#24]) = (g3 (.c1pn9o .a0 3 1) (onA0 [0#24]) ^^^ 0xFF#24) := by decide +kernel

/-- re and im of A0 after an operation. -/
def reIm (i : Instr) (s : State) : Int × Int :=
  match exec i s with
  | .next t => (t.a0.cre.toInt, t.a0.cim.toInt)
  | _ => (0, 0)

/-- R174, R230: (2 + 3j) and (−1 + 4j) of cplx12 words, in units of 2^-11: sums saturate, products round, the accumulator is exact. -/
theorem test_ComplexArithmetic :
    g3 (.cadd .a0 3 1 2) (onA0 [0x7FF003#24, 0x001FFF#24]) = 0x7FF002#24 ∧ g3 (.csub .a0 3 1 2) (onA0 [0x800003#24, 0x001004#24]) = 0x800FFF#24
    ∧ g3 (.cconj .a0 3 1) (onA0 [0x001800#24]) = 0x0017FF#24 ∧ g3 (.cmul .a0 3 1 2) (onA0 [0x400000#24, 0x400400#24]) = 0x200200#24
    ∧ g3 (.cmulc .a0 3 1 2) (onA0 [0x400000#24, 0x400400#24]) = 0x200E00#24 ∧ g3 (.crot .a0 3 1 2) (onA0 [0x002003#24, 0#24]) = 0x002003#24
    ∧ g3 (.crot .a0 3 1 2) (onA0 [0x002003#24, 1#24]) = 0xFFD002#24 ∧ g3 (.crot .a0 3 1 2) (onA0 [0x002003#24, 2#24]) = 0xFFEFFD#24
    ∧ g3 (.crot .a0 3 1 2) (onA0 [0x002003#24, 3#24]) = 0x003FFE#24 ∧ g3 (.cpwr .a0 3 1) (onA0 [0x800800#24]) = 0x800000#24
    ∧ reIm (.cmac .a0 1 2) (onA0 [0x002003#24, 0xFFF004#24]) = (-14, 5) ∧ reIm (.cmacc .a0 1 2) (onA0 [0x002003#24, 0xFFF004#24]) = (10, -11)
    ∧ reIm (.cclr .a0) (onA0 []) = (0, 0) ∧ reIm (.cwrr .a0 1 2) (onA0 [0x000001#24, 0xFF#24]) = (-16777215, 0) ∧ reIm (.cwri .a0 1 2) (onA0 [5#24, 0#24]) = (0, 5) := by decide +kernel

/-- R230: the accumulator is read whole, saturated, or in parts. -/
theorem test_ComplexArithmetic_reads :
    let s := { onA0 [] with a0 := { (onA0 []).a0 with cre := 0x81234567#32, cim := 0x7F000001#32 } }
    g3 (.crdr .a0 3) s = 0x800000#24 ∧ g3 (.crdi .a0 3) s = 0x7FFFFF#24 ∧ g3 (.crdrh .a0 3) s = 0xFFFF81#24 ∧ g3 (.crdrl .a0 3) s = 0x234567#24
    ∧ g3 (.crdih .a0 3) s = 0x7F#24 ∧ g3 (.crdil .a0 3) s = 1#24 := by decide +kernel

/-- The Adit port enabled, with A0 holding operations. -/
def adit (ops : List Cp3Op) (disc : Nat := 0) (retired : List Nat := []) : State :=
  { part [(Reg.ADIT_CTL, 0x830040#24)] with a0 := { (onA0 [5#24, 6#24]).a0 with cp3 := ops, disc := disc, retired := retired } }

/-- An operation of A0. -/
def aop (tag : Nat) (st : Cp3State) : Cp3Op := { rd := 3, tag := tag, op := 1, ga := 0#24, gb := 0#24, st := st, ord := tag }

/-- R231, R232, R235 to R237. -/
theorem test_AditPort :
    (adit []).ready .a0 1
    ∧ runs (.c3 .a0 3 1 2 9#6) (adit []) (fun t => t.a0.cp3 == [{ rd := 3, tag := 0, op := 9, ga := 5#24, gb := 6#24, st := .waiting, ord := 0 }]) = true
    ∧ runs (.c3 .a0 3 1 2 9#6) (adit [aop 0 .sent, aop 1 .sent, aop 2 .sent, aop 3 .sent]) (fun t => t.a0.disc == 1 && t.a0.cp3.length == 4) = true
    ∧ runs (.c3 .a0 3 1 2 9#6) (adit [] 7) (fun t => t.a0.disc == 7) = true
    ∧ (adit [aop 0 .waiting]).aditNext = some .a0 ∧ firstWaiting ((adit [aop 0 .waiting]).core .a0) = some (aop 0 .waiting)
    ∧ runs .aditCommandSend (adit [aop 0 .waiting]) (fun t => t.a0.cp3 == [aop 0 .sent]) = true
    ∧ (adit [{ aop 1 .waiting with ga := 0x123456#24, gb := 0xABCDEF#24 }]).aditDrives = [0x504#12, 0x123#12, 0x456#12, 0xABC#12, 0xDEF#12]
    ∧ idles .aditCommandSend (adit [{ aop 9 .waiting with ord := 4 }, aop 0 .sent, aop 1 .sent] 0 [2, 3]) = true
    ∧ runs (.aditResponse 0xF00#12 0#12 0#12) (adit [aop 3 .sent]) (fun t => t.bit Reg.ADIT_STAT 0 && t.isPending 101 && t.a0.cp3 == [aop 3 .sent]) = true
    ∧ runs (.aditResponse 0xD00#12 0#12 0x042#12) (adit [aop 3 .sent]) (fun t => t.a0.cp3 == [aop 3 (.result 0x42#24)]) = true
    ∧ runs (.aditResponse 0xD80#12 0#12 0#12) (adit [aop 3 .sent]) (fun t => t.a0.cp3 == [aop 3 (.failed 1)]) = true
    ∧ runs (.aditResponse 0x900#12 0#12 0#12) (adit [aop 3 .sent] 0 [2, 1]) (fun t => t.bit Reg.ADIT_STAT 0 && t.isPending 101 && t.a0.retired == [1] && t.a0.cp3 == [aop 3 .sent]) = true
    ∧ runs (.aditTimeout .a0 3) (adit [aop 3 .sent]) (fun t => t.isPending 101 && t.a0.retired == [3] && t.a0.cp3 == [aop 3 (.failed 2)]) = true
    ∧ runs (.aditDisable 0x010040#24) (adit [aop 3 .sent, aop 2 .waiting]) (fun t => (t.bit Reg.ADIT_CTL 23, t.fld Reg.ADIT_CTL 16 4) == (false, 3) && t.a0.cp3 == [aop 3 (.failed 3), aop 2 (.failed 3)]) = true := by
  decide +kernel

/-- R349, R350: the registers of the engine that a program reaches, at both ends of their indexes. -/
theorem test_CryptoEngineCommands :
    (onAsh []).ready .ash 1 ∧ runs (.k1key 10 1) (onAsh [0xABCDEF#24]) (fun t => t.ash.eng.key.getD 10 0#24 == 0xAB0000#24) = true
    ∧ runs (.k1key 0 1) (onAsh [0xABCDEF#24]) (fun t => t.ash.eng.key.getD 0 0#24 == 0xABCDEF#24) = true
    ∧ runs .k1kek (onAsh []) (fun t => t.ash.eng.kek && t.ash.eng.klen) = true
    ∧ runs (.k1cfg 1) { onAsh [1#24] with ash := { State.reset.ash with eng := { kek := true } } } (fun t => t.ash.eng.klen == false) = true
    ∧ runs (.k1cfg 1) (onAsh [1#24]) (fun t => t.ash.eng.klen) = true ∧ runs .k1clr (onAsh []) (fun t => t.ash.eng.kek == false) = true
    ∧ runs (.k1bw 5 1) (onAsh [0xABCDEF#24]) (fun t => t.ash.eng.blk.getD 5 0#24 == 0xAB0000#24) = true ∧ runs (.k1br 3 5) (onAsh []) (fun t => t.ashc.gr 3 == 0#24) = true
    ∧ runs (.k1hw 42 1) (onAsh [0xABCDEF#24]) (fun t => t.ash.eng.hblk.getD 42 0#24 == 0xABCD00#24) = true
    ∧ runs .k1hini (onAsh []) (fun t => t.ash.eng.hst.getD 0 0#24 == 0x6A09E6#24) = true ∧ runs (.k1hr 3 21) (onAsh []) (fun t => t.ashc.gr 3 == 0#24) = true
    ∧ runs (.k1st 3) (onAsh []) (fun t => t.ashc.gr 3 == 0#24) = true := by decide +kernel

/-- R254, R350: an encryption and a decryption start; an operation ends with its result and source 2. -/
theorem test_CryptoEngineEnds :
    runs .k1enc (onAsh []) (fun t => (t.ash.eng.aes.map (·.1)) == some 10) = true ∧ runs .k1dec (onAsh []) (fun t => (t.ash.eng.aes.map (·.1)) == some 10) = true
    ∧ runs .aesDone { onAsh [] with ash := { State.reset.ash with eng := { aes := some (1, [7#24]) } } } (fun t => t.ash.eng.blk == [7#24] && t.intc.ashPend.getLsbD 2) = true
    ∧ runs .shaDone { onAsh [] with ash := { State.reset.ash with eng := { sha := some (1, [7#24]) } } } (fun t => t.ash.eng.hst == [7#24] && t.intc.ashPend.getLsbD 2) = true := by decide +kernel

/-- R350 to R352: an RSA operation ends; the random unit with and without a word. -/
theorem test_RsaAndRandom :
    runs (.k1rsa 1 2) (onAsh [0#24, 3#24]) (fun t => t.ash.eng.rsa.isSome) = true
    ∧ runs .rsaDone { onAsh [] with ash := { State.reset.ash with eng := { rsa := some { op := 1, dest := 0, res := none } } } } (fun t => t.ash.eng.rsae && t.ash.eng.rsa == none && t.intc.ashPend.getLsbD 3) = true
    ∧ runs .rsaDone { onAsh [] with ash := { State.reset.ash with eng := { rsa := some { op := 2, dest := 0, res := some [1#24] } } } } (fun t => t.ash.eng.priv && ! t.ash.eng.rsae) = true
    ∧ runs (.k1rng 3) (onAsh []) (fun t => t.ashc.gr 3 == 0#24 && t.ash.eng.rnge) = true
    ∧ runs (.k1rng 3) { onAsh [] with ash := { State.reset.ash with eng := { avail := 64, rnge := true } } } (fun t => t.ash.eng.avail == 63 && ! t.ash.eng.rnge) = true := by decide +kernel


/-! ## The bus, resets, the watchdog and the supplies (R5, R6, R11, R12, R15, R26 to R30, R276 to R278, R345, R346, R400, R401) -/

/-- R5, R6: RW, W1C and W1S bits of registers of the map, a locked register, and an unassigned offset. -/
theorem test_AccessCodes :
    (regRow Reg.SYS_RSTCAUSE).isSome ∧ ((part [(Reg.SYS_RSTCAUSE, 0x60#24)]).storeReg Reg.SYS_RSTCAUSE 0x20#24).reg Reg.SYS_RSTCAUSE = 0x40#24
    ∧ ((regRow Reg.SYS_A1ENT).map (·.lk)) = some true ∧ (State.reset.storeReg Reg.SYS_A1ENT 5#24).reg Reg.SYS_A1ENT = 5#24
    ∧ (part [(Reg.SYS_BOOTSTAT, 0x000800#24)]).locked = true
    ∧ ((part [(Reg.SYS_BOOTSTAT, 0x000800#24)]).storeReg Reg.SYS_A1ENT 5#24).reg Reg.SYS_A1ENT = 0#24
    ∧ regRow 0xF0FFFF = none ∧ State.reset.storeReg 0xF0FFFF 5#24 = State.reset := by decide +kernel

/-- R11, R15, R17, R21: a write that lands, one to an unassigned offset at the top of the space, one of a master that does not reach it, and SLOT registers from A0. -/
theorem test_RegisterWrites :
    isPeriph 0xF0FFFF = true ∧ State.reset.gateOpen 0xF0FFFF = true ∧ idles (.registerWrite .lk 0xF0FFFF#24 1#24) State.reset = true
    ∧ runs (.registerWrite .a0 0xF00065#24 7#24) State.reset (fun t => t.reg Reg.SYS_A1ENT == 7#24 && ! t.sys.busErr) = true
    ∧ runs (.registerWrite .radio 0xF00065#24 7#24) State.reset (fun t => t.reg Reg.SYS_A1ENT == 0#24 && t.sys.busErr) = true
    ∧ runs (.registerWrite .a1 0xF07000#24 7#24) State.reset (fun t => t.sys.busErr) = true ∧ runs (.registerWrite .a1 0xF07FFF#24 7#24) State.reset (fun t => t.sys.busErr) = true
    ∧ runs (.registerWrite .lk 0xF07FFF#24 7#24) State.reset (fun t => ! t.sys.busErr) = true
    ∧ runs (.arbitrationRaise .hl) State.reset (fun t => t.sys.raised == [.hl]) = true
    ∧ idles (.arbitrationRaise .hl) { State.reset with sys := { State.reset.sys with raised := [.hl] } } = true := by decide +kernel

/-- R28. -/
theorem test_Semaphores :
    runs (.semaphoreTake .a1 15) State.reset (fun t => t.sys.rdata == 0x800003#24 && t.reg (Reg.SYS_SEM 15) == 3#24) = true
    ∧ runs (.semaphoreTake .a0 15) (part [(Reg.SYS_SEM 15, 3#24)]) (fun t => t.sys.rdata == 3#24 && t.reg (Reg.SYS_SEM 15) == 3#24) = true
    ∧ runs (.semaphoreTake .dbg 0) State.reset (fun t => t.reg (Reg.SYS_SEM 0) == 0#24) = true
    ∧ runs (.semaphoreRelease .a1 15 0#24) (part [(Reg.SYS_SEM 15, 3#24)]) (fun t => t.reg (Reg.SYS_SEM 15) == 0#24) = true
    ∧ idles (.semaphoreRelease .a0 15 0#24) (part [(Reg.SYS_SEM 15, 3#24)]) = true ∧ idles (.semaphoreRelease .a1 15 1#24) (part [(Reg.SYS_SEM 15, 3#24)]) = true := by decide +kernel

/-- The part with a reset in progress. -/
def inReset (c : ResetClass) (s : State := State.reset) : State := { s with sys := { s.sys with inReset := some c } }

/-- R26, R30: the key, and the widest class that is asked for. -/
theorem test_SoftwareResets :
    State.reset.outOfReset ∧ State.reset.nvmIdle ∧ idles (.systemResetRequest 0x973F07#24) State.reset = true ∧ idles (.linkResetRequest 0x974000#24) State.reset = true
    ∧ runs (.systemResetRequest 0x974007#24) (onA0 []) (fun t => t.sys.inReset == some .system && t.bit Reg.SYS_RSTCAUSE 5 && t.a0.run == .held) = true
    ∧ runs (.applicationResetRequest 0x974003#24) (onA0 []) (fun t => t.sys.inReset == some .application && t.bit Reg.SYS_RSTCAUSE 4 && t.a0.pc == 0xE00000#24) = true
    ∧ runs (.linkResetRequest 0x974001#24) { onA0 [] with regs := (part [(Reg.SLOT_LKBANK, 0x800000#24)]).regs } (fun t => t.sys.inReset == some .link && t.bit Reg.SYS_RSTCAUSE 3 && t.lk.pc == 0xD04000#24 && t.a0.pc == 0x200000#24) = true
    ∧ runs (.systemResetRequest 0x974004#24) (inReset .power) (fun t => t.sys.inReset == some .power) = true := by decide +kernel

/-- R27, R205. -/
theorem test_ResetRelease :
    runs .resetPin State.reset (fun t => t.sys.inReset == some .system && t.sys.pinLow && t.bit Reg.SYS_RSTCAUSE 2) = true ∧ idles (.resetRelease true true) State.reset = true
    ∧ (∀ c ∈ [ResetClass.application, .system, .power], runs (.resetRelease true true) (inReset c { State.reset with a0 := { State.reset.a0 with run := .held } }) (fun t => t.sys.inReset == none && t.a0.run == .run) = true)
    ∧ runs (.resetRelease false false) (inReset .link) (fun t => t.sys.inReset == none && t.lk.run == .held) = true
    ∧ runs (.resetRelease false false) (inReset .link (part [(Reg.SYS_CORECTL, 1#24)])) (fun t => t.lk.run == .run) = true
    ∧ runs (.resetRelease true false) (inReset .system) (fun t => t.bit Reg.SLOT_CTL 20 && t.bit Reg.HOP_CTL 22 && t.bit Reg.INT_CTL 23) = true := by decide +kernel

/-- R29. -/
theorem test_Watchdog :
    runs (.watchdogKick 0x00A5C3#24) { State.reset with sys := { State.reset.sys with wdCount := 9, wdDiv := 9 } } (fun t => (t.sys.wdCount, t.sys.wdDiv) == (0, 0)) = true
    ∧ runs (.watchdogKick 0x00A5C2#24) { State.reset with sys := { State.reset.sys with wdCount := 9, wdDiv := 9 } } (fun t => (t.sys.wdCount, t.sys.wdDiv) == (9, 9)) = true
    ∧ runs (.watchdogEnable 0x000FFF#24) (part [(Reg.SYS_WDCTL, 0xC00001#24)]) (fun t => (t.bit Reg.SYS_WDCTL 23, t.bit Reg.SYS_WDCTL 22, t.fld Reg.SYS_WDCTL 0 12) == (true, false, 4095)) = true
    ∧ runs (.watchdogEnable 0x800000#24) { State.reset with sys := { State.reset.sys with wdCount := 9, wdDiv := 9 } } (fun t => (t.sys.wdCount, t.sys.wdDiv) == (0, 0)) = true
    ∧ runs .watchdogTimeout (part [(Reg.SYS_WDCTL, 0xC00001#24)]) (fun t => t.sys.inReset == some .system && t.bit Reg.SYS_RSTCAUSE 6) = true
    ∧ runs .watchdogTimeout (part [(Reg.SYS_WDCTL, 0x800001#24)]) (fun t => t.sys.inReset == some .application) = true
    ∧ idles .watchdogTimeout (part [(Reg.SYS_WDCTL, 1#24)]) = true := by decide +kernel

/-- R26, R278, R400, R401, R452. -/
theorem test_Supplies :
    (∀ i ∈ [Instr.brownOut, .backupSwitchOver], runs i (part [(Reg.RTC_SWCNT, 0xFFFFFE#24)]) (fun t => t.sys.inReset == some .power && t.sys.vddLow && t.reg Reg.SYS_RSTCAUSE == 2#24
        && t.rtc.onVbk && t.bit Reg.RTC_STAT 19 && t.reg Reg.RTC_SWCNT == 0xFFFFFF#24 && t.losses.length == 9) = true)
    ∧ State.reset.sys.power ≠ .off ∧ State.reset.losses.length = 9 ∧ State.reset.rtc.onVbk = false
    ∧ runs .backupSwitchBack { State.reset with rtc := { State.reset.rtc with onVbk := true } } (fun t => t.rtc.onVbk == false) = true
    ∧ runs (.powerUp true false false) (inReset .power) (fun t => t.sys.inReset == none && t.a0.run == .run) = true
    ∧ runs (.powerUp false false false) (inReset .power) (fun t => t.sys.inReset == some .power && ! t.sys.vddLow) = true
    ∧ runs .vddWarning (part [(Reg.SYS_SUPCTL, 0x200#24)]) (fun t => t.bit Reg.SYS_SUPSTAT 1 && t.bit Reg.SYS_SUPSTAT 0 && t.isPending 83) = true
    ∧ runs .vddWarningRelease (part [(Reg.SYS_SUPSTAT, 3#24)]) (fun t => t.reg Reg.SYS_SUPSTAT == 1#24) = true
    ∧ runs .rtcDomainLoss (part [(Reg.RTC_SWCNT, 5#24)]) (fun t => t.isPending 106 && t.reg Reg.RTC_SWCNT == 0#24) = true := by decide +kernel

/-- R345, R346: three glitches in 60 s do nothing more; the fourth resets. -/
theorem test_Glitches :
    runs (.glitch 0) { State.reset with ash := { State.reset.ash with gaps := [0, 0] } } (fun t => t.ash.gaps == [0, 0, 0] && t.intc.ashPend.getLsbD 9 && t.sys.inReset == none) = true
    ∧ runs (.glitch 20000) { State.reset with ash := { State.reset.ash with gaps := [20000, 20001, 0] } } (fun t => t.ash.gaps == [20000, 20000, 20001] && t.sys.inReset == none) = true
    ∧ runs (.glitch 20000) { State.reset with ash := { State.reset.ash with gaps := [20000, 20000, 0] } } (fun t => t.sys.inReset == some .system && t.bit Reg.SYS_RSTCAUSE 8) = true := by decide +kernel


/-! ## The interrupt controller (R239 to R251) -/

/-- R239, R240, R247: a source becomes pending; one of 124 and above does not. -/
theorem test_SourcePends :
    State.reset.asleep = false ∧ isLevel 123 = false ∧ (State.reset.raise 123).isPending 123 = true ∧ (State.reset.raise 123).isPending 122 = false
    ∧ State.reset.raise 124 = State.reset := by decide +kernel

/-- R241 to R243: of two sources the smaller pri, and with the same pri the lower number; none while the running level is as urgent. -/
theorem test_PresentedSource :
    let two := [(Reg.INT_PEND 4, 0x030000#24), (Reg.INT_SRC 112, 0xA10000#24)]
    (part (two ++ [(Reg.INT_SRC 113, 0xA00000#24)])).presented 1 = some 113 ∧ (part (two ++ [(Reg.INT_SRC 113, 0xA10000#24)])).presented 1 = some 112
    ∧ State.reset.presented 1 = none
    ∧ { part two with intc := { State.reset.intc with active := [{ src := 5, core := 1, group := 1 }] } }.presented 1 = none := by decide +kernel

/-- Unit 15 enabled and open with its counts, and source 123 its pending member. -/
def unit15 (ctl stat : Word) : State :=
  part [(Reg.INT_CU_CTL 15, ctl), (Reg.INT_CU_LIM 15, 0x0203E8#24), (Reg.INT_CU_STAT 15, stat), (Reg.INT_SRC 123, 0xA0F800#24), (Reg.INT_PEND 5, 0x000008#24)]

/-- R239, R245 to R250. -/
theorem test_InterruptCommands :
    let busy := { State.reset with intc := { State.reset.intc with active := [{ src := 112, core := 2, group := 1 }, { src := 112, core := 1, group := 1 }] } }
    runs (.endOfInterrupt 2 112#24) busy (fun t => ! t.activeFor 112 2 && t.activeFor 112 1) = true
    ∧ runs (.endOfInterrupt 0 112#24) busy (fun t => t.bit Reg.INT_STAT 0) = true
    ∧ runs (.softwareInterrupt 8#24) State.reset (fun t => t.isPending 115 && ! t.isPending 114) = true
    ∧ idles (.sourceSettingsWrite 124 0xFFFFFF#24) State.reset = true ∧ runs (.sourceSettingsWrite 123 0x800000#24) State.reset (fun t => t.reg (Reg.INT_SRC 123) == 0x800000#24) = true
    ∧ (unit15 0x800001#24 0x800002#24).isMember 15 123 = true ∧ (unit15 0x800001#24 0x800002#24).windowOpen 15 = true
    ∧ runs (.coalescingCountReached 15) (unit15 0x800001#24 0x800002#24) (fun t => t.reg (Reg.INT_CU_STAT 15) == 0x400000#24 && t.intc.released == [123]) = true
    ∧ runs (.coalescingTimeExpiry 15) (unit15 0xC00001#24 0x800001#24) (fun t => t.reg (Reg.INT_CU_STAT 15) == 0x200000#24 && t.intc.released == [123]) = true
    ∧ runs (.coalescingSlotExpiry 15) (unit15 0xA00001#24 0x800101#24) (fun t => t.reg (Reg.INT_CU_STAT 15) == 0x100000#24 && t.intc.released == [123]) = true
    ∧ runs (.coalescingDisable 15 1#24) (unit15 0x800001#24 0x800001#24) (fun t => ! t.bit (Reg.INT_CU_CTL 15) 23 && ! t.bit (Reg.INT_CU_STAT 15) 23 && t.intc.released == [123]) = true := by decide +kernel

/-! ## Bedrock (R31 to R52) -/

/-- Bedrock counting, with registers. -/
def ticking (l : List (Nat × Word)) : State := part ((Reg.SYS_CLKSTAT, 0x200000#24) :: l)

/-- R32, R34, R35, R38, R40, R42, R52; the slot length at both ends of its range and beside them. -/
theorem test_BedrockRegisters :
    runs (.tbCnt0Read .a0) { State.reset with tb := { State.reset.tb with count := 0x010203040506070809#72 } }
        (fun t => t.sys.rdata == 0x070809#24 && t.latch .a0 Reg.TB_CNT1 == 0x040506#24 && t.latch .a0 Reg.TB_CNT2 == 0x010203#24) = true
    ∧ State.reset.gen1 = false ∧ (∀ n ∈ [500000, 16000000], runs (.slotLengthWrite (BitVec.ofNat 24 n)) State.reset (fun t => t.reg Reg.TB_SLOTLEN == BitVec.ofNat 24 n) = true)
    ∧ (∀ n ∈ [499999, 16000001], runs (.slotLengthWrite (BitVec.ofNat 24 n)) State.reset (fun t => t.reg Reg.TB_SLOTLEN == 1000000#24 && t.bit Reg.TB_STAT 0 && t.isPending 56) = true)
    ∧ idles (.phaseAdjustWrite 0xFFFFFF#24) State.reset = true ∧ runs (.phaseAdjustWrite 0xFFFFFF#24) (part [(Reg.SLOT_CTL, 0#24)]) (fun t => t.reg Reg.TB_PHADJ == 0x81FFFF#24) = true
    ∧ runs (.preloadWrite 31 7#24) State.reset (fun t => t.reg (Reg.TB_SCMP 31) == 7#24 && t.bit (Reg.TB_CHSTAT 31) 22) = true
    ∧ runs (.armStage .a0 0xFFFFFF#24) State.reset (fun t => t.latch .a0 Reg.TB_ARMSETH == 0x80FFFF#24 && t.latch .a1 Reg.TB_ARMSETH == 0#24) = true
    ∧ runs (.disarmStage .a0 0xFFFFFF#24) State.reset (fun t => t.latch .a0 Reg.TB_DISARMH == 0xFFFF#24) = true
    ∧ runs (.absoluteValueStage .a0 7 true 3#24) State.reset (fun t => t.latch .a0 (Reg.TB_ACMP_2 7) == 3#24) = true
    ∧ runs (.absoluteValueLoad .a0 7 0#24) (part [(Reg.TB_CHSTAT 39, 0x800000#24)]) (fun t => t.acmp 7 == 0 && t.lateAt 7 == some 1) = true
    ∧ runs (.absoluteValueLoad .a0 7 1#24) (part [(Reg.TB_CHSTAT 39, 0x800000#24)]) (fun t => t.acmp 7 == 1 && t.lateAt 7 == none) = true
    ∧ runs (.rtcCalDone 0x010203040506#48) (ticking [(Reg.TB_RTCCAL, 0x80000F#24)]) (fun t => t.reg Reg.TB_RTCRES0 == 0x040506#24 && t.reg Reg.TB_RTCRES1 == 0x010203#24 && t.isPending 57
        && t.reg Reg.TB_RTCCAL == 0x40000F#24) = true
    ∧ runs (.rtcCalStart 0x800003#24) (ticking []) (fun t => t.reg Reg.TB_RTCCAL == 0x800003#24) = true ∧ runs (.rtcCalStart 0x800003#24) State.reset (fun t => t.reg Reg.TB_RTCCAL == 3#24) = true := by decide +kernel

/-- R40, R41: channel 39, the last of the staged word, and channel 0. -/
theorem test_ArmingChannels :
    let staged (r : Nat) (v : Word) : State := State.reset.setLatch .a0 r v
    runs (.armCommit .a0 1#24) (staged Reg.TB_ARMSETH 0x8000#24) (fun t => t.armed 39 && t.armed 0 && ! t.armed 38 && ! t.armed 23 && t.latch .a0 Reg.TB_ARMSETH == 0#24) = true
    ∧ runs (.armCommit .a0 1#24) (staged Reg.TB_ARMSETH 0x808000#24) (fun t => ! t.armed 39 && t.tb.wrapArm == 0x8000000001#40) = true
    ∧ runs (.disarmCommit .a0 1#24) { part [(Reg.TB_CHSTAT 0, 0x800000#24), (Reg.TB_CHSTAT 1, 0x800000#24), (Reg.TB_SCACT 0, 5#24)] with tb := { State.reset.tb with phase := 5 } }
        (fun t => ! t.armed 0 && t.armed 1 && t.tb.fabric == [{ raised := 0, ev := .channel 0 }] && t.bit (Reg.TB_CHSTAT 0) 0) = true
    ∧ runs (.disarmCommit .a0 0#24) { (staged Reg.TB_DISARMH 0x8000#24) with tb := { State.reset.tb with wrapArm := 0xC000000000#40 } } (fun t => t.tb.wrapArm == 0x4000000000#40) = true
    ∧ runs (.disarmCommit .a0 1#24) { part [(Reg.TB_CHSTAT 0, 0x000001#24)] with tb := { State.reset.tb with wrapped := [{ ch := 0, was := 2#24 }], fabric := [{ raised := 0, ev := .channel 0 }] } }
        (fun t => t.reg (Reg.TB_CHSTAT 0) == 2#24 && t.tb.fabric == []) = true
    ∧ runs (.armCommit .a0 0#24) ((staged Reg.TB_ARMSETH 0x8000#24)) (fun t => t.lateAt 7 == some 1 && t.lateAt 6 == none) = true
    ∧ runs (.armCommit .a0 0#24) ((staged Reg.TB_ARMSETH 0x8000#24).setReg (Reg.TB_ACMP_0 7) 1#24) (fun t => t.lateAt 7 == none) = true := by decide +kernel

/-- R31, R33, R36, R37, R42, R43. -/
theorem test_BedrockTime :
    let at_ (p : Nat) (s : State) : State := { s with tb := { s.tb with phase := p } }
    runs .slotWrap (at_ 999999 (ticking [])) (fun t => (t.tb.count, t.tb.phase, t.tb.fabric) == (1#72, 0, [{ raised := 1, ev := .slotTick }])) = true
    ∧ runs (.slotPhaseStart 2#24) (at_ 7 (ticking [])) (fun t => ! t.bit Reg.TB_CTL 0 && t.tb.phase == 0 && t.tb.fabric == []) = true
    ∧ runs (.slotPhaseStart 3#24) (at_ 0 (ticking [(Reg.TB_CTL, 2#24)])) (fun t => (t.tb.count, t.tb.phase, t.tb.fabric) == (1#72, 0, [{ raised := 1, ev := .slotTick }])) = true
    ∧ runs (.slotCompareMatch 31) (at_ 7 (ticking [(Reg.TB_CHSTAT 31, 0x800000#24), (Reg.TB_SCACT 31, 999999#24)])) (fun t => (t.tb.count, t.tb.phase, t.tb.fabric) == (999992#72, 999999, [{ raised := 999992, ev := .channel 31 }])
        && t.bit (Reg.TB_CHSTAT 31) 0 && ! t.armed 31) = true
    ∧ runs (.absoluteCompareMatch 7) (at_ 7 (ticking [(Reg.TB_CHSTAT 39, 0x800000#24), (Reg.TB_ACMP_0 7, 5#24)])) (fun t => (t.tb.count, t.tb.phase, t.tb.fabric) == (5#72, 12, [{ raised := 5, ev := .channel 39 }])) = true
    ∧ runs (.absoluteCompareMatch 7) { ticking [(Reg.TB_CHSTAT 39, 0x800000#24)] with tb := { State.reset.tb with lateAt := List.replicate 7 none ++ [some 1] } } (fun t => t.tb.count == 1#72 && t.bit (Reg.TB_CHSTAT 39) 1) = true
    ∧ runs (.absoluteCompareMatch 1) (ticking [(Reg.TB_CTL, 8#24), (Reg.TB_CHSTAT 33, 0x800000#24), (Reg.TB_ACMP_0 1, 5#24)]) (fun t => t.bit Reg.TB_CTL 0 && (t.tb.count, t.tb.phase) == (5#72, 0) && decide ({ raised := 5, ev := .slotTick } ∈ t.tb.fabric)) = true
    ∧ runs .rateTrimCarry { ticking [(Reg.TB_CTL, 4#24), (Reg.TB_RATE, 0x800000#24)] with tb := { State.reset.tb with acc := 0x80000000#32 } } (fun t => t.tb.count == 256#72) = true
    ∧ runs .rateTrimCarry (ticking [(Reg.TB_CTL, 4#24), (Reg.TB_RATE, 0x400000#24)]) (fun t => t.tb.count == 1025#72 && t.tb.phase == 0) = true := by decide +kernel

/-- Input 7 enabled and captured captures. -/
def input7 (ctl stat : Word) (c : CaptureState) (tb : TbState := {}) : State :=
  { ticking [(Reg.TB_CAPCTL 7, ctl), (Reg.TB_CAPSTAT 7, stat), (Reg.TB_CAPSRC 7, 27#24)] with tb := { tb with caps := List.replicate 7 {} ++ [c] } }

/-- R44 to R48. -/
theorem test_EventsAndCaptures :
    let on (l : List (Nat × Word)) (f : List FabricEvent) : State := { ticking l with tb := { State.reset.tb with fabric := f.map fun e => { raised := 0, ev := e } } }
    runs .eventDelivery (on [(Reg.TB_CHCTL 39, 0x20#24)] [.channel 39, .capture 7]) (fun t => t.tb.fabric == [{ raised := 0, ev := .capture 7 }] && t.isPending 39 && t.tb.count == 8#72) = true
    ∧ runs .eventDelivery (on [] [.channel 39]) (fun t => t.tb.fabric == [] && t.regs == (ticking []).regs) = true
    ∧ runs .eventDelivery (on [(Reg.TB_CAPSRC 7, 0x80#24)] [.capture 7]) (fun t => t.tb.fabric == [] && t.isPending 47) = true ∧ idles .eventDelivery State.reset = true
    ∧ runs .slotTickActed { on [] [.slotTick, .slotTick] with a0 := (onA0 []).a0, a1 := { (onA0 []).a0 with waits := [{ addr := 0#24 }] } } (fun t => t.tb.fabric.length == 1 && t.isPending 48 && t.a1.waits == [{ addr := 0#24, seen := true }] && t.a0.waits == []) = true
    ∧ runs (.captureEdge 7 true) (input7 0x800000#24 0#24 {} { count := 9#72 }) (fun t => (t.cap 7).visible == some 7#72 && t.tb.fabric == [{ raised := 9, ev := .capture 7 }] && t.reg (Reg.TB_CAPSTAT 7) == 2#24) = true
    ∧ runs (.captureEdge 7 false) (input7 0xA03FC0#24 0xFE00#24 { level := true }) (fun t => t.reg (Reg.TB_CAPSTAT 7) == 0xFF00#24 && t.tb.fabric == []) = true
    ∧ runs (.captureRead .a1 7) (input7 0#24 2#24 { visible := some 0x010203040506070809#72, hold := some 5#72 })
        (fun t => t.sys.rdata == 0x070809#24 && t.latch .a1 (Reg.TB_CAP_1 7) == 0x040506#24 && t.latch .a1 (Reg.TB_CAP_2 7) == 0x010203#24 && (t.cap 7).visible == some 5#72) = true
    ∧ runs (.captureEnable 7 0x800000#24 true) (input7 0#24 0x500#24 {}) (fun t => (t.cap 7).level && t.reg (Reg.TB_CAPSTAT 7) == 0#24) = true := by decide +kernel

/-- R49 to R51, R140, R274. -/
theorem test_Realignment :
    let dark (p : PowerMode) (l : List (Nat × Word)) : State := { part l with sys := { State.reset.sys with power := p }, tb := { State.reset.tb with extrap := true, inc := 3 * 2 ^ 32 } }
    runs (.wakeLeadReached 7) (dark .deepSleep [(Reg.TB_CHSTAT 39, 0x800000#24), (Reg.TB_CHCTL 39, 0x40#24), (Reg.TB_ACMP_0 7, 0x030D44#24)])
        (fun t => t.sys.power == .exiting && t.tb.count == 6#72) = true
    ∧ (dark .exiting [(Reg.SYS_CLKSTAT, 0xF80000#24)]).sourcesReady = true
    ∧ runs (.realignment 5) (dark .exiting [(Reg.SYS_CLKSTAT, 0xF80000#24)]) (fun t => t.sys.power == .on && ! t.tb.extrap && t.tb.count == 15#72 && t.bit Reg.TB_STAT 2) = true := by decide +kernel


/-! ## The radio front end (R53 to R73, R471) -/

/-- A profile that permits channel 0 at 863 MHz, with no duty limit and no LBT, and its CRC-24. -/
def otp0 : List Word :=
  let w := [0#24, 860000#24, 870000#24, 0#24, 0#24, 863000#24, 200000#24, 0#24, 0#24, 0xFFFFFF#24] ++ List.replicate 10 0#24
    ++ [0x514514#24, 0#24, 0#24, 0#24, 10000#24, 60#24, 0#24, 0#24, 0#24]
  w ++ [BitVec.ofNat 24 (crc24 w)]

/-- The front end on with both synthesisers calibrated, path 0 idle and on channel 0, a grant open to 999,999, and registers. -/
def front (l : List (Nat × Word) := []) (f : RfeState → RfeState := id) : State :=
  { part ([(Reg.RFE_CTL, 3#24), (Reg.RFE_STAT, 0x110000#24), (Reg.RFE_SYSTAT, 0xF00000#24), (Reg.RFE_GRANT, 1#24), (Reg.RFE_GEND, 999999#24), (Reg.RFE_DWE, 1000#24),
      (Reg.RFE_PMAX, 20#24), (Reg.PHY_CTL, 1#24)] ++ l) with rfe := f { otp := otp0, otpLocked := true } }

/-- R58, R59, R61, R63, R129: enabling, disabling, and the moves of a path outside a grant. -/
theorem test_FrontEndPaths :
    runs (.frontEndEnable 3#24) State.reset (fun t => t.bit Reg.RFE_CTL 0 && t.rfe.bias0 && t.rfe.bias1) = true
    ∧ runs (.frontEndDisable 0#24) (front [] fun f => { f with direct := some { op := 1, sy1 := false, pwr := 0, chan := 0, flen := 0, held := true, started := false } })
        (fun t => (t.path false, t.path true, t.syLocked false, t.rfe.direct) == (0, 0, false, none) && t.fld Reg.RFE_DSTAT 0 8 == 2 && t.isPending 58) = true
    ∧ runs (.biasStartDone true) { State.reset with rfe := { State.reset.rfe with bias1 := true } } (fun t => (t.path true, t.path false) == (2, 0)) = true
    ∧ runs (.biasStartDone false) { part [(Reg.RFE_SYSTAT, 0x100000#24)] with rfe := { State.reset.rfe with bias0 := true } } (fun t => t.path false == 1) = true
    ∧ runs (.synthCalDone true 0x80#8) (front [(Reg.RFE_STAT, 0x120000#24)] fun f => { f with tune1 := some (0, false) }) (fun t => t.path true == 3 && t.syTemp true == -128 && t.syValid true && t.rfe.chan1 == 0) = true
    ∧ runs (.synthCalDone false 25#8) (front [(Reg.RFE_STAT, 0x210000#24), (Reg.RFE_GRANT, 0#24)]) (fun t => t.path false == 1 && t.syTemp false == 25 && ! t.syLocked false) = true
    ∧ runs (.synthCalDone false 25#8) (front [(Reg.RFE_STAT, 0x210000#24), (Reg.RFE_GEND, 4399#24)]) (fun t => t.path false == 1) = true
    ∧ runs (.lockDetected true 0) (front [(Reg.RFE_STAT, 0x130000#24), (Reg.RFE_GRANT, 0#24)] fun f => { f with tune1 := some (0, false) }) (fun t => t.path true == 1 && t.syLocked true && t.rfe.tune1 == none) = true
    ∧ runs (.lockTimeout true) (front [(Reg.RFE_STAT, 0x130000#24)]) (fun t => t.path true == 1 && t.bit Reg.RFE_STAT 1 && t.isPending 60 && ! t.syValid true) = true
    ∧ runs (.lockTimeout false) (front [(Reg.RFE_STAT, 0x310000#24)] fun f => { f with tune0 := some (0, true) })
        (fun t => t.path false == 1 && t.fld Reg.RFE_DSTAT 0 8 == 0x40 && t.isPending 58) = true
    ∧ runs .turnDone (front [(Reg.RFE_STAT, 0x610000#24)]) (fun t => t.path false == 4) = true := by decide +kernel

/-- An air transmission. -/
def air0 : AirTx := { direct := true, ack := false, sending := false, air := 40000, thenRx := false, start := 0 }

/-- R58, R63, R129. -/
theorem test_FrontEndPaths_grant :
    runs .turnDone (front [(Reg.RFE_STAT, 0x610000#24)] fun f => { f with tx := some air0 }) (fun t => t.path false == 5) = true
    ∧ runs .paRampDone (front [] fun f => { f with tx := some air0 }) (fun t => t.rfe.tx == some { air0 with sending := true }) = true
    ∧ runs (.bgcalStepDone 0xFF#8) (front [(Reg.RFE_STAT, 0x710000#24), (Reg.RFE_BGSTAT, 8#24), (Reg.RFE_GRANT, 0#24)] fun f => { f with step := some 5 })
        (fun t => t.path false == 1 && ! t.bit Reg.RFE_BGSTAT 3 && t.rfe.step == none && t.rfe.bg[3]? == some { temp := some (-1), age := 0, excess := 0 }) = true
    ∧ (front).bgEnabled 3 = true
    ∧ runs (.bgcalIntervalDue 0) (front [(Reg.RFE_GRANT, 0#24)] fun f => { f with bg := [{ temp := some 0, age := 64 }, {}, {}, {}] }) (fun t => t.bit Reg.RFE_BGSTAT 0) = true
    ∧ runs (.grantStart 0xE0#8) (front [(Reg.RFE_GRANT, 0#24), (Reg.SYS_CLKSTAT, 0x200000#24), (Reg.TB_CTL, 1#24)] fun f => { f with grant := some (70, 900) })
        (fun t => t.granted && t.gend == 900 && t.reg Reg.RFE_TEMP == 0xE0#24 && t.isPending 59 && t.rfe.grant == none && t.tb.phase == 70) = true
    ∧ runs .grantEnd (front) (fun t => ! t.granted && t.rfe == (front).rfe) = true := by decide +kernel

/-- R69: the FEM lines off and on, in transmit, with a ramp due 100 ticks ahead within a lead of 1 µs, in receive, and inverted. -/
theorem test_FemLines :
    (front).femPads = (false, false, true) ∧ (front [(Reg.RFE_STAT, 0x510000#24), (Reg.RFE_FEMCFG, 1#24)]).femPads = (true, false, false)
    ∧ (front [(Reg.RFE_STAT, 0x610000#24), (Reg.RFE_FEMCFG, 0x100001#24)] fun f => { f with tx := some { air0 with start := 200 } }).femPads = (true, false, false)
    ∧ (front [(Reg.RFE_STAT, 0x610000#24), (Reg.RFE_FEMCFG, 0x100001#24)] fun f => { f with tx := some { air0 with start := 201 } }).femPads = (false, false, true)
    ∧ (front [(Reg.RFE_STAT, 0x410000#24), (Reg.RFE_FEMCFG, 1#24)]).femPads = (false, true, false)
    ∧ (front [(Reg.RFE_STAT, 0x410000#24), (Reg.RFE_FEMCFG, 3#24)]).femPads = (true, false, true)
    ∧ (front [(Reg.RFE_STAT, 0x510000#24), (Reg.RFE_FEMCFG, 1#24), (Reg.SYS_CLKSTAT, 0x020000#24)]).femPads = (false, false, true) := by decide +kernel

/-- R60, R72: a path that is OFF leaves it for no command, and a sub-window ends in the middle of a transmission. -/
theorem test_FrontEndTransmissions_more :
    (∀ i ∈ [Instr.directTune 0x200000#24 0#8, .directCalibrate 0xA00000#24], runs i (front [(Reg.RFE_STAT, 0x010000#24)]) (fun t => t.fld Reg.RFE_DSTAT 0 8 == 3 && t.path false == 0 && t.rfe.direct == none) = true)
    ∧ runs (.directTune 0x200000#24 0#8) (front [(Reg.RFE_GEND, 12000#24)]) (fun t => t.fld Reg.RFE_DSTAT 0 8 == 3 && t.path false == 1) = true
    ∧ runs .dutySubwindowEnd { front [] (fun f => { f with tx := some air0, duty := 5 :: List.replicate 15 0 }) with tb := { State.reset.tb with count := 40000#72 } }
        (fun t => t.rfe.duty == [0, 40005] ++ List.replicate 14 0 && t.reg Reg.RFE_DUTYUSED == 2#24 && (t.rfe.tx.map (·.counted)) == some 40000) = true := by decide +kernel

/-- An open direct command. -/
def open_ (op : Nat) (held : Bool) : DirectCmd := { op := op, sy1 := false, pwr := 0, chan := 0, flen := 0, held := held, started := ! held }

/-- R58, R64, R471: what a command does on an idle, locked and on an unlocked path, and the checks that it meets here. -/
theorem test_DirectCommands :
    (front).tunable 0 = true ∧ (front).syNeedsCal false = false ∧ (front).lockTicks false 0 false = 0 ∧ (front).lockTicks false 0 true = 12000 ∧ (front).lockTicks false 1 false = 12000 ∧ (front).rxModeIllegal 0 = false ∧ (front).txModeIllegal 0 = false
    ∧ (front).regCause ((front).directCheck (directOf 0x600000#24 10) 0) { vpa := 3300, lbt := 0 } = none
    ∧ (front).dwe + (front).frameTicks (front).dmode 10 24 + 2 * (front).rampTicks ≤ (front).gend
    ∧ runs (.directTune 0x200001#24 0#8) (front) (fun t => t.path false == 3 && t.rfe.tune0 == some (1, true) && t.bit Reg.RFE_DSTAT 23) = true
    ∧ runs (.directTune 0x200000#24 0#8) (front) (fun t => t.path false == 3 && ! t.syLocked false && t.rfe.tune0 == some (0, true)) = true
    ∧ runs (.directCalibrate 0xA00000#24) (front [(Reg.RFE_GEND, 36001#24)]) (fun t => t.path false == 2 && t.bit Reg.RFE_DSTAT 23) = true
    ∧ runs (.directReceive 0x400000#24 0#8) (front) (fun t => t.path false == 4 && t.phy.rx.length == 1) = true
    ∧ runs (.directTransmit 0x600000#24 0#8 10 { vpa := 3300, lbt := 0 }) (front) (fun t => t.path false == 5 && t.rfe.tx.isSome) = true
    ∧ runs (.directCw 0x850000#24 0#8 { vpa := 3300, lbt := 0 }) (front) (fun t => t.path false == 5 && t.fld Reg.RFE_TXSTAT 0 6 == 20) = true
    ∧ (∀ i ∈ [Instr.directTune 0#24 0#8, .directReceive 0#24 0#8, .directTransmit 0#24 0#8 10 { vpa := 0, lbt := 0 }, .directCw 0#24 0#8 { vpa := 0, lbt := 0 }, .directCalibrate 0#24],
        runs i (front [] fun f => { f with direct := some (open_ 2 false) }) (fun t => t.fld Reg.RFE_DSTAT 0 8 == 3 && t.isPending 58 && t.rfe.direct.isSome) = true) := by decide +kernel

/-- R64, R65, R107, R471: stops and ends. -/
theorem test_DirectCommands_ends :
    let holding (d : DirectCmd) (l : List (Nat × Word) := []) : State := front l fun f => { f with direct := some d, tx := some air0 }
    let ended (t : State) (n : Nat) : Bool := t.rfe.direct == none && t.fld Reg.RFE_DSTAT 0 8 == n && t.isPending 58
    runs (.directStop 0#24) (front) (fun t => t.rfe == (front).rfe) = true ∧ runs (.directStop 0#24) (holding (open_ 5 false)) (fun t => t.rfe.direct.isSome) = true
    ∧ runs (.directStop 0#24) (holding (open_ 2 true)) (ended · 2) = true ∧ runs (.directStop 0#24) (holding (open_ 2 false)) (ended · 1) = true
    ∧ runs (.directStop 0#24) (holding (open_ 4 false)) (fun t => ended t 1 && t.rfe.tx == none) = true ∧ runs (.directStop 0#24) (holding (open_ 3 false)) (ended · 2) = true
    ∧ runs .grantEnd (holding (open_ 4 false)) (fun t => ended t 1 && ! t.granted) = true
    ∧ runs (.synthCalDone false 0#8) (holding (open_ 5 false) [(Reg.RFE_STAT, 0x200000#24)]) (ended · 1) = true
    ∧ runs (.lockDetected false 2) (holding (open_ 1 true) [(Reg.RFE_STAT, 0x300000#24)]) (ended · 0) = true
    ∧ runs (.heldCommandStart { vpa := 0, lbt := 0 }) { holding (open_ 2 true) with tb := { State.reset.tb with phase := 1001 } } (ended · 6) = true
    ∧ runs (.heldCommandStart { vpa := 0, lbt := 0 }) { holding (open_ 2 true) with tb := { State.reset.tb with phase := 1000 } } (fun t => t.path false == 4 && t.rfe.direct == some { open_ 2 false with started := true }) = true
    ∧ runs .txFrameEnd { holding (open_ 3 false) with rfe := { (holding (open_ 3 false)).rfe with tx := some { air0 with sync := 8 * 0x123456 + 3 } } }
        (fun t => ended t 1 && t.rfe.tx == none && t.fld Reg.RFE_TXSTAT 16 8 == 1 && t.reg (Reg.PHY_TXTS 0) == 0x123456#24 && t.reg Reg.PHY_TXTSF == 0x600000#24) = true
    ∧ runs (.rxStop true) (front [(Reg.RFE_STAT, 0x140000#24), (Reg.RFE_GRANT, 0#24)]) (fun t => t.path true == 1) = true := by decide +kernel

/-- R70, R72: the key, the last word of the profile, both operations and their ends. -/
theorem test_RegulatoryProfile :
    let fresh (p : Option ProfileOp) (o : List Word) : State := { State.reset with rfe := { State.reset.rfe with prof := p, otp := o } }
    idles (.rpctlProgram 0x96401D#24) State.reset = true ∧ idles (.rpctlLock 0x978000#24) { State.reset with rfe := { State.reset.rfe with otpLocked := true } } = true
    ∧ runs (.rpctlProgram 0x97401D#24) (part [(Reg.RFE_RPDATA, 7#24)]) (fun t => t.rfe.prof == some (.program 29 7#24) && t.bit Reg.RFE_RPSTAT 22) = true
    ∧ runs (.rpctlLock 0x978000#24) State.reset (fun t => t.rfe.prof == some .lock && t.bit Reg.RFE_RPSTAT 22) = true
    ∧ runs .profileOpDone (fresh (some (.program 29 1#24)) (List.replicate 30 2#24)) (fun t => t.profileWord 29 == 3#24 && t.profileWord 28 == 2#24 && t.bit Reg.RFE_RPSTAT 20) = true
    ∧ runs .profileOpDone (fresh (some .lock) otp0) (fun t => t.rfe.otpLocked && ! t.bit Reg.RFE_RPSTAT 19) = true
    ∧ runs .profileOpDone (fresh (some .lock) (List.replicate 30 2#24)) (fun t => ! t.rfe.otpLocked && t.bit Reg.RFE_RPSTAT 19) = true
    ∧ runs .dutySubwindowEnd { State.reset with rfe := { State.reset.rfe with duty := List.replicate 16 20000 } } (fun t => t.rfe.duty == 0 :: List.replicate 15 20000 && t.reg Reg.RFE_DUTYUSED == 15#24) = true := by decide +kernel


/-! ## The physical layer (R74, R85, R92 to R111, R470) -/

/-- A reception on chain A. -/
def rx0 (mode : Nat) (st : RxStage) (taken : Bool := false) (cells : List Nat := []) : PhyRx :=
  { mode := mode, direct := true, chB := false, forAck := false, chan := 0, hop := 0, stage := st, taken := taken, cells := cells }

/-- The physical layer on, with that reception and registers. -/
def receiving (r : PhyRx) (l : List (Nat × Word) := []) : State := { part ([(Reg.PHY_CTL, 1#24)] ++ l) with phy := { State.reset.phy with rx := [r] } }

/-- The bits of a long Seam header, from a length, a tag and the seed of R85, with their check sequence. -/
def seamRaw (len tag : Nat) : BitVec 48 :=
  let raw := len + tag * 2 ^ 12 + 2 ^ 17
  let h := hcs (headerBits raw 34) 0xFF
  BitVec.ofNat 48 (raw + ((List.range 8).map fun i => if natBit h (7 - i) then 2 ^ (34 + i) else 0).sum)

/-- A header that brings those bits and no more. -/
def hdr (raw : BitVec 48) : RxHeader := { phrOk := true, ms := false, len := 0#11, fcs2 := false, mcs := 0#3, raw := raw, mac := [] }

/-- A sync word as the receiver decides it, at the count 9 and an eighth. -/
def sync9 (bits : BitVec 32) : RxSync := { bits := bits, sfdErr := 0, coded := false, t := 9#72, f := 1#3, powA := 0, powB := 0, cfo := 0, sigA := [], sigB := [] }

/-- A frame of n octets with its 4-octet FCS. -/
def framed (os : List Nat) : List Octet := (os ++ fcsOf false os).map (BitVec.ofNat 8)

/-- R74, R85, R97, R103, R106 to R108, R111, R470: the stages of a reception, the sync errors at and beyond the threshold, and headers that are wrong, unknown and good. -/
theorem test_Receptions :
    runs (.preambleDetect false 1 2) (receiving (rx0 2 .search)) (fun t => t.phy.rx == [{ rx0 2 .preamble with decB := false }]) = true
    ∧ runs (.syncWordMatch false (sync9 0x12345671#32)) (receiving (rx0 2 .preamble) [(Reg.PHY_SYNCW1, 0x030012#24), (Reg.PHY_SYNCW0, 0x345676#24)]) (fun t => t.phy.rx.map (fun q => (q.stage, q.sync, q.short)) == [(.synced, 73, false)]) = true
    ∧ runs (.syncWordMatch false (sync9 0xEDCBA989#32)) (receiving { rx0 2 .preamble with forAck := true } [(Reg.PHY_SYNCW1, 0x030012#24), (Reg.PHY_SYNCW0, 0x345676#24)]) (fun t => t.phy.rx.map (fun q => (q.stage, q.short)) == [(.synced, true)]) = true
    ∧ runs (.syncWordMatch false (sync9 0x12345679#32)) (receiving (rx0 2 .preamble) [(Reg.PHY_SYNCW1, 0x030012#24), (Reg.PHY_SYNCW0, 0x345676#24)]) (fun t => t.phy.rx == [rx0 2 .search] && t.reg Reg.PHY_CNTSYNC == 1#24) = true
    ∧ seamHeaderOk false (seamRaw 5 0).toNat = true ∧ seamHeaderOk false (seamRaw 4 0).toNat = false ∧ State.reset.rxTable (seamRaw 5 0).toNat = some 0 ∧ State.reset.rxTable (seamRaw 5 1).toNat = none
    ∧ runs (.headerReceived false (hdr (seamRaw 4 0))) (receiving (rx0 2 .synced)) (fun t => t.phy.rx == [rx0 2 .search] && t.reg Reg.PHY_CNTHDR == 1#24) = true
    ∧ runs (.headerReceived false (hdr (seamRaw 5 1))) (receiving (rx0 2 .synced)) (fun t => t.phy.rx == [rx0 2 .search] && t.reg Reg.PHY_CNTTAG == 1#24 && t.isPending 63) = true
    ∧ fcsGood false ((framed [1, 2, 3]).map BitVec.toNat) = true
    ∧ runs (.frameEnd false [1#8, 2#8, 3#8, 4#8, 5#8]) (receiving (rx0 2 .header)) (fun t => t.reg Reg.PHY_CNTFCS == 1#24 && t.phy.rx == [rx0 2 .search]) = true
    ∧ runs (.frameEnd false (framed [0x41, 0x88, 1, 2, 3])) (receiving (rx0 2 .header true [7, 9]) [(Reg.HOP_CTL, 0x800000#24)])
        (fun t => t.hop.jobs == [.rx { cells := [7], olen := 5 } false false false none false] && t.phy.rx == [rx0 2 .search]) = true
    ∧ runs (.phyDisable 0#24) (receiving (rx0 2 .synced)) (fun t => t.phy.rx == [] && ! t.bit Reg.PHY_CTL 0) = true := by decide +kernel

/-- R57, R77, R79, R92, R109: a chain that transmission blanks, and an SFD of coded frames; R84: the short form where no acknowledgement is expected. -/
theorem test_Receptions_more :
    let blank := { receiving (rx0 2 .search) with rfe := { State.reset.rfe with tx := some air0 } }
    blank.blanked false = true ∧ idles (.preambleDetect false 1 2) blank = true ∧ idles (.syncWordMatch false (sync9 0#32)) blank = true ∧ idles (.headerReceived false (hdr (seamRaw 5 0))) blank = true
    ∧ runs (.preambleDetect false 10 (10 ^ 12)) (receiving (rx0 0 .search)) (fun t => t.phy.rx.map (·.decB) == [true]) = true
    ∧ (receiving (rx0 0 .preamble)).fskWord = false
    ∧ runs (.syncWordMatch false { sync9 0#32 with sfdErr := 2, coded := true }) (receiving (rx0 0 .preamble) [(Reg.PHY_SYNCW1, 0x070000#24)]) (fun t => t.phy.rx.map (fun q => (q.stage, q.coded)) == [(.synced, true)]) = true
    ∧ runs (.syncWordMatch false (sync9 0#32)) (receiving (rx0 1 .preamble)) (fun t => t.phy.rx.map (·.stage) == [.synced]) = true
    ∧ runs (.syncWordMatch false (sync9 0xFFFFFFFF#32)) (receiving (rx0 2 .preamble)) (fun t => t.phy.rx.map (·.stage) == [.search]) = true := by decide +kernel

/-- The loading store on at the start of SRAM, with its three proposal words. -/
def loading (l : List (Nat × Word) := []) (p : Option Proposal := none) : State :=
  { part ([(Reg.PHY_LSCTL, 1#24), (Reg.PHY_LSBASE, 0x200000#24), (Reg.PHY_PTAB 0, 0o11111111#24)] ++ l) with phy := { State.reset.phy with prop := p } }

/-- R94, R95, R98, R100. -/
theorem test_LoadingStore :
    runs (.loadingStoreInit 0x800001#24) State.reset (fun t => t.reg Reg.PHY_LSCTL == 0x800001#24) = true
    ∧ (loading [(Reg.PHY_LSCTL, 0x800001#24)]).bit Reg.PHY_LSCTL 23 = true
    ∧ tableIllegal [0o11111111#24, 0#24, 0#24] = false ∧ tableIllegal [0#24, 0#24, 0#24] = true
    ∧ runs (.propose 0#24) (loading [(Reg.PHY_PTAB 0, 0#24)]) (fun t => t.fld Reg.PHY_PSTAT 0 8 == 7) = true
    ∧ runs (.propose 0#24) (loading [] (some { nbr := 0, cls := 0, rate := false, tag := 0, tab := [] })) (fun t => t.fld Reg.PHY_PSTAT 0 8 == 3) = true
    ∧ runs (.propose 0x7FF#24) (loading) (fun t => t.phy.prop == some { nbr := 255, cls := 3, rate := true, tag := 0, tab := [0o11111111#24, 0#24, 0#24] } && t.bit Reg.PHY_PSTAT 23) = true
    ∧ runs .proposalWritten (loading [] (some { nbr := 255, cls := 3, rate := true, tag := 0, tab := [7#24, 8#24, 9#24] })) (fun t => t.fld Reg.PHY_PSTAT 8 3 == 1 && t.isPending 61
        && t.proposalIs 255 3 1 && t.lsWord (lsEntry 255 12) == 7#24 && t.lsWord (lsEntry 255 14) == 9#24) = true
    ∧ runs (.loadingStoreInit 0x800001#24) State.reset (fun t => runs .loadingStoreInitDone t fun u => u.mem == t.mem && u.sys.busErr && ! u.bit Reg.PHY_LSCTL 23) = true
    ∧ idles .proposalWritten (loading [(Reg.PHY_LSCTL, 0#24)] (some { nbr := 0, cls := 0, rate := false, tag := 0, tab := [] })) = true := by decide +kernel

/-- R94, R95: a sample of 384 µs on the channel of entry 0: −60 dBm in group 0, nothing in the others, and their mean. -/
theorem test_SurveySample :
    let on (gend : Word) : State := loading [(Reg.PHY_LSCTL, 3#24), (Reg.PHY_CTL, 1#24), (Reg.RFE_GRANT, 1#24), (Reg.RFE_GEND, gend), (Reg.RFE_STAT, 0x110000#24), (Reg.RFE_SYSTAT, 0xF00000#24),
      (Reg.SYS_CLKSTAT, 0x200000#24), (Reg.TB_CTL, 1#24)]
    (on 77200#24).entryOf 0 = some 0 ∧ (on 77200#24).surveyChain false = true
    ∧ runs (.surveySampleDone false [10 ^ 14]) (on 77200#24)
        (fun t => t.surveyCount 0 == 1 && t.lsOctet 0 0 == 160 && t.lsOctet 0 23 == 1 && t.lsOctet 36 0 == 132 && t.tb.phase == 76800) = true
    ∧ idles (.surveySampleDone false [10 ^ 14]) (on 77199#24) = true ∧ idles (.surveySampleDone true [10 ^ 14]) (on 77200#24) = true := by decide +kernel

/-! ## The slot engine (R112 to R143) -/

/-- An operation of a slot in Seam mode on channel 0, and the front end ready for it. -/
def op0 (tx : Bool) (st : OpStage) (psdu : Option (List Nat) := none) (w1 : Word := 0x080000#24) : SlotOp :=
  { cell := 9, w1 := w1, tx := tx, hop := 0, chan := 0, chanB := 0, stage := st, psdu := psdu }

/-- The part in that slot. -/
def inSlotOp (o : SlotOp) (l : List (Nat × Word) := []) (f : RfeState → RfeState := id) : State := { front l f with slot := { State.reset.slot with op := some o, asn := 5#40 } }

/-- The operation has ended with a status. -/
def slotEnded (status : Nat) (t : State) : Bool := t.slot.op == none && t.isPending 49 && t.reg Reg.SLOT_RES1 == 5#24 && t.fld Reg.SLOT_RES0 16 8 == status && t.fld Reg.SLOT_RES0 0 12 == 9

/-- A data frame for a short address. -/
def frame0 : List Nat := [0x41, 0x88, 7, 1, 2, 3, 4, 5, 6]

/-- Fair air. -/
def env0 : AirEnv := { vpa := 3300, lbt := 0 }

/-- R81, R85, R86, R92, R101, R132, R133: a header worked out by hand, its first coded bits, the elements of acknowledgements, and the pilots at the start of a frame. -/
theorem test_SeamFrames :
    longHeader 5 false 0 0 1 0 false % 2 ^ 34 = 0x20005 ∧ seamHeaderOk false (longHeader 2047 true 7 3 127 255 true) = true ∧ seamNbr (longHeader 5 false 0 0 1 255 true) = some 255
    ∧ seamHeaderOk true (shortHeader 63) = true ∧ (headerSymbols false 0).length = 2 ∧ (headerSymbols true 0).length = 1
    ∧ ackElements false { idx := some 9, cong := true } = [0x06, 0x00, 0x0A, 0x97, 0x40, 0x81, 0x09, 0x40] ++ [0x07, 0x00, 0x0A, 0x97, 0x40, 0x03, 0x00, 0x00, 0x00]
    ∧ (ackElements true { corr := some 1000 }).take 4 = [0x02, 0x0F, 0x01, 0x00] ∧ (pilots 0).length = 8
    ∧ (payloadBits [1] 1 1 24).length = 24 ∧ tableIllegal [0o11111111#24, 0#24, 0#24] = false
    ∧ cellMode (op0 true .tuning).w1 = 2 := by decide +kernel

/-- R122, R125, R130, R131, R163. -/
theorem test_TransmitSlots :
    runs .noframeDeadline (inSlotOp (op0 true .tuning)) (slotEnded 0x53) = true
    ∧ runs (.sequencerTxStart env0) (inSlotOp (op0 true .tuning (some frame0)) [(Reg.RFE_SYSTAT, 0#24)]) (slotEnded 6) = true
    ∧ runs (.sequencerTxStart env0) (inSlotOp (op0 true .tuning (some frame0) 0x0C0000#24)) (slotEnded 7) = true
    ∧ runs (.sequencerTxStart env0) (inSlotOp (op0 true .tuning (some (frame0 ++ List.replicate 200 0)) 0#24)) (slotEnded 0x52) = true
    ∧ runs (.sequencerTxStart { env0 with vpa := 1749 }) (inSlotOp (op0 true .tuning (some frame0))) (fun t => slotEnded 4 t && t.fld Reg.RFE_TXSTAT 12 4 == 6) = true
    ∧ runs (.sequencerTxStart env0) (inSlotOp (op0 true .tuning (some frame0))) (fun t => t.path false == 5 && t.rfe.tx.isSome && t.slot.op == some { op0 true .sending (some frame0) with dur := 288000, txEnd := 368000 } && (t.rfe.tx.bind (·.frame)).map (·.seed) == some 6) = true
    ∧ runs (.sequencerTxStart { env0 with cca := true }) (inSlotOp (op0 true .tuning (some frame0) 0xC82000#24) [(Reg.SLOT_CSMA, 0x800000#24)]) (slotEnded 4) = true
    ∧ runs .txFrameEnd (inSlotOp (op0 false .ackSending) [] fun f => { f with tx := some { air0 with direct := false, ack := true } }) (fun t => slotEnded 1 t && t.rfe.tx == none) = true
    ∧ runs .txFrameEnd (inSlotOp (op0 true .sending) [] fun f => { f with tx := some { air0 with direct := false } }) (fun t => slotEnded 1 t && t.bit Reg.SLOT_RES0 14) = true
    ∧ runs .txFrameEnd (inSlotOp (op0 true .sending (some frame0) 0x180000#24) [] fun f => { f with tx := some { air0 with direct := false, sync := 73 } })
        (fun t => t.path false == 6 && (t.slot.op.map (·.stage)) == some .ackWait && (t.slot.op.map (·.tsync)) == some 73) = true
    ∧ runs (.slotAbort .lk 1#24) (inSlotOp (op0 true .sending) [] fun f => { f with tx := some air0 }) (fun t => slotEnded 2 t && t.rfe.tx == none && t.path false == 1) = true
    ∧ runs (.slotAbort .lk 1#24) (inSlotOp (op0 false .ackDue)) (fun t => t.slot.op.isSome) = true ∧ runs (.slotAbort .lk 1#24) (inSlotOp (op0 false .planned)) (slotEnded 2) = true := by decide +kernel

/-- An enhanced acknowledgement with no address: its frame control field, sequence number, the Seam acknowledgement element (R101) with the congestion bit, and a 4-octet FCS. -/
def ack0 (cong : Bool) : List Octet :=
  framed [0x02, 0x22, 7, 0x06, 0x00, 0x0A, 0x97, 0x40, 0x01, 0x00, if cong then 0x40 else 0x00]

/-- The part in a slot that receives, with a reception. -/
def withRx (o : SlotOp) (l : List PhyRx) : State := { inSlotOp o with phy := { State.reset.phy with rx := l } }

/-- R102, R123 to R125, R139, R383; the acknowledgement at the last tick that it fits in and one later. -/
theorem test_ReceiveSlots :
    let r := fun (st : RxStage) => { rx0 2 st with direct := false }
    runs .receiveWindowOpen (inSlotOp (op0 false .tuning none 0x0C0000#24)) (slotEnded 7) = true
    ∧ runs .receiveWindowOpen (inSlotOp (op0 false .tuning) [(Reg.SYS_CLKSTAT, 0x200000#24), (Reg.TB_CTL, 1#24)]) (fun t => t.path false == 4 && t.tb.phase == 76400 && t.phy.rx == [r .search]) = true
    ∧ runs .receiveWindowOpen (inSlotOp (op0 false .tuning) [] fun f => { f with mode := 2 }) (fun t => t.path true == 4 && t.phy.rx.map (·.chB) == [false, true]) = true
    ∧ runs .preambleDeadline (withRx (op0 false .receiving) [r .search]) (slotEnded 0x51) = true ∧ idles .preambleDeadline (withRx (op0 false .receiving) [r .preamble]) = true
    ∧ runs .syncDeadline (withRx { op0 false .receiving with hdrFail := true } [r .preamble]) (slotEnded 0x42) = true
    ∧ runs .syncDeadline (withRx (op0 false .receiving) [r .synced]) (fun t => (t.slot.op.map (·.late)) == some true) = true
    ∧ runs (.ackTxStart env0) (inSlotOp { op0 false .ackDue with rxEnd := 8 * 592000 + 1 }) (fun t => slotEnded 1 t && t.bit Reg.SLOT_STAT 6 && t.isPending 55) = true
    ∧ runs (.ackTxStart env0) (inSlotOp { op0 false .ackDue with rxEnd := 8 * 592000 } [(Reg.RFE_SYSTAT, 0#24)]) (fun t => slotEnded 1 t && ! t.bit Reg.SLOT_STAT 6) = true
    ∧ runs (.ackTxStart { env0 with vpa := 0 }) (inSlotOp { op0 false .ackDue with rxEnd := 8 * 592000 }) (slotEnded 1) = true
    ∧ runs (.ackTxStart env0) (inSlotOp { op0 false .ackDue with rxEnd := 8 * 592000 }) (fun t => t.path false == 6 && (t.slot.op.map (·.stage)) == some .ackSending && (t.rfe.tx.map (·.ack)) == some true) = true
    ∧ runs (.ackReceived (ack0 true)) (withRx (op0 true .ackWait) [r .header]) (fun t => slotEnded 1 t && t.bit Reg.SLOT_RES0 13) = true
    ∧ runs .ackWindowClose (withRx (op0 true .ackWait) [r .preamble]) (slotEnded 0x50) = true ∧ idles .ackWindowClose (withRx (op0 true .ackWait) [r .synced]) = true
    ∧ runs (.ackReceived [1#8, 2#8, 3#8, 4#8, 5#8]) (withRx (op0 true .ackWait) [r .header]) (fun t => slotEnded 0x50 t && t.reg Reg.PHY_CNTFCS == 1#24) = true
    ∧ runs (.ackReceived (ack0 false)) { inSlotOp (op0 false .tuning) [(Reg.TW_CTL, 0x400000#24)] with slot := { (inSlotOp (op0 false .tuning)).slot with heard := true } }
        (fun t => t.tw.air && t.tw.airFlt && ! t.slot.heard && t.reg Reg.TW_CNTAIR == 1#24) = true := by decide +kernel

/-- The slot engine on, with its state. -/
def slotOn (f : SlotState → SlotState := id) (l : List (Nat × Word) := []) (phase : Nat := 0) : State :=
  { part ([(Reg.SLOT_CTL, 0x800000#24)] ++ l) with slot := f State.reset.slot, tb := { State.reset.tb with phase := phase } }

/-- R21, R112 to R114, R126 to R128, R130, R135, R141, R143; the arm at its last tick and at its deadline. -/
theorem test_SlotProgram :
    runs (.asnRead .a0) (slotOn fun q => { q with asn := 0x0102030405#40 }) (fun t => t.sys.rdata == 0x030405#24 && t.latch .a0 Reg.SLOT_ASN1 == 0x0102#24) = true
    ∧ runs (.resultRead .a0) (slotOn id [(Reg.SLOT_RES0, 5#24), (Reg.SLOT_RES1, 6#24)]) (fun t => t.sys.rdata == 5#24 && t.latch .a0 Reg.SLOT_RES1 == 6#24) = true
    ∧ (∀ i ∈ [Instr.asnSetRequest .a0 0#24, .hopListCommit .a1 0#24, .slotArm .dbg 0#24, .slotAbort .a0 0#24, .coastEnter .a0 0#24, .bankSwitchRequest .a0 0#24], runs i (slotOn) (fun t => t.sys.busErr) = true)
    ∧ runs (.asnSetRequest .lk 0x80FFFF#24) (slotOn id [(Reg.SLOT_ASNSET0, 7#24)]) (fun t => t.slot.asnReq == some (0xFFFF * 2 ^ 24 + 7)) = true
    ∧ runs (.hopListCommit .lk 0x80003F#24) (slotOn) (fun t => t.bit Reg.SLOT_HOPCTL 23 && t.fld Reg.SLOT_HOPCTL 0 6 == 63) = true
    ∧ (slotOn).deadline ≤ 100000 ∧ runs (.slotArm .lk 0x400000#24) (slotOn id [(Reg.SLOT_CTBASE, 0x200000#24)]) (fun t => t.fld Reg.SLOT_ARMSTAT 0 8 == 7 && t.slot.armed == none) = true
    ∧ runs (.slotArm .lk 0xA00003#24) (slotOn id [(Reg.SLOT_CTBASE, 0x200000#24)] (999999 - (slotOn).deadline)) (fun t => t.slot.armed == some { act := 2, cell := 3, grant := true, words := (0#24, 0#24) } && t.bit Reg.SLOT_ARMSTAT 23) = true
    ∧ runs (.slotArm .lk 0x800000#24) (slotOn id [] (1000000 - (slotOn).deadline)) (fun t => t.slot.armed == none && t.fld Reg.SLOT_ARMSTAT 0 8 == 5 && t.bit Reg.SLOT_STAT 2 && t.isPending 50) = true := by decide +kernel

/-- R127, R128, R135, R141, R143. -/
theorem test_SlotProgram_deadline :
    runs .armDeadline (slotOn fun q => { q with armed := some { act := 2, cell := 0, grant := false, words := (0#24, 0#24) }, ovrRun := true }) (fun t => t.slot.closed && t.slot.armed.isSome && ! t.slot.ovrRun) = true
    ∧ runs .armDeadline (slotOn id [(Reg.SLOT_CTL, 0xC00000#24)]) (fun t => t.slot.closed && ! t.slot.dflt) = true
    ∧ runs .armDeadline (slotOn) (fun t => t.slot.dflt && t.reg Reg.SLOT_OVRCNT == 1#24 && t.bit Reg.SLOT_STAT 1 && t.isPending 50) = true
    ∧ runs (.coastEnter .lk 0xC00000#24) (slotOn) (fun t => t.bit Reg.SLOT_CTL 22 && t.isPending 54) = true
    ∧ runs (.bankSwitchRequest .lk 0x200007#24) (slotOn) (fun t => t.bit Reg.SLOT_LKBANK 22 && t.fld Reg.SLOT_LKBANK 0 3 == 7) = true
    ∧ runs .timeSourceFailover (slotOn id [(Reg.SLOT_TS_CFG 1, 0x800000#24), (Reg.SLOT_SYNCCFG, 5#24), (Reg.SLOT_TS_AGE 0, 5#24)]) (fun t => t.slot.ts1) = true := by decide +kernel


/-! ## The Hopper (R144 to R173) -/

/-- A pool of 128 cells at the start of SRAM, its link array, tables and state; f is a frame of one cell, 5, that a core holds. -/
def hopper (l : List (Nat × Word) := []) (f : HopState → HopState := id) : State :=
  { (part ([(Reg.HOP_CTL, 0x280000#24), (Reg.HOP_POOLBASE, 0x200000#24), (Reg.HOP_POOLCNT, 128#24), (Reg.HOP_LINKBASE, 0x240000#24), (Reg.HOP_NTBASE, 0x241000#24),
      (Reg.HOP_RTBASE, 0x242000#24), (Reg.HOP_FREECNT, 64#24), (Reg.HOP_QCFG 0, 1#24), (Reg.HOP_QCFG 28, 1#24)] ++ l)).setMem 0x240005 0x800000#24 with hop := f State.reset.hop }

/-- The frame of cell 5. -/
def frame5 : HopFrame := { cells := [5], olen := 0 }

/-- Queue k holds frames. -/
def queued (k : Nat) (q : HopQueue) : HopState → HopState := fun h => { h with q := setAt q h.q k }

/-- R147, R166, R168, R172: layouts at and below the least pool, allocation with 65 and 64, 1 and 0 free cells. -/
theorem test_CellPool :
    (hopper).layoutOk = true ∧ (hopper [(Reg.HOP_POOLCNT, 127#24)]).layoutOk = false
    ∧ runs (.hopperEnable 0x800000#24) (hopper [(Reg.HOP_POOLCNT, 127#24)]) (fun t => ! t.bit Reg.HOP_CTL 23 && t.bit Reg.HOP_STAT 3 && t.isPending 71) = true
    ∧ runs (.hopperEnable 0x800000#24) (hopper [] fun h => { h with ready := true }) (fun t => t.bit Reg.HOP_CTL 23 && t.hop.free == []) = true
    ∧ runs (.hopperEnable 0x800000#24) (hopper) (fun t => t.bit Reg.HOP_CTL 23 && t.hop.free == List.range 128 && t.freeCells == 128) = true
    ∧ runs (.cellAlloc .a0) (hopper [] fun h => { h with free := List.range 64 }) (fun t => t.sys.rdata == 0#24 && t.hop.free.length == 64) = true
    ∧ runs (.cellAlloc .a0) (hopper [] fun h => { h with free := (List.range 65).reverse }) (fun t => t.sys.rdata == 0x800040#24 && t.hop.free.length == 64 && t.linkSt 64 == 2 && t.freeCells == 64) = true
    ∧ runs (.cellAllocReserve .a0) (hopper) (fun t => t.sys.rdata == 0#24) = true
    ∧ runs (.cellAllocReserve .a0) (hopper [] fun h => { h with free := [3] }) (fun t => t.sys.rdata == 0x800003#24 && t.hop.free == []) = true
    ∧ (hopper).coreHolds 5 = true ∧ (hopper).coreHolds 6 = false ∧ (hopper).mirroring = false
    ∧ runs (.release 5#24) (hopper [] fun h => { h with free := [9] }) (fun t => t.hop.free == [5, 9] && t.linkSt 5 == 0) = true
    ∧ runs (.release 6#24) (hopper) (fun t => t.bit Reg.HOP_STAT 4 && t.isPending 71) = true := by decide +kernel

/-- R157 to R160, R162, R167, R168. -/
theorem test_HopperQueues :
    let stat := fun (t : State) => t.latch .lk Reg.HOP_ENQSTAT
    (hopper).hop.q.length = 32 ∧ (hopper).coreFrame 5 = frame5 ∧ idles (.enqueue .lk 5#24) ((hopper).setLatch .lk Reg.HOP_ENQSTAT 0x6F0000#24) = true
    ∧ runs (.enqueue .a0 5#24) (hopper) (fun t => t.latch .a0 Reg.HOP_ENQSTAT == 0x070000#24) = true ∧ runs (.enqueue .lk 0x100005#24) (hopper) (fun t => stat t == 0x070000#24 && ! t.bit Reg.HOP_STAT 4) = true
    ∧ runs (.enqueue .lk 0x800006#24) (hopper) (fun t => stat t == 0x070000#24 && t.bit Reg.HOP_STAT 4) = true
    ∧ runs (.enqueue .lk 0x800005#24) (hopper) (fun t => stat t == 0x6F0000#24 && t.hop.jobs == [.enq .lk frame5]) = true
    ∧ runs (.enqueue .lk 0x000005#24) (hopper) (fun t => stat t == 0#24 && (t.hq 0).frames == [frame5] && t.isPending 72) = true
    ∧ runs (.dequeue .lk 3) (hopper) (fun t => t.sys.rdata == 0#24) = true
    ∧ runs (.dequeue .lk 3) (hopper [] (queued 31 { frames := [{ cells := [7], olen := 1 }, frame5] })) (fun t => t.sys.rdata == 0x800007#24 && (t.hq 31).frames == [frame5] && t.linkSt 7 == 2) = true
    ∧ runs (.queueFlush 0x360000#24) (hopper) (fun t => t.bit Reg.HOP_STAT 4 && t.isPending 71) = true
    ∧ runs (.queueFlush 0x380000#24) (hopper [] (queued 28 { frames := [frame5] })) (fun t => (t.hq 28).frames == []) = true
    ∧ runs (.queueFlush 0x060000#24) (hopper [] (queued 3 { frames := [frame5, frame5], locked := true })) (fun t => (t.hq 3).frames == [frame5] && (t.hq 3).flush) = true
    ∧ runs (.queueBind 0x3600FF#24) (hopper) (fun t => t.isBound 27 && t.qNbr 27 == 255 && t.bit (Reg.HOP_QCFG 27) 20 && t.boundQueue 255 (t.qClass 27) == 27 && t.isPending 68) = true
    ∧ runs (.queueUnbind 0x080000#24) (hopper [(Reg.HOP_QSTAT 4, 0x800000#24)]) (fun t => ! t.isBound 4) = true
    ∧ (∀ i ∈ [Instr.queueBind 0x380000#24, .queueUnbind 0x060000#24], runs i (hopper) (fun t => t.bit Reg.HOP_STAT 4) = true)
    ∧ runs (.queueBind 0x080000#24) (hopper [] (queued 4 { frames := [frame5] })) (fun t => t.bit Reg.HOP_STAT 4 && ! t.isBound 4) = true
    ∧ runs (.deferExpired 31) (hopper [(Reg.HOP_QSTAT 31, 0x000800#24)]) (fun t => t.reg (Reg.HOP_QSTAT 31) == 0#24) = true
    ∧ idles (.deferExpired 31) (hopper [(Reg.HOP_QSTAT 31, 0x001000#24)]) = true := by decide +kernel

/-- R159, R167, R169, R383. -/
theorem test_ForwardingDecisions :
    let waiting := fun (l : List (Nat × Word)) (j : HopJob) => hopper l fun h => { h with jobs := [j] }
    idles .forwardingDecision (hopper) = true ∧ idles .forwardingDecision (waiting [(Reg.TW_CTL, 0x400000#24)] (.enq .a0 frame5)) = true
    ∧ runs .forwardingDecision (waiting [] (.enq .a0 frame5)) (fun t => t.hop.jobs == [] && decide (fieldOf (t.latch .a0 Reg.HOP_ENQSTAT) 16 8 ∈ [0, 4, 0x60, 0x61, 0x62, 0x63])) = true
    ∧ runs .forwardingDecision (waiting [] (.rx frame5 false true false none false)) (fun t => t.hop.jobs == [] && t.hop.free == [5] && t.reg Reg.HOP_CNTSEC == 1#24) = true
    ∧ (waiting [] (.rx frame5 false false false none false)).bit Reg.HOP_CTL 22 = false
    ∧ runs .forwardingDecision ((waiting [] (.rx { frame5 with olen := 3 } false false false none false)).setMem 0x200292 0#24)
        (fun t => (t.hq 28).frames == [{ frame5 with olen := 3 }] && t.isPending 64 && t.hop.jobs == []) = true := by decide +kernel


/-! ## Clocks and power (R255 to R276) -/

/-- R255, R259 to R262, R264, R266 to R269. -/
theorem test_Clocks :
    let swTo := fun (k : Option Nat) (f : Bool) (l : List (Nat × Word)) => { part l with sys := { State.reset.sys with swTo := k, swForced := f } }
    runs (.clockControlWrite 0xB00000#24) (part [(Reg.SYS_CLKCTL, 0x800000#24)]) (fun t => t.reg Reg.SYS_CLKCTL == 0xB00000#24 && t.sys.swTo == none) = true
    ∧ runs (.clockControlWrite 0x040000#24) (part [(Reg.SYS_CLKCTL, 0xB00000#24)]) (fun t => t.reg Reg.SYS_CLKCTL == 0x840000#24 && t.sys.swTo == some 1 && t.bit Reg.SYS_CLKSTAT 18) = true
    ∧ runs (.clockControlWrite 0#24) { part [(Reg.SYS_CLKCTL, 0x880000#24), (Reg.SYS_CLKSTAT, 0x080000#24)] with sys := { State.reset.sys with swForced := true, swTo := some 0 } }
        (fun t => t.sys.swTo == some 0 && t.sys.swForced) = true
    ∧ runs (.clockControlWrite 0x0C0000#24) (part [(Reg.SYS_CLKCTL, 0x880000#24), (Reg.SYS_CLKSTAT, 0x080000#24)]) (fun t => t.reg Reg.SYS_CLKCTL == 0x880000#24) = true
    ∧ runs (.sourceStable 0) (part [(Reg.SYS_CLKCTL, 0x800000#24)]) (fun t => t.bit Reg.SYS_CLKSTAT 23) = true ∧ runs (.sourceStable 1) State.reset (fun t => t.bit Reg.SYS_CLKSTAT 16) = true
    ∧ idles (.sourceStable 2) State.reset = true
    ∧ runs (.pllLock true) (part [(Reg.SYS_CLKCTL, 0xB00000#24), (Reg.SYS_CLKSTAT, 0x800000#24)]) (fun t => t.bit Reg.SYS_CLKSTAT 21 && ! t.bit Reg.SYS_CLKSTAT 22) = true
    ∧ runs (.pllLock false) (part [(Reg.SYS_CLKCTL, 0xB00000#24), (Reg.SYS_CLKSTAT, 0x800000#24)]) (fun t => t.bit Reg.SYS_CLKSTAT 22) = true
    ∧ runs .clockSwitchComplete (swTo (some 1) false [(Reg.SYS_CLKSTAT, 0x840000#24)]) (fun t => t.cur == 1 && t.sys.swTo == none && ! t.bit Reg.SYS_CLKSTAT 18) = true
    ∧ runs .clockSwitchForced (swTo (some 0) true []) (fun t => t.cur == 0 && t.bit Reg.SYS_CLKSTAT 4 && ! t.sys.swForced) = true
    ∧ (∀ i ∈ [Instr.clockSwitchComplete, .clockSwitchForced], idles i (swTo (some 2) false []) = true)
    ∧ runs .dividerChange (part [(Reg.SYS_CLKCTL, 0x3C000#24)]) (fun t => t.sys.divs == 15) = true := by decide +kernel

/-- R263, R264: the writes of blocks whose gates are closed; a divert of a forced switch; the commands that do nothing in deep sleep. -/
theorem test_Clocks_gates :
    let shut := part [(Reg.SYS_GATERUN, 0#24), (Reg.SYS_GATESLP, 0#24)]
    (∀ a ∈ [Base.RFE, Base.PHY, Base.HOP, Base.TW, Base.DALI, Base.HL, Base.SPIM, Base.I2C, Base.GPIO, Base.ADC, Base.ADIT], shut.gateOpen a = false)
    ∧ (∀ i ∈ [Instr.frontEndEnable 3#24, .hopperEnable 0#24, .daliTransmit 0x820000#24 false, .gpioSet 1#24, .adcSequenceStart 0xC00F00#24, .aditDisable 0#24],
        runs i shut (fun t => decide (t = shut.noteBus true) && t.sys.busErr) = true)
    ∧ runs .clockSwitchForced { State.reset with sys := { State.reset.sys with swForced := true, swTo := some 0, swNext := some 1 } } (fun t => t.cur == 0 && t.sys.swTo == some 1 && ! t.sys.swForced) = true
    ∧ (∀ i ∈ [Instr.clockControlWrite 0#24, .registerWrite .a0 0xF00065#24 7#24, .asnRead .lk, .cellAlloc .a1, .slotArm .lk 0#24, .hopperEnable 0#24],
        idles i { State.reset with sys := { State.reset.sys with power := .deepSleep } } = true) := by decide +kernel

/-- R264, R266 to R269: a closed gate, each clock's failure and return, and the release of the outputs. -/
theorem test_Clocks_failures :
    let on := part [(Reg.SYS_CLKCTL, 0xB00000#24), (Reg.SYS_CLKSTAT, 0xE80000#24)]
    let shut := { part [(Reg.SYS_GATERUN, 0#24)] with a0 := (onA0 []).a0 }
    (State.reset.gateOpen 0xF00000 = true ∧ idles (.gateAccessTimeout .a0 0xF00000#24) State.reset = true)
    ∧ shut.gateOpen Base.HL = false ∧ runs (.gateAccessTimeout .a0 (BitVec.ofNat 24 Base.HL)) shut (fun t => t.sys.busErr && (t.a0.fault.map (·.code)) == some 5 && t.a1.fault == none) = true
    ∧ (∀ k : Fin 4, runs (.clockFail k) on (fun t => t.isFailed k.val && t.bit Reg.SYS_CLKSTAT k.val && t.isPending 82 && t.bit Reg.SYS_CLKSTAT 17 == (k != 3)) = true)
    ∧ runs (.clockFail 2) on (fun t => t.lk.noClock && t.tb.extrap) = true
    ∧ runs (.clockFail 0) on (fun t => t.a0.noClock && t.sys.swTo == some 0 && t.sys.swForced) = true
    ∧ (∀ k : Fin 4, runs (.clockReturn k) { on with sys := { on.sys with refFail := true, splFail := true, tplFail := true, x32Fail := true } } (fun t => ! t.isFailed k.val && t.isPending 82) = true)
    ∧ runs (.safeRelease 1#24) (part [(Reg.SYS_CLKSTAT, 0x020000#24)]) (fun t => ! t.bit Reg.SYS_CLKSTAT 17) = true
    ∧ idles (.safeRelease 0#24) (part [(Reg.SYS_CLKSTAT, 0x020000#24)]) = true
    ∧ idles (.safeRelease 1#24) { State.reset with sys := { State.reset.sys with x32Fail := true } } = true := by decide +kernel

/-- Every core waits, and deep sleep is asked for. -/
def drowsy (l : List (Nat × Word) := []) : State :=
  let w := { State.reset.a0 with run := .wfi, issued := true }
  { part ([(Reg.SYS_PMCTL, 1#24)] ++ l) with a0 := w, a1 := w, lk := { State.reset.lk with run := .wfi } }

/-- The same with source 32 to wake A0. -/
def waking : List (Nat × Word) := [(Reg.INT_SRC 32, 0xA00000#24), (Reg.INT_PEND 1, 0x000100#24)]

/-- R50, R272 to R276. -/
theorem test_PowerModes :
    let at_ := fun (p : PowerMode) (s : State) => { s with sys := { s.sys with power := p } }
    (drowsy).deepAsked = true ∧ (drowsy).deepReady = true ∧ (drowsy waking).deepReady = false ∧ State.reset.losses.length = 9
    ∧ runs (.deepSleepEntry true) (drowsy) (fun t => t.bit Reg.SYS_PMSTAT 2) = true
    ∧ runs (.deepSleepEntry false) (drowsy [(Reg.SYS_CLKSTAT, 0xF80000#24)]) (fun t => t.sys.power == .deepSleep && t.a0.noClock && ! t.bit Reg.SYS_CLKSTAT 21 && t.tb.extrap) = true
    ∧ (∀ b, idles (.deepSleepEntry b) State.reset = true) ∧ (∀ b, idles (.deepSleepEntry b) (drowsy waking) = true)
    ∧ runs (.deepSleepExit 3) (at_ .deepSleep (drowsy waking)) (fun t => t.sys.power == .exiting && t.tb == State.reset.tb) = true
    ∧ runs (.deepSleepExit 3) { at_ .deepSleep (drowsy waking) with tb := { State.reset.tb with extrap := true, inc := 2 ^ 32 } } (fun t => t.tb.count == 3#72) = true
    ∧ idles (.deepSleepExit 3) (drowsy) = true
    ∧ runs .exitReferenceTimeout (at_ .exiting (part [(Reg.SYS_CLKCTL, 0x800000#24)])) (fun t => t.sys.power == .on && t.sys.refFail && t.bit Reg.SYS_PMSTAT 1 && t.bit Reg.SYS_CLKSTAT 17) = true
    ∧ runs (.offRequest 0x974003#24) State.reset (fun t => t.sys.offReq && t.reg Reg.SYS_PMCTL == 1#24) = true
    ∧ runs (.offRequest 0x974103#24) State.reset (fun t => ! t.sys.offReq) = true
    ∧ runs .offEntry { State.reset with sys := { State.reset.sys with offReq := true } } (fun t => t.sys.power == .off && t.sys.inReset == some .power) = true
    ∧ idles .offEntry State.reset = true := by decide +kernel

/-! ## Start-up and the host's commands (R279 to R298, R469) -/

/-- R288, R291, R295 to R297, R469: the conditions under which the boot ROM's work is done, and the loader and the releases. -/
theorem test_StartUp :
    State.reset.romRuns = true ∧ State.reset.locked = false ∧ State.reset.norBlockOk [0, 256] 0 0 = false ∧ State.reset.norBlockOk [0, 256] 1 0 = false
    ∧ (onA0 []).romRuns = false ∧ idles (.bootSequence [] [] [] true false true) (onA0 []) = true ∧ idles (.applicationRestart [] []) (onA0 []) = true
    ∧ (part [(Reg.SYS_BOOTSTAT, 0x000800#24)]).romRuns = true ∧ (part [(Reg.SYS_BOOTSTAT, 0x008800#24)]).safe = true
    ∧ runs (.applicationRestart [] []) (part [(Reg.SYS_BOOTSTAT, 0x008800#24)]) (fun t => t.a0.issued && t.a0.pc == 0xE00000#24) = true
    ∧ runs (.linkRamLoad 7#24) (part [(Reg.SYS_LKLDADR, 0x3FFF#24)]) (fun t => t.mem1 0xD03FFF == 7#24 && t.reg Reg.SYS_LKLDADR == 0#24) = true
    ∧ idles (.linkRamLoad 7#24) (part [(Reg.SYS_CORECTL, 1#24)]) = true ∧ idles (.linkRamLoad 7#24) (part [(Reg.SYS_BOOTSTAT, 0x000800#24)]) = true
    ∧ (∀ i ∈ [Instr.a1Release 2#24, .lkRelease 2#24], runs i State.reset (fun t => t.bit Reg.SYS_CORECTL 1 && t.a1.run == .wfi) = true)
    ∧ (∀ i ∈ [Instr.a1Release 2#24, .registerWrite .dbg 0xF00061#24 2#24], runs i { part [(Reg.SYS_CORECTL, 2#24)] with a1 := { State.reset.a1 with pc := 7#24 } } (fun t => t.bit Reg.SYS_CORECTL 1 && t.a1.pc == 7#24) = true)
    ∧ (∀ i ∈ [Instr.lkRelease 3#24, .registerWrite .a1 0xF00061#24 3#24], runs i State.reset (fun t => t.fld Reg.SYS_CORECTL 0 2 == 3 && t.a1.run == .wfi && t.lk.run == .run && t.lk.pc == 0xD00000#24) = true)
    ∧ State.reset.debugBars .dbg = false
    ∧ runs (.a1Release 2#24) (part [(Reg.SYS_A1ENT, 0x200000#24)]) (fun t => t.a1.run == .run && t.a1.pc == 0x200000#24) = true
    ∧ runs (.lkRelease 1#24) (part [(Reg.SLOT_LKBANK, 0x800000#24)]) (fun t => t.lk.run == .run && t.lk.pc == 0xD04000#24) = true
    ∧ idles (.lkRelease 0#24) State.reset = true := by decide +kernel

/-- The host link on and the firmware serving. -/
def serving (l : List (Nat × Word) := []) : State := part ([(Reg.SYS_BOOTSTAT, 0x000800#24), (Reg.HL_CTL, 0x800000#24), (Reg.SYS_GATERUN, 0xFFFFFF#24)] ++ l)

/-- R298: what does not depend on free words: the conditions, and the effects beside the reply. -/
theorem test_HostCommands :
    (serving).serves = true ∧ (serving).hlOn = true ∧ (serving).hostBusy = false ∧ (serving).safe = false ∧ (serving [(Reg.SYS_BOOTSTAT, 0x008800#24)]).safe = true
    ∧ { serving with hl := { State.reset.hl with dali := some 0 } }.hostBusy = true
    ∧ (0x07F000#24).toNat % 4096 = 0 ∧ (0x07FF01#24).toNat % 256 + 3 * 85 ≤ 256 ∧ (0x07FF01#24).toNat + 3 * 85 ≤ 0x80000 ∧ (0x07FD03#24).toNat + 3 * 255 ≤ 0x80000
    ∧ runs (.profileWord 1#16 29#24 5#24) (serving) (fun t => t.profileWord 29 == 5#24 && t.profileWord 28 == 0#24) = true
    ∧ runs (.profileLock 1#16) { serving with rfe := { State.reset.rfe with otp := otp0 } } (fun t => t.rfe.otpLocked) = true
    ∧ runs (.reset 1#16) (serving) (fun t => t.sys.inReset == some .system && t.bit Reg.SYS_RSTCAUSE 5) = true
    ∧ State.reset.ash.holder = none ∧ { serving with ash := { State.reset.ash with holder := some .a0 } }.ash.holder.isSome = true
    ∧ (serving).hop.free.length < cellCount 2043 + 64 ∧ cellCount 2043 + 64 = 70
    ∧ runs (.schedGet 1#16) { serving with hl := { State.reset.hl with sched := some [7#24] } } (fun t => t.hl.sched == some [7#24]) = true := by decide +kernel

/-- R298: a schedule without a signature is refused. -/
theorem test_HostCommands_sched : ((serving).ashVerify .a0 0x31 [] []).1 < 256 := by decide +kernel


/-! ## Flash and journal (R301 to R321) -/

/-- The NVM controller with an address and its state. -/
def flash (a : Word) (f : NvmState → NvmState := id) (l : List (Nat × Word) := []) : State := { part ([(Reg.NVM_ADDR, a)] ++ l) with nvm := f State.reset.nvm }

/-- A program of the row at an address. -/
def prog0 (a : Nat) : NvmProg := { addr := a, words := List.replicate 63 7#24 ++ [9#24], cid := 1 }

/-- An erase of the last sector. -/
def erase0 : NvmErase := { sector := 1023, cid := 1, ticket := 63 }

/-- An operation has ended with a status for A0. -/
def nvmEnded (st : Nat) (t : State) : Bool := t.fld Reg.NVM_STAT 0 8 == st && t.fld Reg.NVM_STAT 20 2 == 1 && t.isPending 78

/-- R305 to R309, R314 to R316: the last row and the last sector of flash; a row that is not blank, a HALF sector, no free ticket, BUSY, and the key. -/
theorem test_FlashOperations :
    (∀ i ∈ [Instr.program .a0 0x960001#24, .erase .a0 0x960002#24, .suspend .a0 0x960003#24 true, .resume .a0 0x960004#24], idles i (flash 0#24) = true)
    ∧ runs (.program .a0 0x970001#24) (flash 0x1FFFC0#24) (fun t => (t.nvm.prog.map (·.addr)) == some 0x1FFFC0 && t.bit Reg.NVM_STAT 23) = true
    ∧ runs (.program .a0 0x970001#24) ((flash 0x1FFFC0#24).setMem 0x1FFFFF 0#24) (fun t => nvmEnded 0x41 t && t.nvm.prog == none) = true
    ∧ runs (.program .a0 0x970001#24) ((flash 0x1FFFC0#24).setTicket 63 1 1023) (fun t => nvmEnded 0x0A t && t.nvm.prog == none) = true
    ∧ runs (.erase .a0 0x970002#24) (flash 0x1FF800#24) (fun t => (t.nvm.er.map (·.sector)) == some 1023 && t.isHalf 1023 && t.ticketState 0 == 1 && t.bit Reg.NVM_STAT 23) = true
    ∧ runs (.erase .a0 0x970002#24) ((List.range 64).foldl (fun s t => s.setTicket t 1 t) (flash 0x1FF800#24)) (fun t => nvmEnded 0x43 t && t.nvm.er == none) = true
    ∧ (∀ i ∈ [Instr.program .a0 0x970001#24, .erase .a0 0x970002#24], runs i (flash 0x1FF800#24 fun n => { n with prog := some (prog0 0) }) (nvmEnded 3) = true)
    ∧ runs (.suspend .a0 0x970003#24 false) (flash 0#24 fun n => { n with er := some erase0 }) (fun t => t.nvm.er == some { erase0 with stopping := some 1 }) = true
    ∧ runs (.resume .a0 0x970004#24) (flash 0#24 fun n => { n with er := some { erase0 with susp := true } }) (fun t => nvmEnded 0 t && t.nvm.er == some erase0 && t.ticketState 63 == 1) = true := by decide +kernel

/-- R302, R306 to R311, R314. -/
theorem test_FlashOperations_ends :
    let er := fun (e : NvmErase) => flash 0#24 fun n => { n with er := some e }
    let pg := flash 0#24 fun n => { n with prog := some (prog0 0x1FFFC0) }
    runs (.programComplete true) pg (fun t => nvmEnded 1 t && t.nvm.prog == none && t.mem1 0x1FFFFF == 9#24 && t.mem1 0x1FFFC0 == 7#24) = true
    ∧ (prog0 0x1FFFC0).words.length = 64 ∧ State.reset.nvm.jops = []
    ∧ runs .erasePulseEnd (er { erase0 with pulses := 3 }) (fun t => t.nvm.er == some { erase0 with pulses := 4, verify := true }) = true
    ∧ runs .erasePulseEnd (er { erase0 with pulses := 2 }) (fun t => t.nvm.er == some { erase0 with pulses := 3 }) = true
    ∧ runs (.blankVerifyEnd true) ((er { erase0 with verify := true }).setTicket 63 1 1023) (fun t => nvmEnded 1 t && t.nvm.er == none && ! t.isHalf 1023 && t.mem1 0x1FFFFF == 0xFFFFFF#24 && t.mem1 0x280BFF == 1#24) = true
    ∧ runs (.blankVerifyEnd false) (er { erase0 with verify := true, pulses := 32 }) (fun t => nvmEnded 0x42 t && t.nvm.er == none) = true
    ∧ runs (.blankVerifyEnd false) (er { erase0 with verify := true, pulses := 31 }) (fun t => t.nvm.er == some { erase0 with pulses := 31 }) = true
    ∧ runs .suspendStop (er { erase0 with stopping := some 1 }) (fun t => nvmEnded 0 t && t.nvm.er == some { erase0 with susp := true } && t.ticketState 63 == 2 && t.bit Reg.NVM_STAT 22) = true
    ∧ runs (.flashBrownOut 0) (er erase0) (fun t => nvmEnded 0x40 t && t.nvm.er == none && t.bit Reg.NVM_STAT 19 && t.ticketState 63 == State.reset.ticketState 63) = true
    ∧ runs .flashBrownOutRelease (flash 0#24 id [(Reg.NVM_STAT, 0x080000#24)]) (fun t => ! t.bit Reg.NVM_STAT 19) = true := by decide +kernel

/-- A0's journal buffer, its queue and the detector. -/
def journal (l : List JournalOp) (stat : Word := 0#24) : State := (flash 0#24 (fun n => { n with jops := l }) [(Reg.NVM_STAT, stat)]).setLatch .a0 (Reg.NVM_JBUF 0) 5#24

/-- A journal operation of A0. -/
def jop (op off : Nat) (ws : List Word) : JournalOp := { master := .a0, op := op, off := off, words := ws }

/-- R318 to R321: offsets on both sides of each limit. -/
theorem test_JournalOperations :
    ([0x0000C0#24, 0x4000BF#24, 0x400100#24, 0x8000C0#24].all fun v => runs (.journalWrite .a0 v) (journal []) (fun t => t.latch .a0 Reg.NVM_JSTAT == 7#24 && t.isPending 80 && t.nvm.jops == [])) = true
    ∧ ([0x2001FF#24, 0x2003FF#24 + 0x010000#24, 0x200FFF#24, 0x208000#24, 0x6000FF#24, 0x600200#24].all fun v => runs (.journalIncrement .a0 v) (journal []) (fun t => t.latch .a0 Reg.NVM_JSTAT == 4#24 && t.nvm.jops == [])) = true
    ∧ runs (.journalWrite .a0 0x200200#24) (journal [jop 1 0x300 [1#24]]) (fun t => t.latch .a0 Reg.NVM_JSTAT == 0x800003#24 && t.isPending 80) = true
    ∧ ([0x200200#24, 0x2003FF#24, 0x201000#24, 0x207FFF#24].all fun v => runs (.journalWrite .a0 v) (journal []) (fun t => t.nvm.jops == [jop 1 (v.toNat % 65536) [5#24]])) = true
    ∧ runs (.calibrationWrite .a0 0x6001FF#24) (journal []) (fun t => t.nvm.jops == [jop 3 0x1FF [5#24]]) = true
    ∧ ([0x4000C0#24, 0x4000FF#24].all fun v => runs (.journalIncrement .a0 v) (journal []) (fun t => t.nvm.jops == [jop 2 (v.toNat % 65536) []])) = true
    ∧ runs .journalWriteDone (journal [jop 1 0x200 [7#24]] 0x080000#24) (fun t => t.latch .a0 Reg.NVM_JSTAT == 0x40#24 && t.mem1 0x280200 == 0#24 && t.nvm.jops == []) = true
    ∧ runs .journalWriteDone (journal [jop 1 0x200 [7#24]]) (fun t => t.latch .a0 Reg.NVM_JSTAT == 1#24 && t.mem1 0x280200 == 7#24 && t.isPending 80) = true
    ∧ runs .journalWriteDone ((journal [jop 2 0xFF []]).setMem 0x2800FF 0xFFFFFE#24) (fun t => t.mem1 0x2800FF == 0xFFFFFF#24) = true
    ∧ runs .journalWriteDone ((journal [jop 2 0xFF []]).setMem 0x2800FF 0xFFFFFF#24) (fun t => t.mem1 0x2800FF == 0xFFFFFF#24) = true
    ∧ (journal [jop 3 0x101 [7#24]]).nvm.jops = [jop 3 0x101 [7#24]] ∧ (jop 3 0x101 [7#24]).op = 3 := by decide +kernel

/-! ## The Ashlar (R327 to R352) -/

/-- The mailbox held, with a command running. -/
def mailbox (h : Option Master) (r : Option AshRun) (l : List (Nat × Word) := []) : State := { part l with ash := { State.reset.ash with holder := h, run := r } }

/-- A command of A0 that runs. -/
def run0 (code len : Nat) (rom : Bool := false) : AshRun := { code := code, len := len, master := .a0, rom := rom }

/-- R327 to R329. -/
theorem test_Mailbox :
    idles (.getInfo .a0 0#10) (mailbox none none) = true
    ∧ runs (.debugUnlock .a1 171#10) (mailbox (some .a1) (some (run0 1 0)) [(Reg.ASH_STAT, 0x800000#24)]) (fun t => t.bit Reg.ASH_STAT 21) = true
    ∧ runs (.fcntRaise .lk 2#10) (mailbox (some .lk) none) (fun t => t.ash.run == some { code := 0x43, len := 2, master := .lk, rom := false } && t.bit Reg.ASH_STAT 23 && t.intc.ashPend.getLsbD 0) = true
    ∧ runs (.getInfo .a0 0#10) (mailbox (some .a0) none) (fun t => (t.ash.run.map (·.rom)) == some true) = true
    ∧ runs (.mailboxClaim .dbg) (mailbox none none) (fun t => t.sys.rdata == (if State.reset.debugLocked then 3#24 else 0x800400#24)) = true
    ∧ runs (.mailboxClaim .a1) (mailbox none none) (fun t => t.sys.rdata == 0x800300#24 && t.ash.holder == some .a1) = true
    ∧ runs (.mailboxClaim .a1) (mailbox (some .lk) none) (fun t => t.sys.rdata == 0x000103#24 && t.ash.holder == some .lk) = true
    ∧ (∀ i ∈ [Instr.mailboxRelease .a0 1#24 false, .withdraw .a0 1#24 false], idles i (mailbox (some .a1) none) = true
        ∧ runs i (mailbox (some .a0) none [(Reg.ASH_RSP 511, 5#24)]) (fun t => t.ash.holder == none && t.reg (Reg.ASH_RSP 511) == 0#24) = true
        ∧ idles i (mailbox (some .a0) (some (run0 1 0)) [(Reg.ASH_STAT, 0x800000#24)]) = true)
    ∧ runs (.withdraw .a0 2#24 false) (mailbox (some .a0) (some (run0 1 0))) (fun t => t.ash.run == some { run0 1 0 with out := some (2, []) } && t.intc.ashPend.getLsbD 1) = true
    ∧ runs .mailboxResponse (mailbox (some .a0) (some { run0 1 0 with out := some (255, List.replicate 16 3#24) })) (fun t => t.fld Reg.ASH_STAT 0 8 == 255 && t.fld Reg.ASH_STAT 8 10 == 16
        && t.reg (Reg.ASH_RSP 15) == 3#24 && t.isPending 76 && t.bit Reg.ASH_STAT 22) = true
    ∧ idles .mailboxResponse (mailbox (some .a0) none) = true := by decide +kernel

/-- The status of a command's response. -/
def answers (st : Nat) (n : Nat) (t : State) : Bool := t.fld Reg.ASH_STAT 0 8 == st && t.fld Reg.ASH_STAT 8 10 == n && t.ash.run == none && t.isPending 76

/-- R331 to R334, R338, R340, R341, at each side of the checks. -/
theorem test_AshlarServices :
    runs .mailboxResponse (mailbox (some .a0) (some (run0 0x3F 0))) (answers 7 0) = true ∧ runs .mailboxResponse (mailbox (some .a0) (some (run0 0x11 0))) (answers 7 0) = true
    ∧ runs .mailboxResponse (mailbox (some .a0) (some (run0 0x11 513))) (answers 7 0) = true
    ∧ ashLen 0x01 = some (0, 0) ∧ ashLen 0x03 = some (1, 1) ∧ ashLen 0x3F = none
    ∧ runs .mailboxResponse { mailbox (some .a0) (some (run0 0x03 1)) [(Reg.ASH_REQ 0, 512#24)] with ash := { (mailbox (some .a0) (some (run0 0x03 1))).ash with eng := { hf := true } } } (answers 0x44 0) = true
    ∧ runs .mailboxResponse (mailbox (some .a0) (some (run0 0x10 0))) (fun t => answers 0 0 t && t.ash.stream == some []) = true
    ∧ runs .mailboxResponse { mailbox (some .a0) none [(Reg.ASH_REQ 0, 0x010203#24)] with ash := { State.reset.ash with stream := some [9], run := some (run0 0x11 1) } } (fun t => answers 0 0 t && t.ash.stream == some [9, 1, 2, 3]) = true
    ∧ runs .mailboxResponse (mailbox (some .a0) (some (run0 0x11 1))) (answers 0x47 0) = true
    ∧ runs .mailboxResponse (mailbox (some .a0) (some (run0 0x14 1))) (answers 4 0) = true
    ∧ runs .mailboxResponse ((mailbox (some .a0) (some (run0 0x14 1 true)) [(Reg.ASH_REQ 0, 5#24)]).setMem 0x280401 5#24) (fun t => answers 0 0 t && t.mem1 0x280401 == 5#24 && t.ash.applied == 5#24) = true
    ∧ runs .mailboxResponse ((mailbox (some .a0) (some (run0 0x14 1 true)) [(Reg.ASH_REQ 0, 4#24)]).setMem 0x280401 5#24) (answers 4 0) = true
    ∧ runs .mailboxResponse { mailbox (some .a0) none with ash := { State.reset.ash with owner := some (5, 3), run := some (run0 0x20 172) } } (fun t => answers 0x40 0 t && t.ash.owner == some (5, 3)) = true
    ∧ (mailbox (some .a0) (some (run0 0x20 172))).ash.owner = none
    ∧ runs .mailboxResponse { mailbox (some .a0) none [(Reg.ASH_REQ 1, 0x80#24)] with ash := { State.reset.ash with keys := List.replicate 32 (some { key := [], idx := 0, level := 0 }), run := some (run0 0x41 2) } }
        (fun t => answers 0 0 t && t.ash.keys.getD 31 none == none && (t.ash.keys.getD 30 none).isSome) = true := by decide +kernel

/-- R340, R343, R334. -/
theorem test_AshlarServices_counters :
    runs .mailboxResponse ((mailbox (some .a0) (some (run0 0x42 0))).setMem 0x280405 0xFFFE#24) (fun t => answers 0 2 t && t.reg (Reg.ASH_RSP 0) == 0xFE0000#24 && t.reg (Reg.ASH_RSP 1) == 0xFF#24 && t.mem1 0x280405 == 0xFFFF#24) = true
    ∧ runs .mailboxResponse ((mailbox (some .a0) (some (run0 0x42 0))).setMem 0x280405 0xFFFF#24) (answers 4 0) = true
    ∧ runs .mailboxResponse ((mailbox (some .a0) (some (run0 0x43 2)) [(Reg.ASH_REQ 0, 0xFEFFFF#24), (Reg.ASH_REQ 1, 0xFF#24)]).setMem 0x280405 7#24) (fun t => answers 0 1 t && t.mem1 0x280405 == 0xFFFF#24) = true
    ∧ runs .mailboxResponse { mailbox (some .a0) none with ash := { State.reset.ash with nodbg := true, run := some (run0 0x51 171) } } (answers 4 0) = true
    ∧ runs .mailboxResponse (mailbox (some .dbg) (some { run0 0x30 11 with master := .dbg })) (answers 4 0) = true := by decide +kernel

/-- R345, R352. -/
theorem test_EnclaveAlarms :
    let eng := fun (e : CryptoEngine) => { State.reset with ash := { State.reset.ash with eng := e } }
    let hot := { State.reset with ash := { State.reset.ash with tempOut := true } }
    State.reset.mem1 0x280407 ≠ 0xFFFFFF#24
    ∧ runs .temperatureAlarm State.reset (fun t => t.ash.tempOut && t.intc.ashPend.getLsbD 10 && t.bit Reg.ASH_INFO 19 && t.isPending 77 && t.mem1 0x280407 == 1#24) = true ∧ idles .temperatureAlarm hot = true
    ∧ runs .dieTemperatureReturn hot (fun t => ! t.ash.tempOut) = true
    ∧ runs .healthTestFail (eng { avail := 9 }) (fun t => t.ash.eng.hf && t.ash.eng.avail == 0 && t.bit Reg.ASH_INFO 17 && t.intc.ashPend.getLsbD 5) = true
    ∧ runs .healthRecovered (eng { hf := true }) (fun t => ! t.ash.eng.hf) = true
    ∧ runs .randomDataReady (eng { avail := 15 }) (fun t => t.ash.eng.avail == 16 && t.intc.ashPend.getLsbD 4) = true
    ∧ runs .randomDataReady (eng { avail := 31 }) (fun t => t.ash.eng.avail == 32 && ! t.intc.ashPend.getLsbD 4) = true
    ∧ idles .randomDataReady (eng { avail := 32 }) = true ∧ idles .randomDataReady (eng { hf := true }) = true := by decide +kernel


/-! ## Field update (R353 to R367) -/

/-- The update service running, with words of the journal. -/
def updating (j : List (Nat × Word)) : State := j.foldl (fun s e => s.setMem e.1 e.2) (serving)

/-- A transfer of the mesh, or of the host link, of a body of so many words. -/
def transfer (src : Nat) (body : Nat := 128) : State := updating [(0x280200, 0x100000#24), (0x280205, BitVec.ofNat 24 src), (0x100004, BitVec.ofNat 24 body)]

/-- A vendor's header for any silicon, with a body of one word. -/
def header0 : List Word := [0xB9F1A5#24, 0x974000#24, 0x010004#24, 0#24, 1#24] ++ List.replicate 251 0#24

/-- R357 to R360, R367. -/
theorem test_UpdateService :
    (serving).updRuns = true ∧ (transfer 0).updOwner = some 0 ∧ (transfer 0).copyState = 1 ∧ (serving).updOwner = none ∧ (transfer 0).bodyLen 1 = 128 ∧ bodyBlocks 128 = 2 ∧ bodyBlocks 129 = 3
    ∧ (transfer 2).updOwner = some 2
    ∧ runs (.updHeader 2 1#16 header0 true) (transfer 0) (fun t => t.upd.answer == some (2, 3, 0)) = true
    ∧ runs (.updHeader 0 1#16 (0#24 :: header0) true) (serving) (fun t => t.upd.answer == some (0, 0x40, 0) && (t.mem1 0x280200).toNat % 256 == 0x40) = true
    ∧ ((serving).updChecks header0).1 = 0
    ∧ runs (.updBlock 0 1#16 2#24 [] true true) (transfer 0) (fun t => t.upd.answer == some (0, 0x47, 0)) = true
    ∧ runs (.updBlock 0 1#16 0#24 [] true true) (serving) (fun t => t.upd.answer == some (0, 0x47, 0)) = true
    ∧ runs (.updBlock 0 1#16 1#24 [] false true) (transfer 0) (fun t => t.upd.answer == some (0, 8, 0) && t.copyState == 1) = true
    ∧ 0x100100 + 64 * 0 = 0x100100 ∧ 0x100100 % 2048 ≠ 0 ∧ (transfer 0).rowBlank 0x100100 = true ∧ (transfer 0).isHalf (0x100100 / 2048) = false
    ∧ runs .transferTimeout (transfer 0) (fun t => t.copyState == 0 && (t.mem1 0x280200).toNat % 256 == 2) = true ∧ idles .transferTimeout (serving) = true
    ∧ (serving).hl.tx = none ∧ (transfer 1).updOwner = some 1 := by decide +kernel

/-- R359: a header that is open already. -/
theorem test_UpdateService_resume : ((transfer 0).setMemWords 0x28021D (hdrDigest header0)).memWords 0x28021D 22 = hdrDigest header0 := by decide +kernel


/-! ## Twin operation (R370 to R390) -/

/-- The twin link in a state (0 DOWN, 1 TRAIN, 2 UP), with registers and the engine. -/
def twin (link : Nat) (l : List (Nat × Word) := []) (f : TwinState → TwinState := id) : State :=
  { part ([(Reg.TW_CTL, 0x800000#24), (Reg.TW_STAT, BitVec.ofNat 24 (link * 2 ^ 22)), (Reg.TW_CFG, 0x0A3000#24)] ++ l) with tw := f State.reset.tw }

/-- A block that has been sent. -/
def block0 (typ resends : Nat := 3) : TwBlock := { seq := 255, typ := typ, words := [0x800000#24], resends := resends }

/-- R370 to R374: the link. -/
theorem test_TwinLink :
    runs (.twinLinkEnable 0xFFFFFF#24) (twin 0 [(Reg.TW_CTL, 0x080000#24)]) (fun t => t.reg Reg.TW_CTL == 0xFC0000#24) = true
    ∧ runs (.handoverStart 0x040000#24) (twin 0) (fun t => t.reg Reg.TW_CTL == 0x040000#24) = true
    ∧ runs (.twinLinkEnable 0#24) (twin 2 [] fun w => { w with data := some (0, 1) }) (fun t => t.fld Reg.TW_STAT 22 2 == 0 && t.tw.data == none && t.fld Reg.TW_TXSTAT 0 8 == 8 && t.isPending 85) = true
    ∧ runs (.twinLinkEnable 0xC00000#24) (twin 0) (fun t => t.standby && t.bit Reg.SLOT_CTL 22) = true
    ∧ runs (.handoverStart 0xA80000#24) (twin 0) (fun t => t.tw.ho == .asked && t.bit Reg.TW_CTL 19) = true
    ∧ runs .commaReceived (twin 0) (fun t => t.fld Reg.TW_STAT 22 2 == 1) = true ∧ idles .commaReceived (twin 1) = true ∧ runs .commaTimeout (twin 1) (fun t => t.fld Reg.TW_STAT 22 2 == 0) = true
    ∧ runs (.linkUp 9000) (twin 1) (fun t => t.fld Reg.TW_STAT 22 2 == 2 && t.reg Reg.TW_LAT == 4095#24) = true ∧ runs (.latencyMeasure 41) (twin 2) (fun t => t.reg Reg.TW_LAT == 20#24) = true
    ∧ idles (.latencyMeasure 41) (twin 1) = true
    ∧ runs .blockSend (twin 2) (fun t => (t.tw.sent.map (·.typ)) == [1] && t.tw.txSeq == 1) = true
    ∧ runs .blockSend (twin 2 [] fun w => { w with hbSent := true, hand := some (5#24, 6#24), txSeq := 255 }) (fun t => t.tw.sent == [{ seq := 255, typ := 6, words := [5#24, 6#24] }] && t.tw.txSeq == 0) = true
    ∧ runs .blockSend (twin 2 [(Reg.TW_CTL, 0xF00000#24)] fun w => { w with hbSent := true, partner := true, pages := [0x8000, 0x8001] }) (fun t => (t.tw.sent.map (·.typ)) == [3] && t.tw.pages == [0x8001]) = true
    ∧ runs .blockSend (twin 2 [(Reg.TW_CTL, 0xF00000#24)] fun w => { w with hbSent := true, partner := true, state := some [7#24] }) (fun t => (t.tw.sent.map (·.words)) == [[7#24]]) = true
    ∧ runs .blockSend (twin 2 [] fun w => { w with hbSent := true, data := some (0x200000, 2) }) (fun t => (t.tw.sent.map (·.words)) == [[0#24, 0#24]]) = true
    ∧ idles .blockSend (twin 1) = true ∧ idles .blockSend (twin 2 [] fun w => { w with sent := List.replicate 4 (block0) }) = true := by decide +kernel

/-- R371 to R374: answers and re-sends; the third is the last. -/
theorem test_TwinLink_answers :
    let sent := fun (l : List TwBlock) => twin 2 [] fun w => { w with sent := l }
    runs (.blockAck 255#8) (sent [block0 1 0]) (fun t => t.tw.sent == []) = true ∧ runs (.blockAck 255#8) (sent [block0 5 0]) (fun t => t.tw.sent == [] && t.fld Reg.TW_TXSTAT 0 8 == 1 && t.isPending 85) = true
    ∧ runs (.blockAck 255#8) (sent [block0 4 0]) (fun t => t.tw.committed && ! t.tw.lagLast) = true ∧ runs (.blockNak 255#8 true) (sent [block0 4 0]) (fun t => t.tw.ringWait == some 255) = true
    ∧ runs (.blockNak 255#8 false) (sent [block0 4 3]) (fun t => t.fld Reg.TW_STAT 22 2 == 0 && t.bit Reg.TW_STAT 18 && t.isPending 86) = true
    ∧ runs (.blockNak 255#8 false) (sent [block0 4 2]) (fun t => t.tw.sent == [block0 4 3]) = true
    ∧ runs .blockAnswerTimeout (sent [block0 4 3]) (fun t => t.bit Reg.TW_STAT 18 && t.isPending 86) = true ∧ runs .blockAnswerTimeout (sent [block0 4 2]) (fun t => t.tw.sent == [block0 4 3]) = true
    ∧ runs .ringFullRetry (twin 2 [] fun w => { w with ringWait := some 255 }) (fun t => t.tw.ringWait == none) = true
    ∧ runs (.dataSend 0x800100#24) (twin 2 [(Reg.TW_TXADR, 0x200000#24)]) (fun t => t.tw.data == some (0x200000, 256) && t.fld Reg.TW_TXSTAT 0 8 == 3) = true
    ∧ (∀ i ∈ [Instr.dataSend 0x800000#24, .dataSend 0x800101#24], runs i (twin 2) (fun t => t.fld Reg.TW_TXSTAT 0 8 == 7) = true)
    ∧ runs (.dataSend 0x800001#24) (twin 1) (fun t => t.fld Reg.TW_TXSTAT 0 8 == 4) = true ∧ idles (.dataSend 1#24) (twin 2) = true
    ∧ idles (.dataSend 0x800001#24) (twin 2 [] fun w => { w with data := some (0, 1) }) = true := by decide +kernel

/-- R371, R374, R378, R381, R390. -/
theorem test_TwinReceives :
    let up := fun (l : List (Nat × Word)) (f : TwinState → TwinState) => twin 2 l f
    let sb := [(Reg.TW_CTL, 0xC00000#24)]
    let hb := fun (w : Word) => [w, 0#24, 9#24, 0#24, 0#24, 0#24, 0#24, 0#24]
    runs (.badBlockReceived 255#8) (up [] id) (fun t => t.tw.reply == some (255, some 0)) = true
    ∧ (∀ i ∈ [Instr.heartbeatReceived 255#8 (hb 0#24), .pageReceived 255#8 0x200000#24 (List.replicate 64 1#24), .stateReceived 255#8 [], .dataReceived 255#8 [], .handoverReceived 255#8 0#24 0#24],
        runs i (up [] fun w => { w with taken := [255] }) (fun t => t.tw.reply == some (255, none) && t.tw.taken == [255]) = true)
    ∧ runs (.heartbeatReceived 5#8 (hb 0x400000#24)) (up [] id) (fun t => t.tw.partner && ! t.tw.hbSeen && t.tw.taken == [5]) = true
    ∧ runs (.heartbeatReceived 5#8 (hb 0x800000#24)) (up (sb ++ [(Reg.TW_STAT, 0xA00003#24)]) id) (fun t => t.tw.hbSeen && t.fld Reg.TW_STAT 0 3 == 0 && ! t.bit Reg.TW_STAT 21 && t.slot.asnReq == some 9 && t.tw.err.isSome) = true
    ∧ runs (.pageReceived 5#8 0x27FFC0#24 (List.replicate 64 1#24)) (up sb id) (fun t => t.mem1 0x27FFC0 == 1#24 && t.mem1 0x27FFFF == 1#24 && t.tw.arriving) = true ∧ isSram (0x27FFC0 + 63) = true
    ∧ runs (.stateReceived 5#8 [0x010000#24]) (up sb id) (fun t => t.bit Reg.TW_STAT 20 && t.tw.lagLast && t.tw.snap == none) = true
    ∧ runs (.stateReceived 5#8 [0x00FFFF#24, 7#24]) (up sb id) (fun t => t.tw.snap == some (1, 0xFFFF, [7#24])) = true
    ∧ runs (.dataReceived 5#8 []) (up [(Reg.TW_RXWR, 7#24)] id) (fun t => t.tw.reply == some (5, some 1)) = true
    ∧ runs (.dataReceived 5#8 [7#24]) (up [(Reg.TW_RXBASE, 0x200000#24), (Reg.TW_RXWR, 7#24), (Reg.TW_RXRD, 7#24)] id)
        (fun t => t.isPending 84 && t.fld Reg.TW_RXWR 0 3 == 0 && t.mem1 0x20071C == 0x505001#24 && t.mem1 0x20071D == 7#24) = true
    ∧ (up (sb ++ [(Reg.TW_CTL, 0xC00000#24)]) fun w => { w with everState := true }).handRefusal = none ∧ (up [] id).handRefusal = some 1
    ∧ runs (.handoverReceived 5#8 0x400000#24 77#24) (up sb fun w => { w with everState := true }) (fun t => t.tw.hand == some (0x800000#24, 77#24) && t.tw.hoEdge == some 77#24) = true
    ∧ runs (.handoverReceived 5#8 0x400000#24 77#24) (up [] id) (fun t => t.tw.hand == some (0x010000#24, 77#24) && t.tw.hoEdge == none) = true
    ∧ runs (.handoverReceived 5#8 0xC00000#24 77#24) (up sb fun w => { w with hoEdge := some 77#24 }) (fun t => t.tw.hoConf) = true := by decide +kernel

/-- R378, R384, R385, R389. -/
theorem test_TwinRoles :
    let sb := fun (m : Word) (f : TwinState → TwinState) => twin 2 [(Reg.TW_CTL, 0xC00000#24), (Reg.TW_STAT, 0x800000#24 + m)] fun w => f { w with everState := true }
    let ho := fun (h : HandStage) (e : Word) => twin 2 [(Reg.TW_CTL, 0xA80000#24)] fun w => { w with ho := h, hoEdge := some e }
    (sb 0#24 id).standby = true ∧ (sb 2#24 id).canTake = true
    ∧ runs .heartbeatMiss (sb 7#24 id) (fun t => t.fld Reg.TW_STAT 0 3 == 7 && t.isPending 87 && t.tw.hbSeen) = true
    ∧ runs .heartbeatMiss (sb 2#24 id) (fun t => t.tw.claim && t.tw.decided && t.fld Reg.TW_STAT 0 3 == 3) = true
    ∧ runs .heartbeatMiss (sb 2#24 fun w => { w with air := true }) (fun t => ! t.tw.claim && t.bit Reg.TW_STAT 19) = true
    ∧ runs .heartbeatMiss (sb 1#24 id) (fun t => ! t.tw.claim && ! t.tw.decided) = true
    ∧ idles .heartbeatMiss (twin 2) = true ∧ idles .heartbeatMiss (sb 0#24 fun w => { w with hbSeen := true }) = true
    ∧ runs .twFltAssert { sb 0#24 id with tb := { State.reset.tb with phase := 980000 } } (fun t => t.tw.fltNext && ! t.tw.fltAfter && t.tw.claim && t.isPending 89) = true
    ∧ runs .twFltAssert { sb 0#24 id with tb := { State.reset.tb with phase := 980001 } } (fun t => ! t.tw.fltNext && t.tw.fltAfter) = true
    ∧ runs .twFltAssert (sb 0#24 fun w => { w with claim := true }) (fun t => t.isPending 89 && ! t.tw.fltNext) = true
    ∧ runs .handoverDeadline (ho .proposed 1#24) (fun t => ! t.bit Reg.TW_CTL 19 && t.bit Reg.TW_STAT 16 && t.tw.ho == .none) = true
    ∧ runs .handoverDeadline (ho .accepted 1#24) (fun t => ! t.bit Reg.TW_CTL 19 && ! t.bit Reg.TW_STAT 16 && t.tw.ho == .none) = true
    ∧ runs .handoverDeadline (ho .confirmed 1#24) (fun t => t.tw.ho == .confirmed) = true ∧ idles .handoverDeadline (ho .proposed 2#24) = true := by decide +kernel


/-! ## The real-time clock (R391 to R403) -/

/-- The RTC domain with its state and registers. -/
def clock (f : RtcState → RtcState := id) (l : List (Nat × Word) := []) : State := { part l with rtc := f State.reset.rtc }

/-- The last second of 2099, and its last subsecond less some. -/
def lateCal (sub : Nat) : Calendar := { sub := sub, sec := 59, min := 59, hour := 23, day := 31, mon := 12, year := 2098 }

/-- R391, R403: seconds and the trim. -/
theorem test_RealTimeClock :
    State.reset.sys.power ≠ .off ∧ (∀ k < 4, State.reset.alArmed k = false)
    ∧ runs .rtcSecond (clock fun r => { r with cal := lateCal 5 }) (fun t => t.rtc.cal == { year := 2099 } && t.isPending 107) = true
    ∧ (clock id [(Reg.RTC_TRIM, 1#24)]).rtcTrim = 1
    ∧ runs .rtcTrimCarry (clock (fun r => { r with acc := 0xFFFFFE#24, cal := { sub := 32764 } }) [(Reg.RTC_TRIM, 1#24)]) (fun t => t.rtc.cal.sub == 32767 && t.rtc.acc == 0#24) = true
    ∧ runs .rtcTrimCarry (clock (fun r => { r with acc := 0xFFFFFF#24, cal := { sub := 32766 } }) [(Reg.RTC_TRIM, 1#24)]) (fun t => t.rtc.cal.sub == 0 && t.rtc.cal.sec == 1) = true
    ∧ runs .rtcTrimCarry (clock (fun r => { r with acc := 1#24, cal := { sub := 32766 } }) [(Reg.RTC_TRIM, 0xFFFFFF#24)]) (fun t => t.rtc.cal.sub == 32767 && t.rtc.acc == 0xFFFFFF#24) = true
    ∧ idles .rtcTrimCarry (clock) = true := by decide +kernel

/-- R435: a read of the calendar through a locked debug port ends with a bus error. -/
theorem test_RealTimeClock_locked :
    let locked := { part [] with ash := { State.reset.ash with owner := some (0, 0) } }
    locked.reaches .dbg Reg.RTC_SUBSEC false = false ∧ locked.reaches .dbg Reg.RTC_YEAR false = false
    ∧ (∀ i ∈ [Instr.calendarFreeze .dbg, .calendarRelease .dbg], runs i locked (fun t => t.sys.busErr && ! t.isFrozen .dbg) = true) := by decide +kernel

/-- R393, R394, R399, R400. -/
theorem test_RealTimeClock_calendar :
    hasShadow .a1 = true ∧ runs (.calendarFreeze .a1) (clock fun r => { r with cal := lateCal 7 }) (fun t => t.sys.rdata == 7#24 && t.isFrozen .a1 && ! t.isFrozen .a0) = true
    ∧ (∀ a ∈ calRegs, runs (.calendarFreeze .a1) (clock fun r => { r with cal := lateCal 7 }) (fun t => t.latch .a1 a == t.calWord a) = true)
    ∧ runs (.calendarRelease .a0) (clock fun r => { r with cal := lateCal 7 }) (fun t => t.sys.rdata == 2098#24) = true
    ∧ (match exec (.calendarFreeze .a1) (clock) with
      | .next s => runs (.calendarRelease .a1) { s with rtc := { s.rtc with cal := lateCal 7 } } (fun t => t.sys.rdata == 2000#24 && ! t.isFrozen .a1)
          && runs (.shadowStale .a1) s (fun t => ! t.isFrozen .a1 && t.bit Reg.RTC_STAT 20 && t.isPending 106)
      | _ => false) = true
    ∧ idles (.shadowStale .a1) (clock) = true
    ∧ runs (.calendarSetRequest 0x807FFF#24) (clock id [(Reg.RTC_SETT0, 0x3F7EFB#24), (Reg.RTC_SETT1, 0x95FC#24)]) (fun t => t.rtc.set == some { lateCal 32767 with year := 2399 } && t.bit Reg.RTC_SETCTL 23) = true
    ∧ runs (.calendarSetRequest 0x800000#24) (clock id [(Reg.RTC_SETT0, 0x3F7EFB#24), (Reg.RTC_SETT1, 0x960C#24)]) (fun t => t.rtc.set == none && t.bit Reg.RTC_STAT 18 && ! t.bit Reg.RTC_SETCTL 23) = true
    ∧ runs .calendarSet (clock (fun r => { r with set := some (lateCal 9) }) [(Reg.RTC_SETCTL, 0x800000#24)]) (fun t => t.rtc.cal == lateCal 9 && t.rtc.set == none && ! t.bit Reg.RTC_SETCTL 23) = true
    ∧ idles .calendarSet (clock) = true
    ∧ runs (.lossClear 0xC00000#24) (clock id [(Reg.RTC_STAT, 0xE00000#24)]) (fun t => t.fld Reg.RTC_STAT 21 3 == 0) = true
    ∧ runs (.switchOverStampClear 0x800000#24) (clock id [(Reg.RTC_SWTS0, 1#24), (Reg.RTC_SWTS1, 2#24)]) (fun t => t.reg Reg.RTC_SWTS0 == 0#24 && t.reg Reg.RTC_SWTS1 == 0#24) = true
    ∧ idles (.switchOverStampClear 0#24) (clock id [(Reg.RTC_SWTS0, 1#24)]) = true := by decide +kernel

/-- Alarm 3 at one second past the start of 2000, with its control word, and a calendar. -/
def alarm (ctl : Word) (cal : Calendar) (l : List (Nat × Word) := []) : State :=
  clock (fun r => { r with cal := cal }) ([(Reg.RTC_ALCTL 3, ctl), (Reg.RTC_ALT0 3, 0x020001#24), (Reg.RTC_ALT1 3, 0x7D01#24), (Reg.RTC_ALP 3, 60#24)] ++ l)

/-- R395 to R398: an alarm one second ahead, one second past, at its second, and with an invalid time. -/
theorem test_RealTimeClock_alarms :
    runs (.alarmEnable 3 0xE00000#24) (alarm 0#24 {}) (fun t => t.fld (Reg.RTC_ALCTL 3) 21 3 == 7) = true
    ∧ runs (.alarmEnable 3 0x800000#24) (alarm 0#24 {} [(Reg.RTC_ALT0 3, 0x02003C#24)]) (fun t => t.bit Reg.RTC_STAT 18 && ! t.bit (Reg.RTC_ALCTL 3) 23) = true
    ∧ runs (.alarmEnable 3 0#24) (alarm 0x800000#24 {} [(Reg.RTC_ALN1 3, 0x800000#24)]) (fun t => ! t.alArmed 3 && ! t.bit (Reg.RTC_ALCTL 3) 23) = true
    ∧ runs (.alarmArm 3) (alarm 0x800000#24 {}) (fun t => t.reg (Reg.RTC_ALN0 3) == 0x020001#24 && t.reg (Reg.RTC_ALN1 3) == 0x807D01#24) = true
    ∧ runs (.alarmArm 3) (alarm 0x800000#24 { sec := 2 }) (fun t => t.bit Reg.RTC_ALSTAT 3 && t.bit Reg.RTC_ALSTAT 7 && t.isPending 105 && ! t.bit (Reg.RTC_ALCTL 3) 23) = true
    ∧ idles (.alarmArm 3) (alarm 0#24 {}) = true
    ∧ runs (.alarmFire 3) (alarm 0x800000#24 { sub := 5 } [(Reg.RTC_ALN0 3, 0x020001#24), (Reg.RTC_ALN1 3, 0x807D01#24)]) (fun t => t.rtc.cal == { sec := 1 } && t.bit Reg.RTC_ALSTAT 3 && t.isPending 105 && ! t.alArmed 3) = true
    ∧ runs (.alarmFire 3) (alarm 0xC00000#24 {} [(Reg.RTC_ALN0 3, 0x020001#24), (Reg.RTC_ALN1 3, 0x807D01#24)]) (fun t => t.alArmed 3 && t.reg (Reg.RTC_ALN0 3) == 0x020041#24) = true := by decide +kernel

/-! ## DALI (R405 to R413) -/

/-- The DALI interface on, with its transmission and receive FIFO. -/
def dali (x : Option DaliTx) (l : List (Nat × Word) := []) (fifo : List DaliRx := []) : State := { part ([(Reg.DALI_CTL, 0x800000#24)] ++ l) with dali := { tx := x, fifo := fifo } }

/-- A transmission of 16 bits. -/
def dtx (st : DaliStage) : DaliTx := { frame := 0xFE05#24, len24 := false, pri := 5, twice := false, ans := false, started := st != .settle, settle := 0, stage := st }

/-- The transmission has ended with a status. -/
def daliEnded (st : Nat) (t : State) : Bool := t.dali.tx == none && t.fld Reg.DALI_TXSTAT 0 8 == st && t.isPending 91

/-- R408 to R411: the checks in their order, priorities 0 and 6, and the ends. -/
theorem test_DaliBus :
    (∀ v ∈ ([0x800000, 0x8C0000] : List Nat), runs (.daliTransmit (BitVec.ofNat 24 v) false) (dali none) (fun t => t.fld Reg.DALI_TXSTAT 0 8 == 7 && t.isPending 91) = true)
    ∧ runs (.daliTransmit 0x8A0000#24 false) (dali (some (dtx .settle))) (fun t => t.fld Reg.DALI_TXSTAT 0 8 == 3) = true
    ∧ runs (.daliTransmit 0x820000#24 false) (dali none [(Reg.DALI_CTL, 0x900000#24)]) (fun t => t.fld Reg.DALI_TXSTAT 0 8 == 4) = true
    ∧ runs (.daliTransmit 0x820000#24 true) (dali none) (fun t => t.fld Reg.DALI_TXSTAT 0 8 == 0x44) = true
    ∧ runs (.daliTransmit 0x820000#24 false) (dali none) (fun t => t.dali.tx.isSome && t.bit Reg.DALI_TXSTAT 23) = true
    ∧ (∀ i ∈ [Instr.daliAbort 0#24, .settlingDone, .twiceTimeout, .collision, .collisionBackoffEnd, .daliFrameSent, .answerWindowClose none], idles i (dali none) = true)
    ∧ runs (.daliAbort 0x400000#24) (dali (some (dtx .settle))) (daliEnded 2) = true ∧ idles (.daliAbort 0x400000#24) (dali (some (dtx .sending))) = true
    ∧ runs .settlingDone (dali (some (dtx .settle))) (fun t => t.dali.tx == some (dtx .sending)) = true
    ∧ runs .twiceTimeout (dali (some { dtx .settle with second := true })) (daliEnded 0x43) = true
    ∧ runs .collision (dali (some (dtx .sending))) (fun t => t.dali.tx == some { dtx .collided with colls := 1 }) = true
    ∧ runs .daliFrameSent (dali (some { dtx .sending with twice := true })) (fun t => (t.dali.tx.map (·.second)) == some true && t.bit Reg.DALI_STAT 23) = true
    ∧ runs .daliFrameSent (dali (some { dtx .sending with ans := true })) (fun t => (t.dali.tx.map (·.stage)) == some .answer) = true
    ∧ runs .daliFrameSent (dali (some (dtx .sending))) (daliEnded 1) = true
    ∧ runs .collisionBackoffEnd (dali (some { dtx .collided with colls := 3 }) [(Reg.DALI_CFG, 3#24)]) (fun t => (t.dali.tx.map (·.stage)) == some .settle) = true
    ∧ runs .collisionBackoffEnd (dali (some { dtx .collided with colls := 3 }) [(Reg.DALI_CFG, 2#24)]) (daliEnded 0x42) = true := by decide +kernel

/-- The ticks between the edges of a frame, from how many half-bits each level lasts; a half-bit is 416.67 µs. -/
def halves (l : List Nat) : List Nat := l.map (· * 83333)

/-- A frame of n bits of 0. -/
def zeros (n : Nat) : List Nat := halves ([1, 2] ++ List.replicate (2 * n - 1) 1)

/-- R406, R407: the code of 0x5A, its limits, and a half-bit that lies outside them. -/
theorem test_DaliCode :
    daliDecode (halves [1, 2, 2, 2, 2, 1, 1, 2, 2, 2, 1]) = { len := 8, err := false, data := 0x5A#24 } ∧ daliDecode (zeros 16) = { len := 16, err := false, data := 0#24 }
    ∧ (daliDecode [66660, 200000, 100000]).err = false ∧ (daliDecode [66659, 166667, 83333]).err = true ∧ (daliDecode [83333, 200001, 83333]).err = true
    ∧ daliCode 0x8000#24 false = [false, true, false, true] ++ (List.range 15).flatMap (fun _ => [true, false]) := by decide +kernel

/-- R411 to R413: answers, received frames, a bus that stays low, and hold. -/
theorem test_DaliBus_receives :
    let rx : DaliRx := { len := 16, err := false, data := 7#24 }
    runs (.answerWindowClose none) (dali (some (dtx .answer))) (daliEnded 0x40) = true
    ∧ runs (.answerWindowClose (some (halves [1, 2, 2, 2, 2, 1, 1, 2, 2, 2, 1]))) (dali (some (dtx .answer))) (fun t => daliEnded 1 t && t.fld Reg.DALI_TXSTAT 8 8 == 0x5A) = true
    ∧ runs (.daliFrameReceived (halves [1, 2, 1, 1, 2, 2, 2, 1, 1, 2, 2, 2, 1])) (dali (some (dtx .answer))) (fun t => daliEnded 0x41 t && t.fld Reg.DALI_TXSTAT 8 8 == 0) = true
    ∧ idles (.daliFrameReceived (zeros 16)) (dali none [(Reg.DALI_CTL, 0#24)]) = true ∧ runs (.daliFrameReceived (zeros 8)) (dali none) (fun t => t.dali.fifo == []) = true
    ∧ runs (.daliFrameReceived (zeros 16)) (dali none [] (List.replicate 4 rx)) (fun t => t.dali.fifo.length == 4 && t.bit Reg.DALI_STAT 21 && t.isPending 92) = true
    ∧ runs (.daliFrameReceived (halves ([1, 2] ++ List.replicate 42 1 ++ [2, 1, 1, 1, 1]))) (dali none [] (List.replicate 3 rx)) (fun t => t.dali.fifo == List.replicate 3 rx ++ [{ len := 25, err := true, data := 7#24 }] && t.fld Reg.DALI_STAT 0 3 == 4 && t.isPending 90) = true
    ∧ runs (.daliFrameReceived (zeros 8)) (dali (some (dtx .settle))) (fun t => (t.dali.tx.map (·.stage)) == some .settle && t.dali.fifo == []) = true
    ∧ runs (.daliRxRead .a0) (dali none [(Reg.DALI_RXD, 9#24)] [rx, { rx with err := true }]) (fun t => t.sys.rdata == 9#24 && t.reg Reg.DALI_RXD == 7#24 && t.bit Reg.DALI_RXSTAT 23 && t.bit Reg.DALI_RXSTAT 17) = true
    ∧ runs (.daliRxRead .a0) (dali none [] [rx]) (fun t => t.dali.fifo == [] && t.reg Reg.DALI_RXSTAT == 0#24) = true
    ∧ runs .busLowFault (dali none) (fun t => t.bit Reg.DALI_STAT 22 && t.isPending 92) = true ∧ idles .busLowFault (dali none [(Reg.DALI_CTL, 0x900000#24)]) = true
    ∧ runs (.daliHold 0x900000#24) (dali none) (fun t => t.bit Reg.DALI_CTL 20 && t.dali.tx == none) = true ∧ runs (.daliHold 0x900000#24) (dali (some (dtx .sending))) (fun t => t.dali.tx == some (dtx .sending)) = true
    ∧ runs (.daliHold 0x900000#24) (dali (some (dtx .settle))) (fun t => daliEnded 4 t && t.bit Reg.DALI_CTL 20) = true
    ∧ runs (.daliHold 0x800000#24) (dali none [(Reg.DALI_CTL, 0x900000#24)]) (fun t => ! t.bit Reg.DALI_CTL 20) = true := by decide +kernel

/-! ## GPIO, the dimming outputs, the ADC, SPI and I2C (R414 to R420, R427 to R430) -/

/-- R414, R417 to R420, R429, R430. -/
theorem test_PadsAndConverter :
    runs (.gpioSet 0x800000#24) (part [(Reg.GPIO_OUT, 1#24)]) (fun t => t.reg Reg.GPIO_OUT == 0x800001#24) = true ∧ runs (.gpioClr 0x800000#24) (part [(Reg.GPIO_OUT, 0x800001#24)]) (fun t => t.reg Reg.GPIO_OUT == 1#24) = true
    ∧ runs (.gpioEdge 23 true) (part [(Reg.GPIO_CFG 23, 0x080000#24)]) (fun t => t.gpio.ext == 0x800000#24 && t.bit Reg.GPIO_EVT 23 && t.isPending 123) = true
    ∧ runs (.gpioEdge 0 true) (part [(Reg.GPIO_CFG 0, 0x100000#24)]) (fun t => t.gpio.ext == 1#24 && ! t.bit Reg.GPIO_EVT 0) = true
    ∧ runs (.gpioEdge 0 false) (part [(Reg.GPIO_CFG 0, 0x100000#24)]) (fun t => ! t.bit Reg.GPIO_EVT 0) = true
    ∧ runs (.pwmPeriodStart 1) { ticking [(Reg.GPIO_PWMCTL 1, 0x800001#24), (Reg.GPIO_PWMPER 1, 0xFFFF#24), (Reg.GPIO_PWMDUTY 1, 5#24)] with gpio := { State.reset.gpio with pwm := [{}, { per := 1, start := 10 }] } }
        (fun t => t.tb.count == 14#72 && t.pwm 1 == { per := 0xFFFF, duty := 5, start := 14 }) = true
    ∧ (List.range 16).all (fun i => State.reset.adcChannel i < 12) = true
    ∧ runs (.adcSequenceStart 0xC00F00#24) State.reset (fun t => t.adc.seq == some 0 && t.adcLen == 16 && t.bit Reg.ADC_STAT 23) = true
    ∧ runs (.adcCalibrate 0xA00000#24) State.reset (fun t => t.adc.cal && t.bit Reg.ADC_CTL 21) = true
    ∧ (∀ i ∈ [Instr.adcSequenceStart 0xC00000#24, .adcCalibrate 0xA00000#24], runs i { State.reset with adc := { seq := some 0 } } (fun t => t.bit Reg.ADC_STAT 1 && t.adc.seq == some 0) = true)
    ∧ runs (.adcConversionDone 0xFFF#12) { part [(Reg.ADC_CAL, 0x800000#24), (Reg.ADC_CTL, 0x800F00#24), (Reg.ADC_THR, 0xF00FFE#24)] with adc := { seq := some 15 } }
        (fun t => t.reg (Reg.ADC_RES 15) == 0xFFF#24 && t.bit Reg.ADC_STAT 2 && t.isPending 100 && t.isPending 99 && t.adc.seq == none) = true
    ∧ runs (.adcConversionDone 5#12) { part [(Reg.ADC_CAL, 0x8007FF#24), (Reg.ADC_CTL, 0x800F00#24)] with adc := { seq := some 14 } } (fun t => t.reg (Reg.ADC_RES 14) == 0#24 && t.adc.seq == some 15) = true
    ∧ runs (.adcCalibrationDone 64#18 131104#18) { part [(Reg.ADC_CTL, 0x200000#24)] with adc := { cal := true } } (fun t => t.reg Reg.ADC_CAL == 0x800001#24 && ! t.adc.cal && ! t.bit Reg.ADC_CTL 21) = true := by decide +kernel

/-- R2, R427, R428: the unused positions of the last word of what has been received. -/
theorem test_SerialMasters_octets :
    runs (.spimTransferDone [1#8]) { part [(Reg.SPIM_CTL, 0x800000#24), (Reg.SPIM_BUF 0, 0xFFFFFF#24)] with spim := { open_ := some (1, false) } } (fun t => t.reg (Reg.SPIM_BUF 0) == 0x010000#24) = true
    ∧ runs (.i2cTransferDone 0 [2#8, 3#8]) { part [(Reg.I2C_BUF 0, 0xFFFFFF#24)] with i2c := { open_ := some (1, 0, 2) } } (fun t => t.reg (Reg.I2C_BUF 0) == 0x020300#24) = true := by decide +kernel

/-- R427, R428: lengths at and beyond their limits. -/
theorem test_SerialMasters :
    let spi := fun (o : Option (Nat × Bool)) => { part [(Reg.SPIM_CTL, 0x800000#24)] with spim := { open_ := o } }
    let i2c := fun (o : Option (Nat × Nat × Nat)) => { State.reset with i2c := { open_ := o } }
    let spiEnds := fun (k : Nat) (t : State) => t.fld Reg.SPIM_STAT 0 8 == k && t.isPending 96
    let i2cEnds := fun (k : Nat) (t : State) => t.fld Reg.I2C_STAT 0 8 == k && t.isPending (if k == 1 then 97 else 98)
    runs (.spimTransfer 0x800001#24) (spi (some (1, false))) (spiEnds 3) = true ∧ runs (.spimTransfer 0x800000#24) (spi none) (spiEnds 7) = true ∧ runs (.spimTransfer 0x8000C1#24) (spi none) (spiEnds 7) = true
    ∧ runs (.spimTransfer 0xC000C0#24) (spi none) (fun t => t.spim.open_ == some (192, true) && t.fld Reg.SPIM_STAT 22 2 == 3) = true
    ∧ runs (.spimTransferDone [1#8, 2#8, 3#8, 4#8]) (spi (some (4, true))) (fun t => spiEnds 1 t && t.reg (Reg.SPIM_BUF 0) == 0x010203#24 && octetOf (t.reg (Reg.SPIM_BUF 1)) 0 == 4 && t.bit Reg.SPIM_STAT 22) = true
    ∧ idles (.spimTransferDone []) (spi none) = true
    ∧ runs (.i2cTransfer 0x808400#24) (i2c none) (i2cEnds 7) = true ∧ runs (.i2cTransfer 0x800210#24) (i2c none) (i2cEnds 7) = true ∧ runs (.i2cTransfer 0x800010#24) (i2c (some (1, 1, 1))) (i2cEnds 3) = true
    ∧ runs (.i2cTransfer 0xFF8200#24) (i2c none) (fun t => t.i2c.open_ == some (127, 32, 32) && t.bit Reg.I2C_STAT 23) = true
    ∧ (∀ p ∈ [(0, 1), (1, 0x40), (2, 0x41), (3, 0x42)], runs (.i2cTransferDone p.1 [0x12#8]) (i2c (some (1, 0, 1))) (fun t => i2cEnds p.2 t && octetOf (t.reg (Reg.I2C_BUF 0)) 0 == 0x12) = true)
    ∧ runs (.i2cTimeout true) (i2c (some (1, 0, 1))) (i2cEnds 0x43) = true ∧ runs (.i2cTimeout false) (i2c (some (1, 0, 1))) (i2cEnds 0x44) = true
    ∧ (∀ i ∈ [Instr.i2cTimeout true, .i2cTimeout false, .i2cTransferDone 0 []], idles i (i2c none) = true) := by decide +kernel

/-! ## The host link (R421 to R426) -/

/-- The host link on, with its state. -/
def host (f : HlState → HlState := id) (l : List (Nat × Word) := []) : State := { part ([(Reg.HL_CTL, 0x800000#24), (Reg.HL_RXBASE, 0x200000#24)] ++ l) with hl := f State.reset.hl }

/-- A frame of the part. -/
def hlf (resends : Nat) : HlFrame := { typ := 2, seq := 9, words := [7#24], resends := resends }

/-- R421, R422: a frame with no payload, its octets, and the bits of one of them. -/
theorem test_HostLinkWords :
    hlFrameWords 3 9 [] = [0x309000#24, BitVec.ofNat 24 (crc24 [0x309000#24])] ∧ (hlOctets 3 9 []).take 5 = [0xB9, 0x74, 0x30, 0x90, 0x00]
    ∧ uartBits 0xB9 = [false, true, false, false, true, true, true, false, true, true] := by decide +kernel

/-- R422 to R426. -/
theorem test_HostLink :
    let got (typ seq : Nat) (ws : List Word) : Instr := .hlFrameReceived (hlFrameWords typ seq ws)
    (host).hlOn = true ∧ runs (got 0 9 []) (host) (fun t => t.bit Reg.HL_STAT 1) = true ∧ runs (got 4 9 []) (host) (fun t => t.bit Reg.HL_STAT 1) = true
    ∧ runs (got 1 9 (List.replicate 257 0#24)) (host) (fun t => t.bit Reg.HL_STAT 1) = true ∧ idles (.hlFrameReceived [0x309001#24, 0#24]) (host) = true
    ∧ runs (.hlFrameReceived [0x309000#24, 0#24]) (host) (fun t => t.hl.reply == some (9, some 0)) = true
    ∧ idles (.hlFrameReceived [0x809000#24, 0#24]) (host fun h => { h with tx := some (hlf 0) }) = true
    ∧ runs (got 8 9 []) (host fun h => { h with tx := some (hlf 0) }) (fun t => t.fld Reg.HL_TXSTAT 0 8 == 1 && t.hl.tx == none) = true
    ∧ runs (got 9 9 [1#24]) (host fun h => { h with tx := some (hlf 0) }) (fun t => t.hl.tx == some { hlf 0 with full := true }) = true
    ∧ runs (got 3 9 []) (host fun h => { h with last := some 9 }) (fun t => t.hl.reply == some (9, none) && ! t.isPending 93) = true
    ∧ runs (got 3 9 []) (host id [(Reg.HL_RXWR, 7#24)]) (fun t => t.hl.reply == some (9, some 1)) = true
    ∧ runs (got 3 255 [5#24, 6#24]) (host id [(Reg.HL_RXWR, 7#24), (Reg.HL_RXRD, 7#24)])
        (fun t => t.isPending 93 && t.fld Reg.HL_RXWR 0 3 == 0 && t.mem1 0x20071C == 0x3FF002#24 && t.mem1 0x20071D == 5#24 && t.mem1 0x20071E == 6#24 && t.hl.last == some 255) = true
    ∧ idles (got 3 9 []) State.reset = true ∧ runs .hlFrameStart (host) (fun t => t.hl.inFrame) = true
    ∧ runs .hlGapTimeout (host) (fun t => t.bit Reg.HL_STAT 1) = true ∧ runs (.hlCsnRise true) (host id [(Reg.HL_CTL, 0xC00000#24)]) (fun t => t.bit Reg.HL_STAT 1) = true
    ∧ runs (.hlAckReceived 9#8) (host fun h => { h with tx := some (hlf 0) }) (fun t => t.fld Reg.HL_TXSTAT 0 8 == 1 && t.isPending 94 && t.hl.tx == none && t.hl.rsp == [7#24]) = true
    ∧ runs (.hlAckReceived 9#8) (host fun h => { h with tx := some (hlf 0), wait := [[8#24]] }) (fun t => (t.hl.tx.map (·.words)) == some [8#24] && t.hl.wait == []) = true
    ∧ idles (.hlAckReceived 8#8) (host fun h => { h with tx := some (hlf 0) }) = true
    ∧ runs .hlAckTimeout (host fun h => { h with tx := some { hlf 2 with full := true } }) (fun t => t.hl.tx == some (hlf 2) && t.reg Reg.HL_CNTRS == 0#24) = true
    ∧ (∀ i ∈ [Instr.hlAckTimeout, .hlNakReceived 9#8 0], runs i (host fun h => { h with tx := some (hlf 2) }) (fun t => t.hl.tx == some (hlf 3) && t.reg Reg.HL_CNTRS == 1#24) = true
        ∧ runs i (host fun h => { h with tx := some (hlf 3) }) (fun t => t.hl.tx == none && t.fld Reg.HL_TXSTAT 0 8 == 8 && t.bit Reg.HL_STAT 0 && t.isPending 95) = true)
    ∧ runs .hlFrameStart { host id [(Reg.SYS_GATEDS, 0x40#24)] with sys := { State.reset.sys with power := .deepSleep } } (fun t => t.isPending 93) = true := by decide +kernel

/-- R424: the checks of the part's own frame in their order. -/
theorem test_HostLink_sends :
    idles (.hlTransmit 0x020000#24) (host) = true ∧ runs (.hlTransmit 0x820000#24) (host fun h => { h with tx := some (hlf 0) }) (fun t => t.fld Reg.HL_TXSTAT 0 8 == 3 && t.isPending 94) = true
    ∧ runs (.hlTransmit 0x820000#24) State.reset (fun t => t.fld Reg.HL_TXSTAT 0 8 == 4) = true
    ∧ ([0x800000, 0x840000, 0x820101] : List Nat).all (fun v => runs (.hlTransmit (BitVec.ofNat 24 v)) (host) (fun t => t.fld Reg.HL_TXSTAT 0 8 == 7)) = true
    ∧ runs (.hlTransmit 0x830100#24) (host (fun h => { h with seq := 255 }) [(Reg.HL_TXADR, 0x27FF00#24)]) (fun t => (t.hl.tx.map (·.seq)) == some 255 && (t.hl.tx.map (·.words.length)) == some 256
        && t.hl.seq == 0 && t.bit Reg.HL_TXSTAT 23) = true := by decide +kernel


/-! ## The debug port (R432 to R438) -/

/-- An attached probe, with registers. -/
def probe (l : List (Nat × Word) := []) (f : DbgState → DbgState := id) : State := { part l with dbg := f { State.reset.dbg with att := true } }

/-- The same with an owner registered, so that the port is locked. -/
def lockedProbe : State := { probe with ash := { State.reset.ash with owner := some (0, 0) } }

/-- A0 as it stands while the probe halts it, with registers. -/
def haltedA0 (l : List (Nat × Word)) : State := { probe l with a0 := { State.reset.a0 with dbgHalt := true, acc := [0x123456789ABCDE#56, 0#56, 0#56, 0#56] } }

/-- R432, R434: attach, and what an absent and a locked port answer. -/
theorem test_DebugPort :
    State.reset.sys.power ≠ .off ∧ State.reset.asleep = false ∧ State.reset.dbg.att = false
    ∧ runs .debugAttach (part []) (fun t => t.dbg.att && t.isPending 111) = true
    ∧ (∀ i ∈ [Instr.debugDetach, .debugHalt 2#3, .debugRun 2#3, .debugStep 2#3, .debugReset, .debugBusRead, .debugBusWrite 1#24, .coreRegisterAccess true 1#24, .coreRegisterAccess false 1#24],
        runs i (part []) (fun t => t.dbg.resp == none && decide (t.regs = (part []).regs)) = true)
    ∧ lockedProbe.debugLocked = true ∧ lockedProbe.dbg.busy = none ∧ probe.debugLocked = false ∧ probe.dbg.busy = none
    ∧ (∀ i ∈ [Instr.debugDetach, .debugHalt 2#3, .debugRun 2#3, .debugStep 2#3, .debugReset, .debugBusRead, .debugBusWrite 1#24, .coreRegisterAccess true 1#24, .coreRegisterAccess false 1#24],
        runs i lockedProbe (fun t => t.dbg.resp == some 0 && t.intc.ashPend.getLsbD 11) = true)
    ∧ runs .debugDetach (probe [] fun d => { d with read := some 1#24 }) (fun t => ! t.dbg.att && t.dbg.read == none && t.dbg.resp == some 1) = true
    ∧ probe.sys.inReset = none ∧ runs .debugReset probe (fun t => t.sys.inReset == some .system && t.bit Reg.SYS_RSTCAUSE 7 && t.dbg.att) = true := by decide +kernel

/-- R433, R434: headers, written out bit by bit: start 01, the direction, the index, the parity and stop 11. -/
theorem test_DebugPort_headers :
    idles (.debugTransaction 0b001000000111#12 5#24 true) probe = true ∧ idles (.debugTransaction 0b011000000110#12 5#24 true) probe = true
    ∧ runs (.debugTransaction 0b011000000011#12 5#24 true) probe (fun t => t.dbg.resp == none && t.bit Reg.DBG_STAT 19) = true
    ∧ runs (.debugTransaction 0b011000000111#12 5#24 true) probe (fun t => t.dbg.resp == some 1 && t.dbg.data == 0x974001#24) = true
    ∧ ([0b011000011111#12, 0b011001100111#12, 0b011111111111#12].all fun h => runs (.debugTransaction h 5#24 true) probe (fun t => t.dbg.resp == some 0 && t.dbg.data == 0#24)) = true
    ∧ runs (.debugTransaction 0b011000101111#12 5#24 true) (probe [(Reg.DBG_STAT, 0x100000#24)]) (fun t => t.dbg.resp == some 0) = true
    ∧ runs (.debugTransaction 0b010001000111#12 5#24 false) probe (fun t => t.dbg.resp == some 1 && t.bit Reg.DBG_STAT 19 && t.fld Reg.DBG_CSEL 0 2 == 0) = true
    ∧ runs (.debugTransaction 0b010000100111#12 0xF01005#24 true) probe (fun t => t.dbg.resp == some 1 && t.reg Reg.DBG_ADDR == 0xF01005#24) = true
    ∧ runs (.debugTransaction 0b010001000111#12 0xFFFFFF#24 true) probe (fun t => t.reg Reg.DBG_CSEL == 0x003F03#24) = true := by decide +kernel

/-- R436: halting, resuming and stepping A0. -/
theorem test_DebugPort_halting :
    let inSlot := { probe with a0 := { State.reset.a0 with branch := some { left := 1, target := 0x200000#24, src := 0x200100#24, reti := none } } }
    probe.dbg.haltReq = 0#3 ∧ probe.dbg.step = 0#3 ∧ CoreId.a0.cid = 1 ∧ probe.a0.branch = none ∧ probe.a0.rptPc = none ∧ probe.a0.inflight = []
    ∧ runs (.debugHalt 2#3) probe (fun t => t.a0.dbgHalt && ! t.a1.dbgHalt && ! t.lk.dbgHalt && t.isPending 111) = true
    ∧ runs (.debugHalt 2#3) inSlot (fun t => ! t.a0.dbgHalt && t.dbg.haltReq == 2#3) = true
    ∧ runs (.debugRun 2#3) (haltedA0 []) (fun t => ! t.a0.dbgHalt) = true ∧ runs (.debugRun 5#3) (haltedA0 []) (fun t => t.a0.dbgHalt) = true
    ∧ runs (.debugStep 2#3) (haltedA0 []) (fun t => ! t.a0.dbgHalt && t.dbg.step == 2#3) = true ∧ runs (.debugStep 7#3) probe (fun t => t.dbg.step == 0#3) = true := by decide +kernel

/-- R435: a read that is fetched, waits for a clock, completes and fails; a write that waits, completes and fails. -/
theorem test_DebugPort_bus :
    let at' := fun (a : Word) (inc : Bool) => probe [(Reg.DBG_ADDR, a), (Reg.DBG_CTL, if inc then 0x200000#24 else 0#24)]
    let held := { at' 0x200000#24 true with sys := { State.reset.sys with power := .deepSleep } }
    ([0x200000#24, 0x27FFFF#24].all fun a => ! (at' a true).dbgWaits && isSram a.toNat) = true ∧ held.dbgWaits = true ∧ held.bit Reg.DBG_STAT 20 = false
    ∧ canRead .dbg 0x300000 = false ∧ canWrite .dbg 0x300000 = false
    ∧ runs .debugBusRead (probe [] fun d => { d with read := some 7#24 }) (fun t => t.dbg.data == 7#24 && t.dbg.resp == some 1 && t.dbg.read == none) = true
    ∧ runs .debugBusRead held (fun t => t.dbg.busy == some none && t.dbg.resp == some 2) = true ∧ runs (.debugBusWrite 9#24) held (fun t => t.dbg.busy == some (some 9#24) && t.dbg.resp == some 1) = true
    ∧ runs .debugBusRead ((at' 0x200000#24 true).setMem 0x200000 0x123#24) (fun t => t.dbg.read == some 0x123#24 && t.dbg.resp == some 2 && t.reg Reg.DBG_DATA == 0x123#24 && t.reg Reg.DBG_ADDR == 0x200001#24) = true
    ∧ runs (.debugBusWrite 9#24) (at' 0x27FFFF#24 false) (fun t => t.mem1 0x27FFFF == 9#24 && t.reg Reg.DBG_ADDR == 0x27FFFF#24) = true
    ∧ (∀ i ∈ [Instr.debugBusRead, .debugBusWrite 9#24], runs i (at' 0x300000#24 true) (fun t => t.bit Reg.DBG_STAT 20 && t.reg Reg.DBG_ADDR == 0x300001#24) = true) := by decide +kernel

/-- R437: the registers of a halted core, by index. -/
theorem test_DebugPort_registers :
    let sel := fun (i : Nat) => haltedA0 [(Reg.DBG_CSEL, BitVec.ofNat 24 (i * 256 + 1))]
    let reads := fun (i : Nat) (w : Word) => runs (.coreRegisterAccess true 0#24) (sel i) fun t => t.dbg.data == w && t.dbg.resp == some 1
    let writes := fun (i : Nat) (v : Word) (p : CoreState → Bool) => runs (.coreRegisterAccess false v) (sel i) fun t => p t.a0
    (sel 0).csel = some .a0 ∧ (sel 0).a0.dbgHalt = true ∧ (probe [(Reg.DBG_CSEL, 3#24)]).csel = none
    ∧ (∀ i ∈ [0x1E, 0x1F, 0x2C, 0x3F], runs (.coreRegisterAccess true 0#24) (sel i) (fun t => t.dbg.resp == some 0) = true)
    ∧ runs (.coreRegisterAccess false 1#24) (probe [(Reg.DBG_CSEL, 1#24)]) (fun t => t.dbg.resp == some 0) = true
    ∧ runs (.coreRegisterAccess true 1#24) (probe [(Reg.DBG_CSEL, 3#24)]) (fun t => t.dbg.resp == some 0) = true
    ∧ reads 0 0#24 = true ∧ reads 0x10 0xE00000#24 = true ∧ reads 0x12 0#24 = true ∧ reads 0x1C 1#24 = true ∧ reads 0x20 0x9ABCDE#24 = true ∧ reads 0x21 0x345678#24 = true ∧ reads 0x22 0x12#24 = true ∧ reads 0x2B 0#24 = true
    ∧ writes 0 5#24 (fun k => k.g.getD 0 0#24 == 0#24) = true ∧ writes 1 5#24 (fun k => k.g.getD 1 0#24 == 5#24) = true ∧ writes 15 6#24 (fun k => k.g.getD 15 0#24 == 6#24) = true
    ∧ writes 0x10 0x200100#24 (fun k => k.pc == 0x200100#24) = true ∧ writes 0x12 0xFFFFFF#24 (fun k => k.lc == 0x7FF#24) = true ∧ writes 0x15 8#24 (fun k => k.epc == 8#24) = true
    ∧ writes 0x1C 9#24 (fun k => decide (k = (sel 0).a0)) = true ∧ writes 0x1D 9#24 (fun k => decide (k = (sel 0).a0)) = true := by decide +kernel

/-! ## The Core Sample log (R439 to R445) and reads of flash (R302, R304, R312) -/

/-- A request that waits. -/
def request (code : Nat) : LogRequest := { code := code, origin := 2, d1 := 0x111111#24, d2 := 0x222222#24, cont := [], asn := 0x1000002, time := 0x3000004, tq := true }

/-- The log after its search, with its newest entry and what waits. -/
def logAt (index lap lost : Nat) (q : List LogRequest) : State :=
  { part [(Reg.CS_STAT, 0#24)] with cs := { State.reset.cs with index := index, lap := lap, lostSince := lost, queue := q } }

/-- R439, R442, R444: where the head request goes, and what waits after it; the words that do not hang on the digest. -/
theorem test_CoreSampleLog :
    (logAt 4095 4094 0 [request 0x91]).nextEntry = (0, 0) ∧ (logAt 4095 7 0 []).nextEntry = (0, 8) ∧ (logAt 41 7 0 []).nextEntry = (42, 7)
    ∧ idles .entryWrite (logAt 3 0 0 []) = true
    ∧ runs .entryWrite (logAt 4094 7 0 [request 0x91, request 0x92]) (fun t => t.memWords 0x28FFF8 6 == [0x915007#24, 2#24, 0x030001#24, 4#24, 0x111111#24, 0x222222#24]
        && t.cs.queue == [request 0x92] && t.fld Reg.CS_STAT 16 5 == 1 && t.reg Reg.CS_HIDX == 0x007FFF#24 && t.isPending 81) = true
    ∧ runs .entryWrite (logAt 1 1 9 [request 0x91]) (fun t => t.mem1 0x288010 == 0x041001#24 && t.mem1 0x288014 == 9#24 && t.cs.lostSince == 0 && t.cs.queue.length == 1) = true
    ∧ runs (.headRead .a1) { logAt 3 0 0 [] with regs := (part [(Reg.CS_STAT, 0#24), (Reg.CS_HEAD0, 5#24), (Reg.CS_HEAD1, 6#24), (Reg.CS_HIDX, 7#24)]).regs }
        (fun t => t.sys.rdata == 5#24 && t.latch .a1 Reg.CS_HEAD1 == 6#24 && t.latch .a1 Reg.CS_HIDX == 7#24) = true := by decide +kernel

/-- R441, R442: entries 0 to 2 of the present lap, the last with the chain value that SHA-512 gives it after entry 1 (worked out outside Lean), and no more. -/
def written : State :=
  { part [(Reg.CS_STAT, 0x400000#24)] with mem := [(0x288000, 0x900005#24), (0x288008, 0x900005#24), (0x28800E, 0x010203#24), (0x28800F, 0x040506#24), (0x288010, 0x902005#24), (0x288011, 0x000007#24), (0x288012, 0x030000#24), (0x288013, 0x000009#24), (0x288014, 0x111111#24), (0x288015, 0x222222#24), (0x288016, 0xA7E679#24), (0x288017, 0x66D6A3#24)] }

/-- R442: the laps of the entries, and where the search ends. -/
theorem test_CoreSampleLog_search :
    written.bit Reg.CS_STAT 22 = true ∧ (∀ x < 64, ∀ y < 64, (written.lapAt (64 * x + y) = written.lapAt 0 ↔ 64 * x + y ≤ 2))
    ∧ chainWords (written.memWords 0x28800E 2) (written.memWords 0x288010 6) = written.memWords 0x288016 2
    ∧ runs (.headRead .a0) written (fun t => t.cs.index == 2 && t.cs.lap == 5 && ! t.bit Reg.CS_STAT 22 && t.sys.rdata == 0xA7E679#24 && t.latch .a0 Reg.CS_HEAD1 == 0x66D6A3#24) = true := by decide +kernel

/-- R445: the entries of firmware. -/
theorem test_CoreSampleLog_firmware :
    let d := fun (n : Nat) => { logAt 3 0 0 (List.replicate n (request 0x91)) with regs := (part [(Reg.CS_STAT, 0#24), (Reg.SYS_GATERUN, 0xFFFFFF#24)]).regs }
    canWrite .a0 0xF12008 = true ∧ (d 0).gateOpen 0xF12008 = true ∧ (d 0).debugBars .a0 = false
    ∧ runs (.registerWrite .a0 0xF12008#24 7#24) (d 0) (fun t => t.latch .a0 0xF12008 == 7#24 && t.latch .a1 0xF12008 == 0#24) = true
    ∧ runs (.registerWrite .lk 0xF12009#24 7#24) (d 0) (fun t => t.latch .lk 0xF12009 == 7#24 && t.latch .lk 0xF12008 == 0#24) = true
    ∧ (∀ m ∈ [Master.lk, .a0, .a1, .dbg], runs (.firmwareEntry m 0x7FFFFF#24) (d 0) (fun t => t.latch m Reg.CS_FWSTAT == 7#24 && t.cs.queue == []) = true
        ∧ runs (.firmwareEntry m 0x800000#24) (d 16) (fun t => t.latch m Reg.CS_FWSTAT == 3#24 && t.cs.queue.length == 16 && t.cs.lostSince == 0) = true
        ∧ runs (.firmwareEntry m 0x800000#24) (d 15) (fun t => t.latch m Reg.CS_FWSTAT == 0#24 && t.cs.queue.length == 16) = true)
    ∧ runs (.firmwareEntry .dbg 0xFF0000#24) (d 0) (fun t => (t.cs.queue.map fun r => (r.code, r.origin)) == [(255, 6)]) = true := by decide +kernel

/-- R302, R304, R312: a blank row that passes at once, after 3 and not after 4 reads, an execute-only sector and a held bank. -/
theorem test_FlashReads :
    let s := part []
    let xo := part [(Reg.NVM_XO 7, 0x3FF001#24), (Reg.NVM_XO 0, 0x000001#24)]
    let held := { s with nvm := { s.nvm with er := some { sector := 511, cid := 2, ticket := 0 } } }
    isFlash 0x1FFFFF = true ∧ canRead .a0 0x1FFFFF = true ∧ s.debugBars .a0 = false ∧ s.asleep = false ∧ s.xoSector 0 = false ∧ s.rowOk 0 = true
    ∧ xo.xoSector 0 = true ∧ xo.xoSector 1 = false ∧ held.bankHeld 0 = true ∧ held.bankHeld 1 = false
    ∧ idles (.flashRead .a0 0xFFFFF#24 true 0) held = true
    ∧ runs (.flashRead .a0 63#24 false 0) s (fun t => t.sys.rdata == 0xFFFFFF#24 && t.reg Reg.NVM_RRCNT == 0#24) = true
    ∧ runs (.flashRead .a0 63#24 false 3) s (fun t => t.sys.rdata == 0xFFFFFF#24 && t.reg Reg.NVM_RRCNT == 1#24) = true
    ∧ runs (.flashRead .a0 0x1FFFFF#24 false 4) s (fun t => t.reg Reg.NVM_CRCADR == 0x1FFFC0#24 && t.bit Reg.NVM_STAT 18 && t.sys.busErr && t.isPending 79 && t.a0.fault == some { code := 10, efa := 0x1FFFFF#24, eia := 0xE00000#24 }
        && (t.cs.queue.map (·.code)) == [0x20]) = true
    ∧ runs (.flashRead .a0 0x7FF#24 false 0) xo (fun t => t.sys.rdata == 0#24 && t.reg Reg.NVM_XOADR == 0x7FF#24 && t.bit Reg.NVM_STAT 17 && t.a0.fault == some { code := 6, efa := 0x7FF#24, eia := 0xE00000#24 }) = true
    ∧ runs (.flashRead .a0 0x7FF#24 true 0) xo (fun t => t.sys.rdata == 0xFFFFFF#24 && t.a0.fault == none) = true := by decide +kernel


/-! ## The machine as a whole -/

/-- R303: a row in the read buffer of its bank is read from there, a third row drops the one checked first, and the other bank keeps its own. -/
theorem test_FlashReads_buffer :
    let buf (b : List Nat) : State := { part [] with nvm := { State.reset.nvm with buf := b } }
    runs (.flashRead .a0 63#24 false 4) (buf [0]) (fun t => t.sys.rdata == 0xFFFFFF#24 && t.a0.fault == none && t.nvm.buf == [0] && ! t.sys.busErr) = true
    ∧ runs (.flashRead .a0 128#24 false 0) (buf [64, 0x100000, 0, 0x100040]) (fun t => t.nvm.buf == [128, 64, 0x100000, 0x100040]) = true
    ∧ runs (.flashRead .dbg 0#24 false 0) { part [] with ash := { State.reset.ash with owner := some (0, 0) } } (fun t => t.sys.busErr && t.nvm.buf == []) = true := by decide +kernel

/-! ## Instruction words (R210 to R213) -/

/-- A memory of the words given, zero behind them. -/
def words (l : List Word) (i : Nat) : Word := l.getD i 0#24

/-- R212 to R214, R218, R220: words written out field by field. -/
theorem test_InstructionWords :
    instrOf .a0 (words [0#24]) = some (.nop .a0) ∧ instrOf .a0 (words [0b000001_0011_0001_0010_000000#24]) = some (.add .a0 3 1 2)
    ∧ instrOf .a0 (words [0b001000_0011_0001_0_111111111#24]) = some (.addi .a0 3 1 (.short 0x1FF#9))
    ∧ instrOf .a1 (words [0b001000_0011_0001_1_000000000#24, 0x123456#24]) = some (.addi .a1 3 1 (.ext 0x123456#24))
    ∧ instrOf .a0 (words [0b010000_0011_0_1111111111111#24]) = some (.ldi .a0 3 (.short 0x1FFF#13)) ∧ instrOf .a0 (words [0b010100_0011_0001_01_0_0_000000#24]) = some (.ld .a0 3 (.postInc 1))
    ∧ instrOf .lk (words [0b010101_0011_0001_00_0_0_111111#24]) = some (.st .lk 3 (.offset 1 0x3F#6)) :=
  ⟨rfl, rfl, rfl, rfl, rfl, rfl, rfl⟩

/-- R211: encodings that spell nothing: an extension with a short field, an unassigned major, a bad address, an odd d, an accumulator above a3, and CP1 on the Ashlar core. -/
theorem test_InstructionWords_illegal :
    instrOf .a0 (words [0b001000_0011_0001_1_000000001#24]) = none ∧ instrOf .a0 (words [0b000111_0000_0000_0000_000000#24]) = none
    ∧ instrOf .a0 (words [0b010100_0011_0001_00_0_1_000000#24]) = none ∧ instrOf .a0 (words [0b010100_0011_0001_01_1_0_000000#24]) = none
    ∧ instrOf .a0 (words [0b000100_0011_0001_0010_000000#24]) = none ∧ instrOf .a0 (words [0b000011_0100_0001_0010_000000#24]) = none
    ∧ instrOf .ash (words [0b111101_0011_0001_0010_000000#24]) = none :=
  ⟨rfl, rfl, rfl, rfl, rfl, rfl, rfl⟩

/-- A queue with one command, and the same without it. -/
def twoWaiting : State := { part [] with pending := [.rtcSecond, .debugAttach] }

/-- The front runs and the rest waits; an empty queue idles. -/
theorem test_StepRunsTheFront :
    (match step twoWaiting with
      | .next t => t.pending == [.debugAttach] && t.rtc.cal.sec == 1 && ! t.dbg.att
      | _ => false) = true
    ∧ (match step (part []) with
      | .next t => decide (t = part [])
      | _ => false) = true := by decide +kernel

/-- A step on a state in canonical form that answers a next state, which has words in its maps. -/
theorem test_StepKeepsCanonicalForm :
    twoWaiting.Canon ∧ (match step { twoWaiting with pending := [.registerWrite .a0 0xF00065#24 5#24] } with
      | .next t => decide t.Canon && t.pending == []
      | _ => false) = true := by decide +kernel


end Sys2Proof.Tests
end

/-! PROOFS. The Hopper's pool of cells (R147, R166, R168, R172): what raising an interrupt source leaves, what chaining, taking and freeing cells
does to link words and to the free list, and from these the statement about the pool. -/
namespace Sys2Proof.Machine

/-! ## Fields and bits of registers -/

theorem testBit_fieldOf (w : Word) (lo len i : Nat) : (fieldOf w lo len).testBit i = (decide (i < len) && w.getLsbD (lo + i)) := by
  rw [fieldOf, Nat.testBit_mod_two_pow, Nat.testBit_shiftRight, BitVec.testBit_toNat]

theorem fieldOf_withField_same (w : Word) (lo len v : Nat) (h : lo + len ≤ 24) : fieldOf (withField w lo len v) lo len = v % 2 ^ len := by
  apply Nat.eq_of_testBit_eq
  intro i
  rw [testBit_fieldOf, Nat.testBit_mod_two_pow]
  by_cases hi : i < len
  · have hb : lo + i < 24 := by omega
    simp [withField, getLsbD_ofNat24, Nat.testBit_shiftLeft, Nat.testBit_mod_two_pow, Nat.testBit_two_pow_sub_one, hi, hb, -BitVec.getLsbD_eq_getElem]
  · simp [hi]

theorem State.reg_setReg_ne (s : State) {a b : Nat} (v : Word) (h : b ≠ a) : (s.setReg a v).reg b = s.reg b := by
  rw [State.reg_setReg, if_neg h]

theorem State.fld_setFld_same (s : State) (a lo len v : Nat) (h : lo + len ≤ 24) : (s.setFld a lo len v).fld a lo len = v % 2 ^ len := by
  simp only [State.fld, State.setFld, State.reg_setReg, if_true, fieldOf_withField_same _ _ _ _ h]

theorem State.reg_setFld_ne (s : State) {a b : Nat} (lo len v : Nat) (h : b ≠ a) : (s.setFld a lo len v).reg b = s.reg b :=
  s.reg_setReg_ne _ h

theorem State.reg_setBit_ne (s : State) {a b : Nat} (i : Nat) (v : Bool) (h : b ≠ a) : (s.setBit a i v).reg b = s.reg b :=
  s.reg_setReg_ne _ h

theorem State.bit_setBit_same (s : State) (a i : Nat) (v : Bool) (h : i < 24) : (s.setBit a i v).bit a i = v := by
  simp only [State.bit, State.setBit, State.reg_setReg, if_true, getLsbD_withBit _ _ _ _ h]

theorem State.bit_setReg_same (s : State) (a : Nat) (v : Word) (i : Nat) : (s.setReg a v).bit a i = v.getLsbD i := by
  rw [State.bit, State.reg_setReg, if_pos rfl]

theorem State.bit_of_reg {s t : State} {a : Nat} (h : t.reg a = s.reg a) (i : Nat) : t.bit a i = s.bit a i := by
  simp only [State.bit, h]

theorem State.fld_of_reg {s t : State} {a : Nat} (h : t.reg a = s.reg a) (lo len : Nat) : t.fld a lo len = s.fld a lo len := by
  simp only [State.fld, h]

/-! ## What a raised source leaves (R240, R247, R248) -/

theorem fieldOf_lt (w : Word) (lo len : Nat) : fieldOf w lo len < 2 ^ len := Nat.mod_lt _ (Nat.two_pow_pos len)

/-- The status register of a source's coalescing unit is one of the sixteen. -/
theorem State.unitStat_mem (s : State) (n : Nat) : Reg.INT_CU_STAT (s.fld (Reg.INT_SRC n) 11 4) ∈ (List.range 16).map Reg.INT_CU_STAT :=
  List.mem_map_of_mem (List.mem_range.mpr (fieldOf_lt _ 11 4))

theorem State.countUnit_eq (s : State) (n : Nat) : s.countUnit n = { s with regs := (s.countUnit n).regs } := by
  unfold State.countUnit
  dsimp only
  split
  · split <;> rfl
  · rfl

theorem State.reg_countUnit (s : State) (n : Nat) {a : Nat} (h : a ∉ (List.range 16).map Reg.INT_CU_STAT) : (s.countUnit n).reg a = s.reg a := by
  have hu : a ≠ Reg.INT_CU_STAT (s.fld (Reg.INT_SRC n) 11 4) := fun e => h (e ▸ s.unitStat_mem n)
  unfold State.countUnit
  dsimp only
  split
  · split
    · exact reg_setFld_ne _ _ _ _ hu
    · rw [reg_setFld_ne _ _ _ _ hu, reg_setFld_ne _ _ _ _ hu, reg_setBit_ne _ _ _ hu]
  · rfl

/-- A raised source changes registers and the interrupt controller alone. -/
theorem State.raise_eq (s : State) (n : Nat) : s.raise n = { s with regs := (s.raise n).regs, intc := (s.raise n).intc } := by
  unfold State.raise
  dsimp only
  split
  · rfl
  · split
    · rw [countUnit_eq]; rfl
    · rw [countUnit_eq]
      split <;> rfl

@[simp] theorem State.raise_hop (s : State) (n : Nat) : (s.raise n).hop = s.hop := by rw [raise_eq]
@[simp] theorem State.raise_mem (s : State) (n : Nat) : (s.raise n).mem = s.mem := by rw [raise_eq]

theorem State.reg_raise (s : State) (n : Nat) {a : Nat} (h : a ∉ sourceRegs n) : (s.raise n).reg a = s.reg a := by
  obtain ⟨hp, hu⟩ := not_or.mp (mt List.mem_cons.mpr h)
  unfold State.raise
  dsimp only
  split
  · rfl
  · split
    · exact reg_countUnit _ n hu
    · rw [reg_countUnit _ n hu, reg_setBit_ne _ _ _ hp]
      split <;> rfl

/-- The pending words lie below the coalescing units' registers. -/
theorem pendWord_not_unitStat {n : Nat} (h : n < 124) : Reg.INT_PEND (n / 24) ∉ (List.range 16).map Reg.INT_CU_STAT := by
  intro hm
  obtain ⟨u, -, hu⟩ := List.mem_map.mp hm
  simp only [Reg.INT_PEND, Reg.INT_CU_STAT] at hu
  omega

/-- A source of type E that is raised outside deep sleep is pending (R239, R240). -/
theorem State.isPending_raise (s : State) {n : Nat} (hn : n < 124) (hl : isLevel n = false) (ha : s.asleep = false) :
    (s.raise n).isPending n = true := by
  have hi : n % 24 < 24 := Nat.mod_lt _ (by decide)
  have h124 : decide (124 ≤ n) = false := by simpa using hn
  simp only [State.raise, State.isPending, hl, ha, h124, Bool.false_and, Bool.or_self, Bool.false_eq_true, if_false]
  rw [bit_of_reg (reg_countUnit _ n (pendWord_not_unitStat hn)), bit_setBit_same _ _ _ _ hi]

/-! ## A status flag of the Hopper and source 71 -/

/-- A flag of HOP_STAT with source 71: the flag and the source are set, and pool, memory and every register but these are kept. -/
theorem State.flagRaise_hopStat (s : State) {i : Nat} (hi : i < 24) (ha : s.asleep = false) :
    let t := s.flagRaise Reg.HOP_STAT i 71
    t.bit Reg.HOP_STAT i = true ∧ t.isPending 71 = true ∧ t.hop = s.hop ∧ t.mem = s.mem
      ∧ s.KeepsRegs t (Reg.HOP_STAT :: sourceRegs 71) := by
  refine ⟨?_, isPending_raise _ (by decide) rfl ha, raise_hop _ _, raise_mem _ _, fun a h => ?_⟩
  · unfold State.flagRaise
    rw [bit_of_reg (reg_raise _ 71 (by decide)), bit_setBit_same _ _ _ _ hi]
  · obtain ⟨hs, hr⟩ := not_or.mp (mt List.mem_cons.mpr h)
    unfold State.flagRaise
    rw [reg_raise _ 71 hr, reg_setBit_ne _ _ _ hs]

/-! ## Congestion and the free count (R161, R239) -/

/-- The registers that the Hopper's congestion touches: its status and those of its two level sources. -/
def congRegs : List Nat := Reg.HOP_STAT :: (sourceRegs 70 ++ sourceRegs 75)

theorem State.syncCong_eq (s old : State) : s.syncCong old = { s with regs := (s.syncCong old).regs, intc := (s.syncCong old).intc } := by
  unfold State.syncCong
  dsimp only
  split <;> split
  · rw [raise_eq _ 75, raise_eq _ 70]; rfl
  · rw [raise_eq _ 70]; rfl
  · rw [raise_eq _ 75]; rfl
  · rfl

theorem State.reg_syncCong (s old : State) {a : Nat} (h : a ∉ congRegs) : (s.syncCong old).reg a = s.reg a := by
  simp only [congRegs, List.mem_cons, List.mem_append, not_or] at h
  obtain ⟨hs, h70, h75⟩ := h
  have hset (b : Bool) : (s.setBit Reg.HOP_STAT 23 b).reg a = s.reg a := reg_setBit_ne _ _ _ hs
  unfold State.syncCong
  dsimp only
  split <;> split <;> simp only [reg_raise _ 70 h70, reg_raise _ 75 h75, hset]

theorem State.syncFree_eq (s : State) : s.syncFree = { s with regs := s.syncFree.regs, intc := s.syncFree.intc } := by
  unfold State.syncFree
  rw [syncCong_eq]
  rfl

@[simp] theorem State.syncFree_hop (s : State) : s.syncFree.hop = s.hop := by rw [syncFree_eq]
@[simp] theorem State.syncFree_mem1 (s : State) (a : Nat) : s.syncFree.mem1 a = s.mem1 a := by
  rw [syncFree_eq]
  rfl

theorem State.reg_syncFree (s : State) {a : Nat} (h : a ∉ Reg.HOP_FREECNT :: congRegs) : s.syncFree.reg a = s.reg a := by
  obtain ⟨hf, hc⟩ := not_or.mp (mt List.mem_cons.mpr h)
  unfold State.syncFree
  rw [reg_syncCong _ _ hc, reg_setFld_ne _ _ _ _ hf]

/-- HOP_FREECNT shows the length of the free list, which fits its 12 bits. -/
theorem State.freeCells_syncFree (s : State) (h : s.hop.free.length < 4096) : s.syncFree.freeCells = s.hop.free.length := by
  unfold State.freeCells State.syncFree
  rw [fld_of_reg (reg_syncCong _ _ (by decide)), fld_setFld_same _ _ _ _ _ (by decide)]
  exact Nat.mod_eq_of_lt h

@[simp] theorem State.linkAddr_syncFree (s : State) (c : Nat) : s.syncFree.linkAddr c = s.linkAddr c := by
  unfold State.linkAddr
  rw [reg_syncFree _ (by decide)]

@[simp] theorem State.linkSt_syncFree (s : State) (c : Nat) : s.syncFree.linkSt c = s.linkSt c := by
  simp only [State.linkSt, State.linkAddr_syncFree, State.syncFree_mem1]

/-! ## Link words (R148) -/

theorem State.storeRam_eq (s : State) (a : Nat) (v : Word) : s.storeRam a v = { s with mem := (s.storeRam a v).mem, dirty := (s.storeRam a v).dirty } := by
  unfold State.storeRam
  dsimp only
  split <;> rfl

theorem State.mem1_storeRam (s : State) (a b : Nat) (v : Word) : (s.storeRam a v).mem1 b = if b = a then v else s.mem1 b := by
  rw [← State.mem1_setMem]
  unfold State.storeRam
  dsimp only
  split <;> rfl

theorem State.setLink_eq (s : State) (k st nxf nxc : Nat) :
    s.setLink k st nxf nxc = { s with mem := (s.setLink k st nxf nxc).mem, dirty := (s.setLink k st nxf nxc).dirty } := s.storeRam_eq _ _

@[simp] theorem State.setLink_regs (s : State) (k st nxf nxc : Nat) : (s.setLink k st nxf nxc).regs = s.regs := by rw [setLink_eq]
@[simp] theorem State.setLink_hop (s : State) (k st nxf nxc : Nat) : (s.setLink k st nxf nxc).hop = s.hop := by rw [setLink_eq]
@[simp] theorem State.setLink_tw (s : State) (k st nxf nxc : Nat) : (s.setLink k st nxf nxc).tw = s.tw := by rw [setLink_eq]

@[simp] theorem State.linkAddr_setLink (s : State) (k st nxf nxc c : Nat) : (s.setLink k st nxf nxc).linkAddr c = s.linkAddr c := by
  rw [setLink_eq]
  rfl

theorem State.mem1_setLink_ne (s : State) {k x : Nat} (st nxf nxc : Nat) (h : x ≠ s.linkAddr k) : (s.setLink k st nxf nxc).mem1 x = s.mem1 x := by
  simp only [State.setLink, State.mem1_storeRam, h, if_false]

/-- A cell that a core takes is in state 0b10 (R148, R166). -/
theorem State.linkSt_setLink_held (s : State) (k : Nat) : (s.setLink k 2 0 0).linkSt k = 2 := by
  unfold State.linkSt
  rw [State.linkAddr_setLink, State.setLink, State.mem1_storeRam, if_pos rfl]
  rfl

theorem State.chainCells_eq (s : State) (st : Nat) (cs : List Nat) :
    s.chainCells st cs = { s with mem := (s.chainCells st cs).mem, dirty := (s.chainCells st cs).dirty } := by
  induction cs generalizing s with
  | nil => rfl
  | cons c cs ih =>
    cases cs with
    | nil => exact s.setLink_eq c st 0 0
    | cons d cs =>
      simp only [State.chainCells]
      rw [ih, setLink_eq]

theorem State.mem1_chainCells (s : State) (st : Nat) (cs : List Nat) (x : Nat) (h : ∀ c ∈ cs, x ≠ s.linkAddr c) :
    (s.chainCells st cs).mem1 x = s.mem1 x := by
  induction cs generalizing s with
  | nil => rfl
  | cons c cs ih =>
    have hc : x ≠ s.linkAddr c := h c (List.mem_cons_self ..)
    cases cs with
    | nil => exact s.mem1_setLink_ne st 0 0 hc
    | cons d cs =>
      simp only [State.chainCells]
      rw [ih, mem1_setLink_ne _ _ _ _ hc]
      intro e he
      rw [State.linkAddr_setLink]
      exact h e (List.mem_cons_of_mem _ he)

/-! ## The enable (R147, R172) -/

/-- HOP_CTL stores bit 23 of what is written, whether the configuration is locked or not. -/
theorem State.storeReg_hopCtl (s : State) (v : Word) :
    ∃ w : Word, s.storeReg Reg.HOP_CTL v = s.setReg Reg.HOP_CTL w ∧ w.getLsbD 23 = v.getLsbD 23 :=
  ⟨storeWord ⟨0x000, 1, 1, 0xBC0000, 0x000000, 0x000000, false, 0x280000⟩ (s.reg Reg.HOP_CTL) v, rfl, by simp [storeWord]⟩

/-- A write of HOP_CTL leaves the layout. -/
theorem State.layoutOk_setHopCtl (s : State) (w : Word) : (s.setReg Reg.HOP_CTL w).layoutOk = s.layoutOk := by
  have hcnt := s.reg_setReg_ne w (show Reg.HOP_POOLCNT ≠ Reg.HOP_CTL by decide)
  have hpool := s.reg_setReg_ne w (show Reg.HOP_POOLBASE ≠ Reg.HOP_CTL by decide)
  have hlink := s.reg_setReg_ne w (show Reg.HOP_LINKBASE ≠ Reg.HOP_CTL by decide)
  have hnbr := s.reg_setReg_ne w (show Reg.HOP_NTBASE ≠ Reg.HOP_CTL by decide)
  have hroute := s.reg_setReg_ne w (show Reg.HOP_RTBASE ≠ Reg.HOP_CTL by decide)
  unfold State.layoutOk State.fld
  rw [hcnt, hpool, hlink, hnbr, hroute]

/-- What a write of HOP_CTL that sets en does, with w the word stored: a bad layout clears en again with the flag cfg, a pool that stands is
kept, and otherwise the pool is built. -/
theorem State.wrHopCtl_enable (s : State) (v : Word) (hv : v.getLsbD 23 = true) (hs : s.bit Reg.HOP_CTL 23 = false) :
    ∃ w : Word, w.getLsbD 23 = true
      ∧ (s.layoutOk = false → s.wrHopCtl v = ((s.setReg Reg.HOP_CTL w).setBit Reg.HOP_CTL 23 false).flagRaise Reg.HOP_STAT 3 71)
      ∧ (s.layoutOk = true → s.hop.ready = true → s.wrHopCtl v = s.setReg Reg.HOP_CTL w)
      ∧ (s.layoutOk = true → s.hop.ready = false → s.wrHopCtl v = (s.setReg Reg.HOP_CTL w).buildPool) := by
  obtain ⟨w, hst, hw⟩ := s.storeReg_hopCtl v
  rw [hv] at hw
  have hen : (s.setReg Reg.HOP_CTL w).bit Reg.HOP_CTL 23 = true := (s.bit_setReg_same _ w 23).trans hw
  simp only [State.wrHopCtl, hst, hen, hs, State.layoutOk_setHopCtl]
  exact ⟨w, hw, fun hl => by simp [hl], fun hl hr => by simp [hl, hr], fun hl hr => by simp [hl, hr]⟩

theorem State.buildPool_hop (s : State) : s.buildPool.hop = { s.hop with free := List.range (s.fld Reg.HOP_POOLCNT 0 12), ready := true } := by
  unfold State.buildPool
  rw [State.syncFree_hop, State.chainCells_eq]

theorem State.reg_buildPool (s : State) {a : Nat} (h : a ∉ Reg.HOP_FREECNT :: congRegs) : s.buildPool.reg a = s.reg a := by
  unfold State.buildPool
  dsimp only
  rw [reg_syncFree _ h, State.chainCells_eq]
  rfl

theorem State.freeCells_buildPool (s : State) : s.buildPool.freeCells = s.fld Reg.HOP_POOLCNT 0 12 := by
  have hlt : s.fld Reg.HOP_POOLCNT 0 12 < 4096 := fieldOf_lt _ 0 12
  unfold State.buildPool
  dsimp only
  rw [freeCells_syncFree _ (by simpa only [List.length_range] using hlt)]
  exact List.length_range

/-- Building the pool writes the link array alone. -/
theorem State.mem1_buildPool (s : State) (x : Nat) (h : x < s.linkAddr 0 ∨ s.linkAddr (s.fld Reg.HOP_POOLCNT 0 12) ≤ x) :
    s.buildPool.mem1 x = s.mem1 x := by
  unfold State.buildPool
  dsimp only
  rw [State.syncFree_mem1]
  refine s.mem1_chainCells 0 _ x fun c hc => ?_
  have hlt := List.mem_range.mp hc
  simp only [State.linkAddr] at h ⊢
  omega

/-! ## Allocation (R166) -/

theorem State.rdAlloc_short (s : State) (r : Bool) (h : s.hop.free.length < if r then 1 else 65) : s.rdAlloc r = (0#24, s) := by
  simp only [State.rdAlloc, h, if_true]

/-- The pool after its first free cell c has gone to a core, with rest left. -/
def State.gaveCell (s : State) (c : Nat) (rest : List Nat) : State :=
  (State.setLink { s with hop := { s.hop with free := rest } } c 2 0 0).syncFree

theorem State.rdAlloc_cons (s : State) (r : Bool) {c : Nat} {rest : List Nat} (hf : s.hop.free = c :: rest)
    (h : (if r then 1 else 65) ≤ s.hop.free.length) : s.rdAlloc r = (BitVec.ofNat 24 (0x800000 + c), s.gaveCell c rest) := by
  have h1 : ¬ s.hop.free.length < 1 := by simp [hf]
  simp only [State.rdAlloc, Nat.not_lt.mpr h, if_false, State.takeCells, h1]
  simp only [hf, List.take_succ_cons, List.take_zero, List.drop_succ_cons, List.drop_zero, State.chainCells, State.gaveCell]

theorem State.gaveCell_hop (s : State) (c : Nat) (rest : List Nat) : (s.gaveCell c rest).hop = { s.hop with free := rest } := by
  simp only [State.gaveCell, State.syncFree_hop, State.setLink_hop]

theorem State.linkSt_gaveCell (s : State) (c : Nat) (rest : List Nat) : (s.gaveCell c rest).linkSt c = 2 := by
  simp only [State.gaveCell, State.linkSt_syncFree, State.linkSt_setLink_held]

theorem State.freeCells_gaveCell (s : State) (c : Nat) {rest : List Nat} (h : rest.length < 4096) : (s.gaveCell c rest).freeCells = rest.length := by
  unfold State.gaveCell
  rw [freeCells_syncFree] <;> rw [State.setLink_hop]
  exact h

theorem State.mem1_gaveCell_ne (s : State) {c x : Nat} (rest : List Nat) (h : x ≠ s.linkAddr c) : (s.gaveCell c rest).mem1 x = s.mem1 x := by
  unfold State.gaveCell
  rw [State.syncFree_mem1]
  exact State.mem1_setLink_ne { s with hop := { s.hop with free := rest } } 2 0 0 h

/-! ## Release (R168) -/

/-- Mirroring is decided by registers and the twin link alone. -/
theorem State.mirroring_congr {s t : State} (hr : t.regs = s.regs) (ht : t.tw = s.tw) : t.mirroring = s.mirroring := by
  have hreg : t.reg = s.reg := funext fun a => by rw [State.reg, hr, State.reg]
  unfold State.mirroring State.mirrorPages State.bit State.fld
  rw [hreg, ht]

theorem State.freeCell_hop (s : State) (c : Nat) (h : s.mirroring = false) : (s.freeCell c).hop = { s.hop with free := c :: s.hop.free } := by
  simp [State.freeCell, h]

theorem State.mirroring_freeCell (s : State) (c : Nat) : (s.freeCell c).mirroring = s.mirroring := by
  apply State.mirroring_congr
  all_goals
    unfold State.freeCell
    dsimp only
    split <;> simp

/-- Cells that are freed one after the other go in front of the free list, the last one first (assumption 17). -/
theorem State.freeCells_foldl_hop (cs : List Nat) (s : State) (h : s.mirroring = false) :
    (cs.foldl State.freeCell s).hop = { s.hop with free := cs.reverse ++ s.hop.free } := by
  induction cs generalizing s with
  | nil => rfl
  | cons c cs ih =>
    rw [List.foldl_cons, ih _ (by rw [mirroring_freeCell, h]), freeCell_hop _ _ h]
    simp

theorem State.freeFrame_hop (s : State) (f : HopFrame) (h : s.mirroring = false) :
    (s.freeFrame f).hop = { s.hop with free := f.cells.reverse ++ s.hop.free } := by
  rw [State.freeFrame, State.syncFree_hop, State.freeCells_foldl_hop _ _ h]

theorem State.chainFrom_noteBus (s : State) (e : Bool) (c n : Nat) : (s.noteBus e).chainFrom c n = s.chainFrom c n := by
  induction n generalizing c with
  | zero => rfl
  | succ n ih => exact congrArg (c :: ·) (ih _)

theorem State.coreFrame_noteBus (s : State) (e : Bool) (c : Nat) : (s.noteBus e).coreFrame c = s.coreFrame c := by
  unfold State.coreFrame
  dsimp only
  rw [chainFrom_noteBus]
  rfl

theorem State.wrRelease_held (s : State) (v : Word) (h : s.coreHolds (v.toNat % 2048) = true) :
    s.wrRelease v = s.freeFrame (s.coreFrame (v.toNat % 2048)) := if_pos h

theorem State.wrRelease_misused (s : State) (v : Word) (h : s.coreHolds (v.toNat % 2048) = false) : s.wrRelease v = s.misuse :=
  if_neg (ne_true_of_eq_false h)

/-! ## The commands -/

theorem State.linkSt_answer (w : Word) (t : State) (c : Nat) : (State.answer (w, t)).linkSt c = t.linkSt c := rfl

theorem State.freeCells_answer (w : Word) (t : State) : (State.answer (w, t)).freeCells = t.freeCells := rfl

theorem State.mem1_answer (w : Word) (t : State) (x : Nat) : (State.answer (w, t)).mem1 x = t.mem1 x := rfl

theorem State.onBlock_open {s : State} {a : Nat} (ha : s.asleep = false) (hg : s.gateOpen a = true) (f : State → State) :
    s.onBlock a f = f (s.noteBus false) := by
  simp only [State.onBlock, ha, hg, Bool.false_eq_true, if_false, if_true]

theorem State.transfer_reaches {s : State} {m : Master} {a : Nat} {wr : Bool} (ha : s.asleep = false) (hr : s.reaches m a wr = true)
    (f : State → State) : s.transfer m a wr f = f (s.begun m) := by
  simp only [State.transfer, ha, hr, Bool.false_eq_true, if_false, if_true]

theorem exec_hopperEnable {s : State} (v : Word) (ha : s.asleep = false) (hg : s.gateOpen Reg.HOP_CTL = true) :
    exec (.hopperEnable v) s = .next ((s.noteBus false).wrHopCtl v) :=
  congrArg Host.Outcome.next (State.onBlock_open ha hg _)

theorem exec_release {s : State} (v : Word) (ha : s.asleep = false) (hg : s.gateOpen Reg.HOP_RELEASE = true) :
    exec (.release v) s = .next ((s.noteBus false).wrRelease v) :=
  congrArg Host.Outcome.next (State.onBlock_open ha hg _)

/-- The two allocations differ in the free cells they ask for alone. -/
theorem exec_alloc {s : State} {m : Master} {i : Instr} {a k : Nat}
    (hi : (i = .cellAlloc m ∧ a = Reg.HOP_ALLOC ∧ k = 65) ∨ (i = .cellAllocReserve m ∧ a = Reg.HOP_ALLOCC ∧ k = 1))
    (ha : s.asleep = false) (hr : s.reaches m a false = true) :
    ∃ r : Bool, k = (if r then 1 else 65) ∧ exec i s = .next (State.answer ((s.begun m).rdAlloc r)) := by
  rcases hi with ⟨rfl, rfl, rfl⟩ | ⟨rfl, rfl, rfl⟩
  · exact ⟨false, rfl, congrArg Host.Outcome.next (State.transfer_reaches ha hr _)⟩
  · exact ⟨true, rfl, congrArg Host.Outcome.next (State.transfer_reaches ha hr _)⟩

/-! ## The clauses of the statement -/

section Enable
variable {s : State} {v : Word} (ha : s.asleep = false) (hg : s.gateOpen Reg.HOP_CTL = true) (hv : v.getLsbD 23 = true)
  (hs : s.bit Reg.HOP_CTL 23 = false)
include ha hg hv hs

theorem enable_badLayout (hl : s.layoutOk = false) :
    Answers (.hopperEnable v) s fun t => t.bit Reg.HOP_CTL 23 = false ∧ t.bit Reg.HOP_STAT 3 = true ∧ t.isPending 71 = true
      ∧ t.hop = s.hop ∧ t.mem = s.mem := by
  obtain ⟨w, -, hbad, -, -⟩ := (s.noteBus false).wrHopCtl_enable v hv hs
  obtain ⟨hstat, hpend, hhop, hmem, hkeep⟩ :=
    (((s.noteBus false).setReg Reg.HOP_CTL w).setBit Reg.HOP_CTL 23 false).flagRaise_hopStat (i := 3) (by decide) ha
  refine ⟨_, (exec_hopperEnable v ha hg).trans (congrArg _ (hbad hl)), ?_, hstat, hpend, hhop, hmem⟩
  rw [State.bit_of_reg (hkeep _ (by decide)), State.bit_setBit_same _ _ _ _ (by decide)]

theorem enable_poolStands (hl : s.layoutOk = true) (hr : s.hop.ready = true) :
    Answers (.hopperEnable v) s fun t => t.bit Reg.HOP_CTL 23 = true ∧ t.hop = s.hop ∧ t.mem = s.mem ∧ s.KeepsRegs t [Reg.HOP_CTL] := by
  obtain ⟨w, hw, -, hstands, -⟩ := (s.noteBus false).wrHopCtl_enable v hv hs
  refine ⟨_, (exec_hopperEnable v ha hg).trans (congrArg _ (hstands hl hr)), (State.bit_setReg_same _ _ w 23).trans hw, rfl, rfl, fun a hn => ?_⟩
  exact (s.noteBus false).reg_setReg_ne w (mt List.mem_singleton.mpr hn)

theorem enable_buildsPool (hl : s.layoutOk = true) (hr : s.hop.ready = false) :
    Answers (.hopperEnable v) s fun t => t.bit Reg.HOP_CTL 23 = true
      ∧ t.hop = { s.hop with free := List.range (s.fld Reg.HOP_POOLCNT 0 12), ready := true } ∧ t.freeCells = s.fld Reg.HOP_POOLCNT 0 12
      ∧ ∀ a, (a < s.linkAddr 0 ∨ s.linkAddr (s.fld Reg.HOP_POOLCNT 0 12) ≤ a) → t.mem1 a = s.mem1 a := by
  obtain ⟨w, hw, -, -, hbuilt⟩ := (s.noteBus false).wrHopCtl_enable v hv hs
  have hreg {a : Nat} (h : a ≠ Reg.HOP_CTL) : ((s.noteBus false).setReg Reg.HOP_CTL w).reg a = s.reg a := (s.noteBus false).reg_setReg_ne w h
  have hcnt := State.fld_of_reg (hreg (a := Reg.HOP_POOLCNT) (by decide)) 0 12
  have hlink (k : Nat) : ((s.noteBus false).setReg Reg.HOP_CTL w).linkAddr k = s.linkAddr k := by
    rw [State.linkAddr, hreg (by decide), State.linkAddr]
  refine ⟨_, (exec_hopperEnable v ha hg).trans (congrArg _ (hbuilt hl hr)), ?_, ?_, ?_, fun a h => ?_⟩
  · rw [State.bit_of_reg (State.reg_buildPool _ (by decide)), State.bit_setReg_same, hw]
  · rw [State.buildPool_hop, hcnt]
    rfl
  · rw [State.freeCells_buildPool, hcnt]
  · exact State.mem1_buildPool _ a (by rwa [hcnt, hlink, hlink])

end Enable

section Alloc
variable {s : State} {m : Master} {i : Instr} {a k : Nat}
  (hi : (i = .cellAlloc m ∧ a = Reg.HOP_ALLOC ∧ k = 65) ∨ (i = .cellAllocReserve m ∧ a = Reg.HOP_ALLOCC ∧ k = 1))
  (ha : s.asleep = false) (hr : s.reaches m a false = true)
include hi ha hr

theorem alloc_short (h : s.hop.free.length < k) :
    Answers i s fun t => t = { s.begun m with sys := { (s.begun m).sys with rdata := 0#24 } } := by
  obtain ⟨r, rfl, he⟩ := exec_alloc hi ha hr
  refine ⟨_, he, ?_⟩
  rw [State.rdAlloc_short (s.begun m) r h]
  rfl

theorem alloc_gives {c : Nat} {rest : List Nat} (hf : s.hop.free = c :: rest) (hk : k ≤ s.hop.free.length) (hn : rest.length < 4096) :
    Answers i s fun t => t.sys.rdata = BitVec.ofNat 24 (0x800000 + c) ∧ t.sys.busErr = false
      ∧ t.hop = { s.hop with free := rest } ∧ t.linkSt c = 2 ∧ t.freeCells = rest.length ∧ ∀ x, x ≠ s.linkAddr c → t.mem1 x = s.mem1 x := by
  obtain ⟨r, rfl, he⟩ := exec_alloc hi ha hr
  rw [State.rdAlloc_cons (s.begun m) r hf hk] at he
  refine ⟨_, he, rfl, rfl, (s.begun m).gaveCell_hop c rest, ?_, ?_, fun x h => ?_⟩
  · rw [State.linkSt_answer, State.linkSt_gaveCell]
  · rw [State.freeCells_answer, State.freeCells_gaveCell _ c hn]
  · rw [State.mem1_answer]
    exact (s.begun m).mem1_gaveCell_ne rest h

end Alloc

section Release
variable {s : State} (v : Word) (ha : s.asleep = false) (hg : s.gateOpen Reg.HOP_RELEASE = true)
include ha hg

theorem release_held (hc : s.coreHolds (v.toNat % 2048) = true) (hm : s.mirroring = false) :
    Answers (.release v) s fun t => t.hop = { s.hop with free := (s.coreFrame (v.toNat % 2048)).cells.reverse ++ s.hop.free } := by
  refine ⟨_, (exec_release v ha hg).trans (congrArg _ ((s.noteBus false).wrRelease_held v hc)), ?_⟩
  rw [State.coreFrame_noteBus]
  exact (s.noteBus false).freeFrame_hop _ hm

theorem release_misused (hc : s.coreHolds (v.toNat % 2048) = false) :
    Answers (.release v) s fun t => t.hop = s.hop ∧ t.mem = s.mem ∧ t.bit Reg.HOP_STAT 4 = true ∧ t.isPending 71 = true := by
  obtain ⟨hstat, hpend, hhop, hmem, -⟩ := (s.noteBus false).flagRaise_hopStat (i := 4) (by decide) ha
  exact ⟨_, (exec_release v ha hg).trans (congrArg _ ((s.noteBus false).wrRelease_misused v hc)), hhop, hmem, hstat, hpend⟩

end Release

/-- Settles O35, clause by clause: the three ways an enable goes, the two of each allocation and the two of a release, with the order of the free
list as assumption 17 chooses it. -/
theorem cellPool : Obligations.CellPool := by
  intro s m v ha
  refine ⟨fun hg hv hs => ⟨enable_badLayout ha hg hv hs, enable_poolStands ha hg hv hs, enable_buildsPool ha hg hv hs⟩,
    fun i a k hi hr => ⟨alloc_short hi ha hr, fun c rest hf hk _ hn => alloc_gives hi ha hr hf hk hn⟩,
    fun hg => ⟨release_held v ha hg, release_misused v ha hg⟩⟩

end Sys2Proof.Machine

/-! PROOFS. The clocks (R255, R259 to R264, R266 to R269): which bits of the clock registers each operation keeps, what a switch of CCLK, a failure
and a return of a clock do, and from these the statement about the clocks. -/
namespace Sys2Proof.Machine

/-! ## Bits of a register that an operation keeps -/

theorem getLsbD_withField (w : Word) (lo len v : Nat) {i : Nat} (hi : i < 24) :
    (withField w lo len v).getLsbD i = if lo ≤ i ∧ i < lo + len then v.testBit (i - lo) else w.getLsbD i := by
  unfold withField
  simp only [BitVec.getLsbD_or, BitVec.getLsbD_and, BitVec.getLsbD_not, getLsbD_ofNat24, hi, decide_true, Bool.true_and,
    Nat.testBit_shiftLeft, Nat.testBit_mod_two_pow, Nat.testBit_two_pow_sub_one]
  by_cases hlo : lo ≤ i
  · by_cases hlen : i - lo < len
    · have : i < lo + len := by omega
      simp [hlo, hlen, this]
    · have : ¬ i < lo + len := by omega
      simp [hlen, this]
  · simp [hlo]

theorem State.reg_of_regs {s t : State} {a : Nat} (h : t.regs = s.regs) : t.reg a = s.reg a := by
  rw [State.reg, h, State.reg]

/-- A register keeps every bit but the ones listed. -/
def State.KeepsBits (s t : State) (a : Nat) (l : List Nat) : Prop := ∀ i, i < 24 → i ∉ l → t.bit a i = s.bit a i

section KeepsBits
variable {s t u : State} {a : Nat} {l m : List Nat}

theorem State.keepsBits_of_reg (h : t.reg a = s.reg a) : s.KeepsBits t a l := fun i _ _ => bit_of_reg h i

theorem State.KeepsBits.of_regs (h : s.KeepsBits u a l) (e : t.regs = u.regs) : s.KeepsBits t a l := fun i hi hn =>
  (bit_of_reg (reg_of_regs e) i).trans (h i hi hn)

theorem State.KeepsBits.trans (h : s.KeepsBits t a l) (g : t.KeepsBits u a m) : s.KeepsBits u a (l ++ m) := fun i hi hn =>
  have ⟨hl, hm⟩ := not_or.mp (mt List.mem_append.mpr hn)
  (g i hi hm).trans (h i hi hl)

theorem State.KeepsBits.mono (h : s.KeepsBits t a l) (hs : l ⊆ m) : s.KeepsBits t a m := fun i hi hn => h i hi (mt (hs ·) hn)

theorem State.KeepsBits.fld (h : s.KeepsBits t a l) (lo len : Nat) (hb : lo + len ≤ 24) (hn : ∀ i, i < len → lo + i ∉ l) :
    t.fld a lo len = s.fld a lo len := by
  apply Nat.eq_of_testBit_eq
  intro i
  simp only [State.fld, testBit_fieldOf]
  by_cases hi : i < len
  · exact congrArg _ (h (lo + i) (by omega) (hn i hi))
  · simp [hi]

end KeepsBits

theorem State.keepsBits_setFld (s : State) (a lo len v : Nat) : s.KeepsBits (s.setFld a lo len v) a (List.range' lo len) := by
  intro i hi hn
  rw [State.bit, State.setFld, State.reg_setReg, if_pos rfl, getLsbD_withField _ _ _ _ hi, if_neg (mt List.mem_range'_1.mpr hn)]
  rfl

theorem State.keepsBits_setBit (s : State) (a i : Nat) (b : Bool) : s.KeepsBits (s.setBit a i b) a [i] :=
  s.keepsBits_setFld a i 1 (if b then 1 else 0)

/-- CCLK's source stays where its field of SYS_CLKSTAT does. -/
theorem State.KeepsBits.cur {s t : State} {l : List Nat} (h : s.KeepsBits t Reg.SYS_CLKSTAT l) (hn : ∀ i, i < 2 → 19 + i ∉ l) : t.cur = s.cur :=
  h.fld 19 2 (by decide) hn

theorem State.KeepsBits.srcStable {s t : State} {l : List Nat} (h : s.KeepsBits t Reg.SYS_CLKSTAT l) (hn : ∀ i, i < 2 → 22 + i ∉ l) (k : Nat) :
    t.srcStable k = s.srcStable k := by
  have h22 := h 22 (by decide) (hn 0 (by decide))
  have h23 := h 23 (by decide) (hn 1 (by decide))
  unfold State.srcStable
  split <;> simp only [h22, h23]

/-! ## Switches of CCLK (R260, R261) -/

theorem State.reg_setSwitch_ne (s : State) (dest : Option Nat) (forced : Bool) {a : Nat} (h : a ≠ Reg.SYS_CLKSTAT) :
    (s.setSwitch dest forced).reg a = s.reg a :=
  State.reg_setBit_ne _ _ _ h

theorem State.keepsBits_setSwitch (s : State) (dest : Option Nat) (forced : Bool) :
    s.KeepsBits (s.setSwitch dest forced) Reg.SYS_CLKSTAT [18] :=
  State.keepsBits_setBit _ _ _ _

/-- swp shows a wait for a source that is not stable. -/
theorem State.swp_setSwitch (s : State) (dest : Option Nat) (forced : Bool) :
    (s.setSwitch dest forced).bit Reg.SYS_CLKSTAT 18 = dest.any fun k => ! forced && ! s.srcStable k := by
  refine (State.bit_setBit_same _ _ _ _ (by decide)).trans ?_
  cases dest <;> rfl

/-- A source is one of the three that csrc names. -/
theorem State.lt_of_srcStable {s : State} {k : Nat} (h : s.srcStable k = true) : k < 3 := by
  unfold State.srcStable at h
  split at h
  case h_4 => exact absurd h (by decide)
  all_goals decide

section TakeSource
variable (s : State) (k : Nat)

theorem State.swTo_takeSource : (s.takeSource k).sys.swTo = if s.sys.swNext = some k then none else s.sys.swNext := by
  show (match s.sys.swNext with
    | some j => if j = k then none else some j
    | none => none) = _
  cases s.sys.swNext <;> simp

theorem State.reg_takeSource_ne {a : Nat} (h : a ≠ Reg.SYS_CLKSTAT) : (s.takeSource k).reg a = s.reg a :=
  (State.reg_setSwitch_ne _ _ _ h).trans (s.reg_setFld_ne 19 2 k h)

theorem State.keepsBits_takeSource : s.KeepsBits (s.takeSource k) Reg.SYS_CLKSTAT [19, 20, 18] :=
  (s.keepsBits_setFld _ 19 2 k).trans (State.keepsBits_setSwitch _ _ _)

theorem State.cur_takeSource (h : k < 4) : (s.takeSource k).cur = k := by
  have hcur : (s.takeSource k).cur = (s.setFld Reg.SYS_CLKSTAT 19 2 k).cur := (State.keepsBits_setSwitch _ _ _).cur (by decide)
  rw [hcur, State.cur, State.fld_setFld_same _ _ _ _ _ (by decide)]
  exact Nat.mod_eq_of_lt h

theorem State.swp_takeSource (h : s.sys.swNext = none) : (s.takeSource k).bit Reg.SYS_CLKSTAT 18 = false := by
  refine (State.swp_setSwitch _ _ _).trans ?_
  rw [h]
  rfl

end TakeSource

/-! ## A write of SYS_CLKCTL (R259) -/

theorem getLsbD_clkctlMask : ∀ i, i < 24 → (0xFFC000#24).getLsbD i = decide (14 ≤ i) := by decide

theorem State.getLsbD_clkctlAfter (s : State) (v : Word) {i : Nat} (hi : i < 24) :
    (s.clkctlAfter v).getLsbD i =
      let old := s.reg Reg.SYS_CLKCTL
      if i = 23 then v.getLsbD 23 || (old.getLsbD 23 && (old.getLsbD 21 || old.getLsbD 20 || s.cur == 1))
      else if i = 21 then v.getLsbD 21 || (old.getLsbD 21 && s.cur == 2)
      else if i = 18 ∨ i = 19 then (if v.toNat / 2 ^ 18 % 4 = 3 then old.getLsbD i else v.getLsbD i)
      else decide (14 ≤ i) && v.getLsbD i := by
  have hcsrc : fieldOf v 18 2 = v.toNat / 2 ^ 18 % 4 := congrArg (· % 4) (Nat.shiftRight_eq_div_pow _ 18)
  have hw (j : Nat) (hj : j < 24) :
      ((if fieldOf v 18 2 = 3 then withField v 18 2 (fieldOf (s.reg Reg.SYS_CLKCTL) 18 2) else v) &&& 0xFFC000#24).getLsbD j =
        (decide (14 ≤ j) && if (j = 18 ∨ j = 19) ∧ v.toNat / 2 ^ 18 % 4 = 3 then (s.reg Reg.SYS_CLKCTL).getLsbD j else v.getLsbD j) := by
    rw [BitVec.getLsbD_and, getLsbD_clkctlMask j hj, Bool.and_comm, hcsrc]
    by_cases hc : v.toNat / 2 ^ 18 % 4 = 3
    · rw [if_pos hc, getLsbD_withField _ _ _ _ hj, testBit_fieldOf]
      by_cases hf : j = 18 ∨ j = 19
      · have h1 : 18 ≤ j ∧ j < 18 + 2 := by omega
        have h2 : j - 18 < 2 := by omega
        have h3 : 18 + (j - 18) = j := by omega
        simp only [h1, h2, h3, hf, hc, and_self, if_true, decide_true, Bool.true_and]
      · have h1 : ¬ (18 ≤ j ∧ j < 18 + 2) := by omega
        simp only [h1, hf, false_and, if_false]
    · simp only [hc, and_false, if_false]
  simp only [State.clkctlAfter]
  rw [getLsbD_withBit _ _ _ _ hi, getLsbD_withBit _ _ _ _ hi, hw i hi, hw 23 (by decide), hw 21 (by decide)]
  by_cases h21 : i = 21
  · simp [h21]
  · by_cases h23 : i = 23
    · simp [h23]
    · by_cases hf : i = 18 ∨ i = 19
      · have h14 : 14 ≤ i := by omega
        simp [h21, h23, hf, h14]
      · simp [h21, h23, hf]

/-- What dropSources does: without the time-base PLL it ends a measurement, then the status bits of the three sources and their failures follow. -/
theorem State.dropSources_cases (s : State) :
    ∃ u, (u = s ∨ (u = s.abandonCal ∧ s.bit Reg.SYS_CLKCTL 20 = false)) ∧ ∃ x y z,
      s.dropSources.regs = (((u.setBit Reg.SYS_CLKSTAT 23 x).setBit Reg.SYS_CLKSTAT 22 y).setBit Reg.SYS_CLKSTAT 21 z).regs
        ∧ ∃ r p q, s.dropSources.sys = { s.sys with refFail := r, splFail := p, tplFail := q } := by
  unfold State.dropSources
  by_cases h : s.bit Reg.SYS_CLKCTL 20 = true
  · simp only [h, if_true]
    exact ⟨s, .inl rfl, _, _, _, rfl, _, _, _, rfl⟩
  · simp only [h]
    exact ⟨s.abandonCal, .inr ⟨rfl, trivial⟩, _, _, _, rfl, _, _, _, rfl⟩

theorem State.reg_dropSources (s : State) {a : Nat} (hs : a ≠ Reg.SYS_CLKSTAT) (hc : a ≠ Reg.TB_RTCCAL ∨ s.bit Reg.SYS_CLKCTL 20 = true) :
    s.dropSources.reg a = s.reg a := by
  obtain ⟨u, hu, x, y, z, he, -⟩ := s.dropSources_cases
  have hset : s.dropSources.reg a = u.reg a := by
    rw [State.reg_of_regs he, State.reg_setBit_ne _ _ _ hs, State.reg_setBit_ne _ _ _ hs, State.reg_setBit_ne _ _ _ hs]
  rcases hu with rfl | ⟨rfl, h20⟩
  · exact hset
  · exact hset.trans (s.reg_setBit_ne 23 false (hc.resolve_right (ne_true_of_eq_false h20)))

theorem State.keepsBits_dropSources (s : State) : s.KeepsBits s.dropSources Reg.SYS_CLKSTAT [23, 22, 21] := by
  obtain ⟨u, hu, x, y, z, he, -⟩ := s.dropSources_cases
  have hcal : s.KeepsBits u Reg.SYS_CLKSTAT [] := by
    refine State.keepsBits_of_reg ?_
    rcases hu with rfl | ⟨rfl, -⟩
    · rfl
    · exact s.reg_setBit_ne 23 false (by decide)
  have hset : s.KeepsBits (((u.setBit Reg.SYS_CLKSTAT 23 x).setBit Reg.SYS_CLKSTAT 22 y).setBit Reg.SYS_CLKSTAT 21 z) Reg.SYS_CLKSTAT [23, 22, 21] :=
    ((hcal.trans (u.keepsBits_setBit _ _ _)).trans (State.keepsBits_setBit _ _ _ _)).trans (State.keepsBits_setBit _ _ _ _)
  exact hset.of_regs he

/-- SYS_CLKCTL takes what a write leaves in it, and the sources that it disables stop: the write before its switch of CCLK. -/
def State.setSources (s : State) (v : Word) : State := (s.setReg Reg.SYS_CLKCTL (s.clkctlAfter v)).dropSources

section SetSources
variable (s : State) (v : Word)

theorem State.clkctl_setSources : (s.setSources v).reg Reg.SYS_CLKCTL = s.clkctlAfter v := by
  rw [State.setSources, State.reg_dropSources _ (by decide) (.inl (by decide)), State.reg_setReg, if_pos rfl]

theorem State.reg_setSources {a : Nat} (h : a ≠ Reg.SYS_CLKCTL) (hs : a ≠ Reg.SYS_CLKSTAT) (hc : a ≠ Reg.TB_RTCCAL ∨ v.getLsbD 20 = true) :
    (s.setSources v).reg a = s.reg a := by
  have h20 : (s.setReg Reg.SYS_CLKCTL (s.clkctlAfter v)).bit Reg.SYS_CLKCTL 20 = v.getLsbD 20 := by
    rw [State.bit_setReg_same, s.getLsbD_clkctlAfter v (by decide)]
    rfl
  rw [State.setSources, State.reg_dropSources _ hs (by rwa [h20]), State.reg_setReg_ne _ _ h]

theorem State.keepsBits_setSources : s.KeepsBits (s.setSources v) Reg.SYS_CLKSTAT [23, 22, 21] :=
  (State.keepsBits_of_reg (l := []) (s.reg_setReg_ne _ (by decide))).trans (State.keepsBits_dropSources _)

theorem State.sys_setSources : ∃ r p q, (s.setSources v).sys = { s.sys with refFail := r, splFail := p, tplFail := q } :=
  have ⟨_, _, _, _, _, _, h⟩ := (s.setReg Reg.SYS_CLKCTL (s.clkctlAfter v)).dropSources_cases
  h

end SetSources

/-- What a write of SYS_CLKCTL does: beside what setSources does, during a forced switch it is remembered (assumption 105), and otherwise it begins or
ends a switch. -/
theorem State.wrClkctl_cases (s : State) (v : Word) :
    let t := s.setSources v
    let k := t.fld Reg.SYS_CLKCTL 18 2
    (s.sys.swForced = true ∧ s.wrClkctl v = { t with sys := { t.sys with swNext := some k } })
      ∨ (s.sys.swForced = false ∧ s.wrClkctl v = t.setSwitch (if k = s.cur then none else some k) false) := by
  intro t k
  have hf : t.sys.swForced = s.sys.swForced := by
    obtain ⟨_, _, _, h⟩ := s.sys_setSources v
    rw [h]
  have hw : s.wrClkctl v = if t.sys.swForced then { t with sys := { t.sys with swNext := some k } }
    else if k = s.cur then t.setSwitch none false else t.setSwitch (some k) false := rfl
  rw [hw, hf]
  cases s.sys.swForced
  · refine .inr ⟨rfl, ?_⟩
    by_cases hk : k = s.cur <;> simp [hk]
  · exact .inl ⟨rfl, rfl⟩

/-! ## A source that is stable again (R260, R268, R269) -/

/-- What the return of the source that CCLK has left does: A0 and A1 may issue again, and CCLK may begin to switch; memory and failures stay. -/
theorem State.cclkReturns_cases (s : State) : ∃ t : State, t.regs = s.regs ∧ t.mem = s.mem ∧ (∀ k, t.isFailed k = s.isFailed k)
    ∧ (s.cclkReturns = t ∨ ∃ k, s.cclkReturns = t.setSwitch (some k) false) := by
  have hwoken : ∃ u : State, u = (if s.asleep then s else s.wakeApps) ∧ u.regs = s.regs ∧ u.mem = s.mem ∧ u.sys = s.sys := by
    cases s.asleep
    · exact ⟨s.wakeApps, rfl, rfl, rfl, rfl⟩
    · exact ⟨s, rfl, rfl, rfl, rfl⟩
  obtain ⟨u, hu, hregs, hmem, hsys⟩ := hwoken
  have hfail (n : Option Nat) (k : Nat) : ({ u with sys := { u.sys with away := none, swNext := n } } : State).isFailed k = s.isFailed k := by
    simp only [State.isFailed, hsys]
  unfold State.cclkReturns
  dsimp only
  rw [← hu]
  split
  · exact ⟨s, rfl, rfl, fun _ => rfl, .inl rfl⟩
  · next k _ =>
    split
    · split
      · split
        · exact ⟨{ u with sys := { u.sys with away := none, swNext := some k } }, hregs, hmem, hfail _, .inl rfl⟩
        · exact ⟨{ u with sys := { u.sys with away := none } }, hregs, hmem, hfail _, .inr ⟨k, rfl⟩⟩
      · exact ⟨{ u with sys := { u.sys with away := none } }, hregs, hmem, hfail _, .inl rfl⟩
    · exact ⟨s, rfl, rfl, fun _ => rfl, .inl rfl⟩

section CclkReturns
variable (s : State)

theorem State.cclkReturns_mem : s.cclkReturns.mem = s.mem := by
  obtain ⟨t, -, hmem, -, he | ⟨k, he⟩⟩ := s.cclkReturns_cases <;> rw [he]
  · exact hmem
  · exact hmem

theorem State.isFailed_cclkReturns (j : Nat) : s.cclkReturns.isFailed j = s.isFailed j := by
  obtain ⟨t, -, -, hfail, he | ⟨k, he⟩⟩ := s.cclkReturns_cases <;> rw [he]
  · exact hfail j
  · exact hfail j

theorem State.reg_cclkReturns_ne {a : Nat} (h : a ≠ Reg.SYS_CLKSTAT) : s.cclkReturns.reg a = s.reg a := by
  obtain ⟨t, hregs, -, -, he | ⟨k, he⟩⟩ := s.cclkReturns_cases <;> rw [he]
  · exact State.reg_of_regs hregs
  · exact (t.reg_setSwitch_ne _ _ h).trans (State.reg_of_regs hregs)

theorem State.keepsBits_cclkReturns : s.KeepsBits s.cclkReturns Reg.SYS_CLKSTAT [18] := by
  obtain ⟨t, hregs, -, -, he | ⟨k, he⟩⟩ := s.cclkReturns_cases <;> rw [he]
  · exact State.keepsBits_of_reg (State.reg_of_regs hregs)
  · exact (State.keepsBits_of_reg (l := []) (State.reg_of_regs hregs)).trans (t.keepsBits_setSwitch _ _)

end CclkReturns

/-- A source shown as stable: the status bit sets, beside it only swp may change, and CCLK and memory stay. -/
theorem State.shownStable (s : State) {i : Nat} (hi : i ∈ [21, 22, 23]) :
    let t := (s.setBit Reg.SYS_CLKSTAT i true).cclkReturns
    t.bit Reg.SYS_CLKSTAT i = true ∧ s.KeepsRegs t [Reg.SYS_CLKSTAT] ∧ t.cur = s.cur ∧ t.mem = s.mem := by
  have hb : i < 24 ∧ i ∉ [18] ∧ ∀ j, j < 2 → 19 + j ∉ [i] ++ [18] := by revert i; decide
  obtain ⟨h24, h18, hcur⟩ := hb
  refine ⟨?_, fun a ha => ?_, ?_, State.cclkReturns_mem _⟩
  · rw [State.keepsBits_cclkReturns _ i h24 h18, State.bit_setBit_same _ _ _ _ h24]
  · have hne := mt List.mem_singleton.mpr ha
    rw [State.reg_cclkReturns_ne _ hne, State.reg_setBit_ne _ _ _ hne]
  · exact ((s.keepsBits_setBit _ i true).trans (State.keepsBits_cclkReturns _)).cur hcur

/-! ## Gates (R264) -/

theorem State.gateOpen_of_gateOf (s : State) {a b : Nat} (h : gateOf a = gateOf b) : s.gateOpen a = s.gateOpen b := by
  simp only [State.gateOpen, h]

theorem State.onBus_awake {s : State} (ha : s.asleep = false) (f : State → State) : s.onBus f = f s := by
  simp only [State.onBus, ha, Bool.false_eq_true, if_false]

/-- A register command of a block whose gate is closed ends with a bus error alone; b is an address of the same block. -/
theorem gate_bars {s : State} {i : Instr} {a b : Nat} {f : State → State} (ha : s.asleep = false) (hi : exec i s = .next (s.onBlock a f))
    (hb : gateOf a = gateOf b) (hg : s.gateOpen b = false) : Answers i s fun t => t = s.noteBus true := by
  refine ⟨_, hi, ?_⟩
  simp only [State.onBlock, ha, s.gateOpen_of_gateOf hb, hg, Bool.false_eq_true, if_false]

theorem State.busError_keeps (s : State) (m : Master) (a : Word) :
    (s.busError m a).sys.busErr = true ∧ (s.busError m a).regs = s.regs ∧ (s.busError m a).mem = s.mem := by
  unfold State.busError
  dsimp only
  split
  · exact ⟨congrArg SysState.busErr (State.setCore_sys _ _ _), State.setCore_regs _ _ _, State.setCore_mem _ _ _⟩
  · exact ⟨rfl, rfl, rfl⟩

theorem State.core_noteBus (s : State) (e : Bool) (c : CoreId) : (s.noteBus e).core c = s.core c := by cases c <;> rfl

theorem State.core_busError (s : State) {m : Master} (a : Word) {c : CoreId} (hm : Master.core? m = some c) (hf : (s.core c).fault = none) :
    ((s.busError m a).core c).fault = some { code := 5, efa := a, eia := (s.core c).pc } := by
  unfold State.busError
  simp only [hm, State.postFault, State.core_setCore]
  rw [show ({ s with sys := { s.sys with busErr := true } } : State).core c = s.core c from s.core_noteBus true c, hf]

theorem State.core_busError_ne (s : State) {m : Master} (a : Word) {c : CoreId} (hm : Master.core? m ≠ some c) :
    (s.busError m a).core c = s.core c := by
  unfold State.busError
  dsimp only
  split
  · next d hd => exact (State.core_setCore_ne _ _ _ _ fun e => hm (hd.trans (congrArg some e.symm))).trans (s.core_noteBus true c)
  · exact s.core_noteBus true c

/-! ## The forced OFF of the front end (R60, R267) -/

/-- A raised source changes, beside registers, the released members of coalescing units alone. -/
theorem State.raise_frame (s : State) (n : Nat) : ∃ r l, s.raise n = { s with regs := r, intc := { s.intc with released := l } } := by
  unfold State.raise
  dsimp only
  split
  · exact ⟨_, _, rfl⟩
  · split
    · rw [State.countUnit_eq]
      exact ⟨_, _, rfl⟩
    · rw [State.countUnit_eq]
      split <;> exact ⟨_, _, rfl⟩

theorem State.setRegs_frame (s : State) (a : Nat) (ws : List Word) : ∃ r, s.setRegs a ws = { s with regs := r } := by
  induction ws generalizing s a with
  | nil => exact ⟨_, rfl⟩
  | cons w ws ih => exact ih (s.setReg a w) (a + 1)

theorem State.reg_setRegs (s : State) (a : Nat) (ws : List Word) {b : Nat} (h : b < a ∨ a + ws.length ≤ b) : (s.setRegs a ws).reg b = s.reg b := by
  induction ws generalizing s a with
  | nil => rfl
  | cons w ws ih =>
    have hl : (w :: ws).length = ws.length + 1 := rfl
    exact (ih (s.setReg a w) (a + 1) (by omega)).trans (s.reg_setReg_ne w (by omega))

/-- The registers in which the end of a transmission shows (R72, R107). -/
def txEndRegs : List Nat := [Reg.RFE_TXSTAT, Reg.RFE_DUTYUSED, Reg.PHY_TXTS 0, Reg.PHY_TXTS 1, Reg.PHY_TXTS 2, Reg.PHY_TXTSF]

theorem State.endTx_frame (s : State) (status : Nat) (ramp : Bool) : ∃ r f, s.endTx status ramp = { s with regs := r, rfe := f } := by
  unfold State.endTx
  split
  · exact ⟨_, _, rfl⟩
  · next t _ =>
    have hlatch (u : State) (w : Bool) : ∃ r, u.latchSync t w = { u with regs := r } := by
      unfold State.latchSync
      split
      · obtain ⟨r, h⟩ := u.setRegs_frame (Reg.PHY_TXTS 0) (toWords 3 (t.sync / 8))
        rw [State.latchTx, h]
        exact ⟨_, rfl⟩
      · exact ⟨_, rfl⟩
    dsimp only
    obtain ⟨r, h⟩ := hlatch (s.txStatus status) (status == 1)
    rw [h]
    exact ⟨_, _, rfl⟩

theorem State.reg_endTx (s : State) (status : Nat) (ramp : Bool) {a : Nat} (h : a ∉ txEndRegs) : (s.endTx status ramp).reg a = s.reg a := by
  simp only [txEndRegs, List.mem_cons, List.not_mem_nil, or_false, not_or] at h
  obtain ⟨hstat, hduty, hts0, hts1, hts2, hfrac⟩ := h
  unfold State.endTx
  split
  · rfl
  · next t _ =>
    have hlatch (u : State) (w : Bool) : (u.latchSync t w).reg a = u.reg a := by
      unfold State.latchSync
      split
      · have hout : a < Reg.PHY_TXTS 0 ∨ Reg.PHY_TXTS 0 + (toWords 3 (t.sync / 8)).length ≤ a := by
          have hl : (toWords 3 (t.sync / 8)).length = 3 := rfl
          rw [hl]
          simp only [Reg.PHY_TXTS] at hts0 hts1 hts2 ⊢
          omega
        rw [State.latchTx, State.reg_setReg_ne _ _ hfrac, State.reg_setRegs _ _ _ hout]
      · rfl
    rw [State.countAir, State.syncDuty, State.reg_setReg_ne _ _ hduty]
    show ((s.txStatus status).latchSync t (status == 1)).reg a = s.reg a
    rw [hlatch, State.txStatus, State.reg_setFld_ne _ _ _ _ hstat]

/-- Where nothing is being received, no reception ends. -/
theorem State.dropRx_idle {s : State} (h : s.phy.rx = []) (p : PhyRx → Bool) : s.dropRx p = s := by
  unfold State.dropRx
  simp only [h, List.filter_nil, List.foldl_nil]
  rw [← h]

section DirectEnd
variable {s : State} (h : s.phy.rx = []) (status : Nat)
include h

theorem State.directEnd_idle : ∃ f p, s.directEnd status =
    ((({ s with rfe := f, phy := p } : State).setBit Reg.RFE_DSTAT 23 false).setFld Reg.RFE_DSTAT 0 8 status).raise 58 := by
  unfold State.directEnd
  rw [State.dropRx_idle (by exact h)]
  exact ⟨_, _, rfl⟩

theorem State.directEnd_frame : ∃ r l f p, s.directEnd status = { s with regs := r, intc := { s.intc with released := l }, rfe := f, phy := p } := by
  obtain ⟨f, p, he⟩ := s.directEnd_idle h status
  obtain ⟨r, l, hr⟩ := State.raise_frame ((({ s with rfe := f, phy := p } : State).setBit Reg.RFE_DSTAT 23 false).setFld Reg.RFE_DSTAT 0 8 status) 58
  rw [he, hr]
  exact ⟨_, _, _, _, rfl⟩

theorem State.reg_directEnd {a : Nat} (ha : a ∉ Reg.RFE_DSTAT :: sourceRegs 58) : (s.directEnd status).reg a = s.reg a := by
  obtain ⟨hd, hs⟩ := not_or.mp (mt List.mem_cons.mpr ha)
  obtain ⟨f, p, he⟩ := s.directEnd_idle h status
  rw [he, State.reg_raise _ 58 hs, State.reg_setFld_ne _ _ _ _ hd, State.reg_setBit_ne _ _ _ hd]
  rfl

end DirectEnd

/-- Both paths go to OFF with their locks, and what the front end runs stops: rfeOff between the end of a transmission and that of an open direct
command. -/
def State.pathsOff (s : State) : State :=
  let u := (((s.setPath false 0).setPath true 0).setBit Reg.RFE_SYSTAT 21 false).setBit Reg.RFE_SYSTAT 23 false
  { u with rfe := { u.rfe with bias0 := false, bias1 := false, tune0 := none, tune1 := none, step := none } }

section PathsOff
variable (s : State)

theorem State.pathsOff_frame : ∃ r f, s.pathsOff = { s with regs := r, rfe := f } := by
  simp only [State.pathsOff, State.setPath, State.setFld, State.setBit, State.setReg]
  exact ⟨_, _, rfl⟩

theorem State.regs_pathsOff :
    s.pathsOff.regs = ((((s.setPath false 0).setPath true 0).setBit Reg.RFE_SYSTAT 21 false).setBit Reg.RFE_SYSTAT 23 false).regs := rfl

theorem State.reg_pathsOff {a : Nat} (hs : a ≠ Reg.RFE_STAT) (hy : a ≠ Reg.RFE_SYSTAT) : s.pathsOff.reg a = s.reg a := by
  rw [State.reg_of_regs s.regs_pathsOff, State.reg_setBit_ne _ _ _ hy, State.reg_setBit_ne _ _ _ hy, State.setPath,
    State.reg_setFld_ne _ _ _ _ hs, State.setPath, State.reg_setFld_ne _ _ _ _ hs]

theorem State.path_pathsOff (p1 : Bool) : s.pathsOff.path p1 = 0 := by
  have hstat : s.pathsOff.reg Reg.RFE_STAT = ((s.setPath false 0).setPath true 0).reg Reg.RFE_STAT := by
    rw [State.reg_of_regs s.regs_pathsOff, State.reg_setBit_ne _ _ _ (by decide), State.reg_setBit_ne _ _ _ (by decide)]
  rw [State.path, State.fld_of_reg hstat]
  cases p1
  · rw [State.setPath, (State.keepsBits_setFld _ _ _ _ _).fld _ _ (by decide) (by decide), State.setPath,
      State.fld_setFld_same _ _ _ _ _ (by decide), Nat.zero_mod]
  · rw [State.setPath, State.fld_setFld_same _ _ _ _ _ (by decide), Nat.zero_mod]

end PathsOff

/-- The registers that the forced OFF touches. -/
def forcedOffRegs : List Nat := [Reg.RFE_STAT, Reg.RFE_SYSTAT] ++ txEndRegs ++ (Reg.RFE_DSTAT :: sourceRegs 58) ++ sourceRegs 60

/-- Before the end of an open direct command the paths are OFF, and nothing but registers and the front end has changed. -/
theorem State.ended_pathsOff_frame (s : State) (ramp : Bool) : ∃ r f, (s.endTx 2 ramp).pathsOff = { s with regs := r, rfe := f } := by
  obtain ⟨_, _, he⟩ := s.endTx_frame 2 ramp
  obtain ⟨_, _, hp⟩ := (s.endTx 2 ramp).pathsOff_frame
  rw [hp, he]
  exact ⟨_, _, rfl⟩

theorem State.regs_rfeForcedOff (s : State) : s.rfeForcedOff.regs =
    ((((s.rfeOff false).flagRaise Reg.RFE_STAT 2 60).setBit Reg.RFE_SYSTAT 20 false).setBit Reg.RFE_SYSTAT 22 false).regs := rfl

section ForcedOff
variable {s : State} (hrx : s.phy.rx = []) (hop : s.slot.op = none)
include hrx hop

/-- rfeOff is the end of a transmission, the paths' OFF and the end of an open direct command. -/
theorem State.rfeOff_idle (ramp : Bool) :
    s.rfeOff ramp = (s.endTx 2 ramp).pathsOff ∨ s.rfeOff ramp = (s.endTx 2 ramp).pathsOff.directEnd 2 := by
  obtain ⟨_, _, he⟩ := s.endTx_frame 2 ramp
  obtain ⟨_, _, hp⟩ := s.ended_pathsOff_frame ramp
  have hcut (u : State) (hu : u.slot.op = none) : u.cutSlot = u := by
    unfold State.cutSlot
    rw [hu]
  have hoff : s.rfeOff ramp =
      (if (s.endTx 2 ramp).pathsOff.rfe.direct.isSome then (s.endTx 2 ramp).pathsOff.directEnd 2 else (s.endTx 2 ramp).pathsOff).cutSlot := by
    unfold State.rfeOff
    dsimp only
    rw [State.dropRx_idle (by rw [he]; exact hrx)]
    rfl
  rw [hoff]
  split
  · right
    obtain ⟨_, _, _, _, hd⟩ := State.directEnd_frame (s := (s.endTx 2 ramp).pathsOff) (by rw [hp]; exact hrx) 2
    exact hcut _ (by rw [hd, hp]; exact hop)
  · left
    exact hcut _ (by rw [hp]; exact hop)

/-- The forced OFF changes registers, released members of coalescing units, the front end and the physical layer alone. -/
theorem State.rfeForcedOff_frame : ∃ r l f p, s.rfeForcedOff = { s with regs := r, intc := { s.intc with released := l }, rfe := f, phy := p } := by
  have hoff : ∃ r l f p, s.rfeOff false = { s with regs := r, intc := { s.intc with released := l }, rfe := f, phy := p } := by
    obtain ⟨_, _, hp⟩ := s.ended_pathsOff_frame false
    rcases State.rfeOff_idle hrx hop false with h | h
    · rw [h, hp]
      exact ⟨_, _, _, _, rfl⟩
    · obtain ⟨_, _, _, _, hd⟩ := State.directEnd_frame (s := (s.endTx 2 false).pathsOff) (by rw [hp]; exact hrx) 2
      rw [h, hd, hp]
      exact ⟨_, _, _, _, rfl⟩
  obtain ⟨_, _, _, _, ho⟩ := hoff
  obtain ⟨_, _, hr⟩ := ((s.rfeOff false).setBit Reg.RFE_STAT 2 true).raise_frame 60
  unfold State.rfeForcedOff State.flagRaise
  rw [hr, ho]
  exact ⟨_, _, _, _, rfl⟩

/-- Beyond the paths' OFF, rfeOff touches the registers of a direct command's end alone. -/
theorem State.reg_rfeOff {a : Nat} (hd : a ∉ Reg.RFE_DSTAT :: sourceRegs 58) : (s.rfeOff false).reg a = (s.endTx 2 false).pathsOff.reg a := by
  obtain ⟨_, _, hp⟩ := s.ended_pathsOff_frame false
  rcases State.rfeOff_idle hrx hop false with h | h
  · rw [h]
  · rw [h, State.reg_directEnd (by rw [hp]; exact hrx) 2 hd]

theorem State.reg_rfeForcedOff {a : Nat} (h : a ∉ forcedOffRegs) : s.rfeForcedOff.reg a = s.reg a := by
  simp only [forcedOffRegs, List.mem_append, List.mem_cons (a := a) (b := Reg.RFE_STAT), List.mem_singleton, not_or] at h
  obtain ⟨⟨⟨⟨hs, hy⟩, ht⟩, hd⟩, h60⟩ := h
  rw [State.reg_of_regs s.regs_rfeForcedOff, State.reg_setBit_ne _ _ _ hy, State.reg_setBit_ne _ _ _ hy, State.flagRaise, State.reg_raise _ 60 h60,
    State.reg_setBit_ne _ _ _ hs, State.reg_rfeOff hrx hop hd, State.reg_pathsOff _ hs hy, State.reg_endTx _ _ _ ht]

/-- After the forced OFF both paths are OFF and RFE_STAT shows it as forced. -/
theorem State.rfeForcedOff_shown : s.rfeForcedOff.path false = 0 ∧ s.rfeForcedOff.path true = 0 ∧ s.rfeForcedOff.bit Reg.RFE_STAT 2 = true := by
  have hstat : s.rfeForcedOff.reg Reg.RFE_STAT = ((s.rfeOff false).setBit Reg.RFE_STAT 2 true).reg Reg.RFE_STAT := by
    rw [State.reg_of_regs s.regs_rfeForcedOff, State.reg_setBit_ne _ _ _ (by decide), State.reg_setBit_ne _ _ _ (by decide), State.flagRaise,
      State.reg_raise _ 60 (by decide)]
  have hoff (p1 : Bool) : (s.rfeOff false).path p1 = 0 := by
    rw [State.path, State.fld_of_reg (State.reg_rfeOff hrx hop (by decide))]
    exact State.path_pathsOff _ p1
  have hpath (p1 : Bool) : s.rfeForcedOff.path p1 = 0 := by
    rw [State.path, State.fld_of_reg hstat, (State.keepsBits_setBit _ _ _ _).fld _ _ (by cases p1 <;> decide) (by cases p1 <;> decide)]
    exact hoff p1
  exact ⟨hpath false, hpath true, (State.bit_of_reg hstat 2).trans (State.bit_setBit_same _ _ _ _ (by decide))⟩

/-- The safe state that a failure forces: the front end OFF, and of the rest the pads' record and SYS_CLKSTAT.safe. -/
theorem State.forceSafe_frame : ∃ r l f p g, s.forceSafe =
    { s with regs := r, intc := { s.intc with released := l }, rfe := f, phy := p, gpio := g } := by
  obtain ⟨_, _, _, _, h⟩ := State.rfeForcedOff_frame (s := s.keepPads.setBit Reg.SYS_CLKSTAT 17 true) hrx hop
  rw [State.forceSafe, h]
  exact ⟨_, _, _, _, _, rfl⟩

theorem State.reg_forceSafe {a : Nat} (hs : a ≠ Reg.SYS_CLKSTAT) (h : a ∉ forcedOffRegs) : s.forceSafe.reg a = s.reg a :=
  (State.reg_rfeForcedOff (s := s.keepPads.setBit Reg.SYS_CLKSTAT 17 true) hrx hop h).trans (s.keepPads.reg_setBit_ne 17 true hs)

theorem State.clkstat_forceSafe : s.forceSafe.reg Reg.SYS_CLKSTAT = (s.setBit Reg.SYS_CLKSTAT 17 true).reg Reg.SYS_CLKSTAT :=
  State.reg_rfeForcedOff (s := s.keepPads.setBit Reg.SYS_CLKSTAT 17 true) hrx hop (by decide)

theorem State.forceSafe_shown : s.forceSafe.bit Reg.SYS_CLKSTAT 17 = true ∧ s.forceSafe.path false = 0 ∧ s.forceSafe.path true = 0
    ∧ s.forceSafe.bit Reg.RFE_STAT 2 = true :=
  ⟨(State.bit_of_reg (State.clkstat_forceSafe hrx hop) 17).trans (State.bit_setBit_same _ _ _ _ (by decide)),
    State.rfeForcedOff_shown (s := s.keepPads.setBit Reg.SYS_CLKSTAT 17 true) hrx hop⟩

end ForcedOff

/-! ## The flags of a failure (R266, R268) -/

/-- A clock is failed, and SYS_CLKSTAT shows it. -/
def State.ShowsFailed (s : State) (k : Nat) : Prop := s.isFailed k = true ∧ s.bit Reg.SYS_CLKSTAT k = true

/-- The reference, the system PLL, the time-base PLL and the 32 kHz clock. -/
theorem clock_cases {k : Nat} (hk : k < 4) : k = 0 ∨ k = 1 ∨ k = 2 ∨ k = 3 := by omega

theorem State.markFailed_frame (s : State) (k : Nat) : ∃ r w x y z, s.markFailed k =
    { s with regs := r, sys := { s.sys with refFail := w, splFail := x, tplFail := y, x32Fail := z } } := by
  unfold State.markFailed
  dsimp only
  split <;> exact ⟨_, _, _, _, _, rfl⟩

/-- The failure bits lie apart from the bits that show a clock as good. -/
theorem failBits_apart : ∀ k, k < 4 → ∀ i ∈ [16, 21, 22, 23], k ∉ [i] ∧ [k] ++ [i] ⊆ [0, 1, 2, 3, 16, 21, 22, 23] := by decide

section MarkFailed
variable (s : State) {k : Nat} (hk : k < 4)
include hk

/-- Of SYS_CLKSTAT a failure sets the clock's failure bit and clears the one that showed it as good. -/
theorem State.regs_markFailed : ∃ i ∈ [16, 21, 22, 23],
    (s.markFailed k).regs = ((s.setBit Reg.SYS_CLKSTAT k true).setBit Reg.SYS_CLKSTAT i false).regs := by
  obtain rfl | rfl | rfl | rfl := clock_cases hk
  · exact ⟨23, by decide, rfl⟩
  · exact ⟨22, by decide, rfl⟩
  · exact ⟨21, by decide, rfl⟩
  · exact ⟨16, by decide, rfl⟩

theorem State.isFailed_markFailed {j : Nat} (hj : j < 4) : (s.markFailed k).isFailed j = (decide (j = k) || s.isFailed j) := by
  obtain rfl | rfl | rfl | rfl := clock_cases hk <;> obtain rfl | rfl | rfl | rfl := clock_cases hj <;> rfl

theorem State.keepsBits_markFailed : s.KeepsBits (s.markFailed k) Reg.SYS_CLKSTAT [0, 1, 2, 3, 16, 21, 22, 23] := by
  obtain ⟨i, hi, he⟩ := s.regs_markFailed hk
  refine (((s.keepsBits_setBit _ k true).trans (State.keepsBits_setBit _ _ i false)).of_regs he).mono (failBits_apart k hk i hi).2

theorem State.markFailed_shows : (s.markFailed k).ShowsFailed k := by
  obtain ⟨i, hi, he⟩ := s.regs_markFailed hk
  refine ⟨by rw [s.isFailed_markFailed hk hk, decide_eq_true rfl, Bool.true_or], ?_⟩
  rw [State.bit_of_reg (State.reg_of_regs he), (State.keepsBits_setBit _ _ _ _) k (by omega) (failBits_apart k hk i hi).1,
    State.bit_setBit_same _ _ _ _ (by omega)]

theorem State.ShowsFailed.markFailed {s : State} {j : Nat} (hj : j < 4) (h : s.ShowsFailed j) : (s.markFailed k).ShowsFailed j := by
  obtain ⟨hf, hb⟩ := h
  by_cases e : j = k
  · exact e ▸ s.markFailed_shows (e ▸ hj)
  · obtain ⟨i, hi, he⟩ := s.regs_markFailed hk
    refine ⟨by rw [s.isFailed_markFailed hk hj, hf, Bool.or_true], ?_⟩
    rw [State.bit_of_reg (State.reg_of_regs he), (State.keepsBits_setBit _ _ _ _) j (by omega) (failBits_apart j hj i hi).1,
      (State.keepsBits_setBit _ _ _ _) j (by omega) (by simpa using e), hb]

end MarkFailed

/-- Several clocks fail together: frame, flags and bits as for one. -/
theorem State.markFaileds_frame (s : State) (ks : List Nat) : ∃ r w x y z, ks.foldl State.markFailed s =
    { s with regs := r, sys := { s.sys with refFail := w, splFail := x, tplFail := y, x32Fail := z } } := by
  induction ks generalizing s with
  | nil => exact ⟨_, _, _, _, _, rfl⟩
  | cons k ks ih =>
    obtain ⟨_, _, _, _, _, h⟩ := ih (s.markFailed k)
    obtain ⟨_, _, _, _, _, hk⟩ := s.markFailed_frame k
    rw [List.foldl_cons, h, hk]
    exact ⟨_, _, _, _, _, rfl⟩

section MarkFaileds
variable {ks : List Nat} (hks : ∀ k ∈ ks, k < 4)
include hks

theorem State.markFaileds_keepsBits (s : State) : s.KeepsBits (ks.foldl State.markFailed s) Reg.SYS_CLKSTAT [0, 1, 2, 3, 16, 21, 22, 23] := by
  induction ks generalizing s with
  | nil => exact fun _ _ _ => rfl
  | cons k ks ih =>
    obtain ⟨hk, hrest⟩ := List.forall_mem_cons.mp hks
    exact ((s.keepsBits_markFailed hk).trans (ih hrest (s.markFailed k))).mono (by decide)

theorem State.markFaileds_shows (s : State) {j : Nat} (hj : j < 4) (h : j ∈ ks ∨ s.ShowsFailed j) : (ks.foldl State.markFailed s).ShowsFailed j := by
  induction ks generalizing s with
  | nil => exact h.resolve_left (List.not_mem_nil)
  | cons k ks ih =>
    obtain ⟨hk, hrest⟩ := List.forall_mem_cons.mp hks
    refine ih hrest (s.markFailed k) ?_
    rcases h with h | h
    · rcases List.mem_cons.mp h with rfl | h
      · exact .inr (s.markFailed_shows hj)
      · exact .inl h
    · exact .inr (h.markFailed hk hj)

end MarkFaileds

section LogRequests
variable (code origin : Nat) (d1 d2 : Word)

theorem State.logRequest_frame (s : State) : ∃ r c, s.logRequest code origin d1 d2 = { s with regs := r, cs := c } := by
  unfold State.logRequest
  split
  · exact ⟨_, _, rfl⟩
  · unfold State.countReg
    dsimp only
    split <;> exact ⟨_, _, rfl⟩

theorem State.reg_logRequest (s : State) {a : Nat} (hs : a ≠ Reg.CS_STAT) (hl : a ≠ Reg.CS_LOST) :
    (s.logRequest code origin d1 d2).reg a = s.reg a := by
  unfold State.logRequest
  split
  · exact State.reg_setFld_ne _ _ _ _ hs
  · refine (State.reg_setBit_ne _ _ _ hs).trans ?_
    unfold State.countReg
    split
    · rfl
    · exact State.reg_setReg_ne _ _ hl

variable {α : Type} (ks : List α)

theorem State.logRequests_frame (s : State) : ∃ r c, ks.foldl (fun t _ => t.logRequest code origin d1 d2) s = { s with regs := r, cs := c } := by
  induction ks generalizing s with
  | nil => exact ⟨_, _, rfl⟩
  | cons k ks ih =>
    obtain ⟨_, _, h⟩ := ih (s.logRequest code origin d1 d2)
    obtain ⟨_, _, hk⟩ := s.logRequest_frame code origin d1 d2
    rw [List.foldl_cons, h, hk]
    exact ⟨_, _, rfl⟩

theorem State.reg_logRequests (s : State) {a : Nat} (hs : a ≠ Reg.CS_STAT) (hl : a ≠ Reg.CS_LOST) :
    (ks.foldl (fun t _ => t.logRequest code origin d1 d2) s).reg a = s.reg a := by
  induction ks generalizing s with
  | nil => rfl
  | cons k ks ih => exact (ih _).trans (s.reg_logRequest code origin d1 d2 hs hl)

end LogRequests

/-- One log entry for each clock of a list that has failed. -/
def State.logFailed (s : State) (ks : List Nat) : State :=
  ks.foldl (fun t _ => t.logRequest 0x12 0 (BitVec.ofNat 24 (s.fld Reg.SYS_CLKSTAT 0 4)) 0#24) s

/-- The log entries and the sources of a failure. -/
def State.tellFailed (s : State) (ks : List Nat) : State := ((s.logFailed ks).raise 82).raiseAsh 8

/-- What the failure of clocks does before its effects on the domains: the flags, the log entries and the sources. -/
def State.noteFailed (s : State) (ks : List Nat) : State := (ks.foldl State.markFailed s).tellFailed ks

/-- The effects of failed clocks on CCLK and on Bedrock. -/
def State.domainsFail (s : State) (ks : List Nat) : State := if ks.contains 2 then s.cclkFails.tickFails else s.cclkFails

/-- A failure in its parts: the 32 kHz clock tells the calendar, every other clock has its effects on the domains and forces the safe state. -/
theorem State.clockFail_eq {s : State} {k : Nat} (h : s.failsWith k ≠ []) : s.clockFail k =
    if k = 3 then ((s.noteFailed (s.failsWith k)).setBit Reg.RTC_STAT 17 true).rtcFlag 23
    else ((s.noteFailed (s.failsWith k)).domainsFail (s.failsWith k)).forceSafe := by
  unfold State.clockFail
  cases hks : s.failsWith k with
  | nil => exact absurd hks h
  | cons => rfl

theorem State.logFailed_frame (s : State) (ks : List Nat) : ∃ r c, s.logFailed ks = { s with regs := r, cs := c } :=
  s.logRequests_frame _ _ _ _ ks

theorem State.tellFailed_frame (s : State) (ks : List Nat) : ∃ r l p c, s.tellFailed ks =
    { s with regs := r, intc := { s.intc with released := l, ashPend := p }, cs := c } := by
  obtain ⟨_, _, hlog⟩ := s.logFailed_frame ks
  obtain ⟨_, _, hraise⟩ := (s.logFailed ks).raise_frame 82
  rw [State.tellFailed, hraise, hlog]
  exact ⟨_, _, _, _, rfl⟩

theorem State.clkstat_tellFailed (s : State) (ks : List Nat) : (s.tellFailed ks).reg Reg.SYS_CLKSTAT = s.reg Reg.SYS_CLKSTAT :=
  (State.reg_raise _ 82 (by decide)).trans (State.reg_logRequests _ _ _ _ _ _ (by decide) (by decide))

/-- Outside deep sleep source 82 and source 8 of the Ashlar core are then pending. -/
theorem State.tellFailed_pends {s : State} (ha : s.asleep = false) (ks : List Nat) :
    (s.tellFailed ks).isPending 82 = true ∧ (s.tellFailed ks).intc.ashPend.getLsbD 8 = true := by
  have hlog : (s.logFailed ks).asleep = false := by
    obtain ⟨_, _, h⟩ := s.logFailed_frame ks
    rw [h]
    exact ha
  refine ⟨(s.logFailed ks).isPending_raise (by decide) rfl hlog, ?_⟩
  show (((s.logFailed ks).raise 82).intc.ashPend ||| BitVec.ofNat 16 (2 ^ 8)).getLsbD 8 = true
  rw [BitVec.getLsbD_or]
  exact Bool.or_true _

/-- Of the state, registers, the failures, the interrupt controller and the log change alone. -/
theorem State.noteFailed_frame (s : State) (ks : List Nat) : ∃ r w x y z l p c, s.noteFailed ks =
    { s with
      regs := r
      sys := { s.sys with refFail := w, splFail := x, tplFail := y, x32Fail := z }
      intc := { s.intc with released := l, ashPend := p }
      cs := c } := by
  obtain ⟨_, _, _, _, _, hmark⟩ := s.markFaileds_frame ks
  obtain ⟨_, _, _, _, htell⟩ := (ks.foldl State.markFailed s).tellFailed_frame ks
  rw [State.noteFailed, htell, hmark]
  exact ⟨_, _, _, _, _, _, _, _, rfl⟩

theorem State.noteFailed_pends {s : State} (ha : s.asleep = false) (ks : List Nat) :
    (s.noteFailed ks).isPending 82 = true ∧ (s.noteFailed ks).intc.ashPend.getLsbD 8 = true := by
  obtain ⟨_, _, _, _, _, hmark⟩ := s.markFaileds_frame ks
  exact State.tellFailed_pends (by rw [hmark]; exact ha) ks

section NoteFailed
variable (s : State) {ks : List Nat} (hks : ∀ k ∈ ks, k < 4)
include hks

theorem State.noteFailed_shows {j : Nat} (hj : j ∈ ks) : (s.noteFailed ks).ShowsFailed j := by
  obtain ⟨hf, hb⟩ := State.markFaileds_shows hks s (hks j hj) (.inl hj)
  obtain ⟨_, _, _, _, htell⟩ := (ks.foldl State.markFailed s).tellFailed_frame ks
  refine ⟨?_, (State.bit_of_reg (State.clkstat_tellFailed _ ks) j).trans hb⟩
  rw [State.noteFailed, htell]
  exact hf

theorem State.cur_noteFailed : (s.noteFailed ks).cur = s.cur :=
  (State.fld_of_reg (State.clkstat_tellFailed _ ks) 19 2).trans ((State.markFaileds_keepsBits hks s).cur (by decide))

end NoteFailed

/-! ## What follows the flags of a failure (R260, R261, R267, R268) -/

/-- What every effect of a failure leaves as the flags have set it. -/
structure State.KeepsFailure (s t : State) : Prop where
  mem : t.mem = s.mem
  power : t.sys.power = s.sys.power
  failed : ∀ k, t.isFailed k = s.isFailed k
  ashPend : t.intc.ashPend = s.intc.ashPend
  pend : t.reg (Reg.INT_PEND 3) = s.reg (Reg.INT_PEND 3)
  stat : s.KeepsBits t Reg.SYS_CLKSTAT [17, 18]

theorem State.KeepsFailure.trans {s t u : State} (h : s.KeepsFailure t) (g : t.KeepsFailure u) : s.KeepsFailure u where
  mem := g.mem.trans h.mem
  power := g.power.trans h.power
  failed k := (g.failed k).trans (h.failed k)
  ashPend := g.ashPend.trans h.ashPend
  pend := g.pend.trans h.pend
  stat := (h.stat.trans g.stat).mono (by decide)

/-- A failed source of CCLK begins the forced switch, a failed destination ends a switch; else nothing happens. -/
theorem State.cclkFails_cases (s : State) : s.cclkFails = s ∨ ∃ k0 k1 w d f, s.cclkFails =
    ({ s with a0 := k0, a1 := k1, sys := { s.sys with away := w } } : State).setSwitch d f := by
  unfold State.cclkFails
  split
  · exact .inr ⟨_, _, _, _, _, rfl⟩
  · split
    · split
      · exact .inr ⟨_, _, _, _, _, rfl⟩
      · exact .inl rfl
    · split
      · exact .inr ⟨_, _, _, _, _, rfl⟩
      · exact .inl rfl
    · exact .inl rfl

theorem State.cclkFails_keeps (s : State) : s.KeepsFailure s.cclkFails ∧ s.cclkFails.phy = s.phy ∧ s.cclkFails.slot = s.slot := by
  obtain h | ⟨k0, k1, w, d, f, h⟩ := s.cclkFails_cases <;> rw [h]
  · exact ⟨⟨rfl, rfl, fun _ => rfl, rfl, rfl, fun _ _ _ => rfl⟩, rfl, rfl⟩
  · refine ⟨⟨rfl, rfl, fun _ => rfl, rfl, State.reg_setSwitch_ne _ _ _ (by decide), ?_⟩, rfl, rfl⟩
    exact (State.keepsBits_setSwitch _ d f).mono (by decide)

/-- CCLK on a failed reference: A0 and A1 wait, and the forced switch to the RC begins. -/
theorem State.cclkFails_reference {s : State} (hc : s.cur = 1) (hf : s.sys.refFail = true) :
    s.cclkFails.a0.noClock = true ∧ s.cclkFails.a1.noClock = true ∧ s.cclkFails.sys.swTo = some 0 ∧ s.cclkFails.sys.swForced = true := by
  unfold State.cclkFails
  rw [if_pos (.inl ⟨hc, hf⟩)]
  exact ⟨rfl, rfl, rfl, rfl⟩

/-- A failed time-base PLL changes a measurement, LK, Bedrock and the slot engine's record of the sleep alone, and LK waits while Bedrock
extrapolates. -/
theorem State.tickFails_frame (s : State) : ∃ k b l, s.tickFails = { s.abandonCal with lk := k, tb := b, slot := { s.slot with slept := l } }
    ∧ k.noClock = true ∧ b.extrap = true := by
  unfold State.tickFails
  dsimp only
  split
  · next h => exact ⟨_, _, _, rfl, rfl, h⟩
  · exact ⟨_, _, _, rfl, rfl, rfl⟩

theorem State.tickFails_keeps (s : State) : s.KeepsFailure s.tickFails := by
  obtain ⟨k, b, l, h, -⟩ := s.tickFails_frame
  rw [h]
  exact ⟨rfl, rfl, fun _ => rfl, rfl, s.reg_setBit_ne 23 false (by decide), State.keepsBits_of_reg (s.reg_setBit_ne 23 false (by decide))⟩

section DomainsFail
variable (s : State) (ks : List Nat)

theorem State.domainsFail_keeps :
    s.KeepsFailure (s.domainsFail ks) ∧ (s.domainsFail ks).phy = s.phy ∧ (s.domainsFail ks).slot.op = s.slot.op := by
  obtain ⟨hkeep, hphy, hslot⟩ := s.cclkFails_keeps
  have hop : s.cclkFails.slot.op = s.slot.op := by rw [hslot]
  unfold State.domainsFail
  split
  · obtain ⟨_, _, _, h, -⟩ := s.cclkFails.tickFails_frame
    refine ⟨hkeep.trans s.cclkFails.tickFails_keeps, ?_⟩
    rw [h]
    exact ⟨hphy, hop⟩
  · exact ⟨hkeep, hphy, hop⟩

theorem State.domainsFail_tick (h : 2 ∈ ks) : (s.domainsFail ks).lk.noClock = true ∧ (s.domainsFail ks).tb.extrap = true := by
  obtain ⟨_, _, _, he, hlk, htb⟩ := s.cclkFails.tickFails_frame
  rw [State.domainsFail, if_pos (List.contains_iff_mem.mpr h), he]
  exact ⟨hlk, htb⟩

theorem State.domainsFail_cclk : (s.domainsFail ks).a0 = s.cclkFails.a0 ∧ (s.domainsFail ks).a1 = s.cclkFails.a1
    ∧ (s.domainsFail ks).sys = s.cclkFails.sys := by
  unfold State.domainsFail
  split
  · obtain ⟨_, _, _, he, -⟩ := s.cclkFails.tickFails_frame
    rw [he]
    exact ⟨rfl, rfl, rfl⟩
  · exact ⟨rfl, rfl, rfl⟩

end DomainsFail

theorem State.forceSafe_keeps {s : State} (hrx : s.phy.rx = []) (hop : s.slot.op = none) : s.KeepsFailure s.forceSafe := by
  have hpend : s.forceSafe.reg (Reg.INT_PEND 3) = s.reg (Reg.INT_PEND 3) := State.reg_forceSafe hrx hop (by decide) (by decide)
  have hstat : s.KeepsBits s.forceSafe Reg.SYS_CLKSTAT [17, 18] := fun i hi hn =>
    (State.bit_of_reg (State.clkstat_forceSafe hrx hop) i).trans ((s.keepsBits_setBit _ 17 true).mono (by decide) i hi hn)
  obtain ⟨_, _, _, _, _, h⟩ := State.forceSafe_frame hrx hop
  exact ⟨by rw [h], by rw [h], fun k => by rw [h]; rfl, by rw [h], hpend, hstat⟩

/-- The 32 kHz clock's failure shows in RTC_STAT. -/
theorem State.rtcFails_keeps (s : State) :
    s.KeepsFailure ((s.setBit Reg.RTC_STAT 17 true).rtcFlag 23) ∧ ((s.setBit Reg.RTC_STAT 17 true).rtcFlag 23).bit Reg.RTC_STAT 17 = true := by
  let u := (s.setBit Reg.RTC_STAT 17 true).setBit Reg.RTC_STAT 23 true
  have hreg {a : Nat} (ha : a ∉ Reg.RTC_STAT :: sourceRegs 106) : (u.raise 106).reg a = s.reg a := by
    obtain ⟨hr, hs⟩ := not_or.mp (mt List.mem_cons.mpr ha)
    rw [State.reg_raise _ 106 hs, State.reg_setBit_ne _ _ _ hr, State.reg_setBit_ne _ _ _ hr]
  have hbit : (u.raise 106).bit Reg.RTC_STAT 17 = true := by
    rw [State.bit_of_reg (State.reg_raise _ 106 (by decide)), State.keepsBits_setBit _ _ _ _ 17 (by decide) (by decide),
      State.bit_setBit_same _ _ _ _ (by decide)]
  have hpend := hreg (a := Reg.INT_PEND 3) (by decide)
  have hstat := State.keepsBits_of_reg (l := [17, 18]) (hreg (a := Reg.SYS_CLKSTAT) (by decide))
  obtain ⟨_, _, h⟩ := u.raise_frame 106
  refine ⟨?_, hbit⟩
  show s.KeepsFailure (u.raise 106)
  exact ⟨by rw [h]; rfl, by rw [h]; rfl, fun k => by rw [h]; rfl, by rw [h]; rfl, hpend, hstat⟩

/-! ## Failures and returns of a clock as a whole -/

/-- The clocks that fail with one: it among them, and each of the four. -/
theorem State.mem_failsWith {s : State} {k : Nat} (hk : k < 4) (hm : s.monitored k = true) (hf : s.isFailed k = false) :
    k ∈ s.failsWith k ∧ ∀ j ∈ s.failsWith k, j < 4 := by
  have hlist : k ∈ (if k = 0 then [0, 1, 2] else [k]) ∧ ∀ j ∈ (if k = 0 then [0, 1, 2] else [k]), j < 4 := by
    clear hm hf
    revert k
    decide
  refine ⟨List.mem_filter.mpr ⟨hlist.1, ?_⟩, fun j hj => hlist.2 j (List.mem_filter.mp hj).1⟩
  rw [hm, hf]
  rfl

section ClockFail
variable {s : State} {k : Nat} (hk : k < 4) (hm : s.monitored k = true) (hf : s.isFailed k = false)
include hk hm hf

/-- A failure of a clock other than the 32 kHz clock, where nothing is being received and no slot's operation runs. -/
theorem State.clockFail_domain (hne : k ≠ 3) (hop : s.slot.op = none) (hrx : s.phy.rx = []) :
    ∃ t, s.clockFail k = t.forceSafe ∧ t = (s.noteFailed (s.failsWith k)).domainsFail (s.failsWith k)
      ∧ (s.noteFailed (s.failsWith k)).KeepsFailure t ∧ t.phy.rx = [] ∧ t.slot.op = none := by
  obtain ⟨hmem, -⟩ := State.mem_failsWith hk hm hf
  obtain ⟨hkeep, hphy, hslot⟩ := (s.noteFailed (s.failsWith k)).domainsFail_keeps (s.failsWith k)
  obtain ⟨_, _, _, _, _, _, _, _, hnote⟩ := s.noteFailed_frame (s.failsWith k)
  refine ⟨_, ?_, rfl, hkeep, ?_, ?_⟩
  · rw [State.clockFail_eq (List.ne_nil_of_mem hmem), if_neg hne]
  · rw [hphy, hnote]
    exact hrx
  · rw [hslot, hnote]
    exact hop

/-- Whatever clock fails, what follows keeps the flags and the sources. -/
theorem State.clockFail_keeps (hop : s.slot.op = none) (hrx : s.phy.rx = []) :
    (s.noteFailed (s.failsWith k)).KeepsFailure (s.clockFail k) := by
  obtain ⟨hmem, -⟩ := State.mem_failsWith hk hm hf
  by_cases h3 : k = 3
  · rw [State.clockFail_eq (List.ne_nil_of_mem hmem), if_pos h3]
    exact (State.rtcFails_keeps _).1
  · obtain ⟨t, he, -, hkeep, ht, hto⟩ := State.clockFail_domain hk hm hf h3 hop hrx
    rw [he]
    exact hkeep.trans (State.forceSafe_keeps ht hto)

end ClockFail

/-- A failed clock is good again: its failure ends, and of the registers those in which it shows change. -/
theorem State.markReturned_frame (s : State) {k : Nat} (hk : k < 4) :
    (s.markReturned k).isFailed k = false ∧ s.KeepsRegs (s.markReturned k) [Reg.SYS_CLKSTAT, Reg.RTC_STAT]
      ∧ (s.markReturned k).mem = s.mem ∧ (s.markReturned k).asleep = s.asleep := by
  by_cases h3 : k = 3
  · subst h3
    refine ⟨rfl, fun a ha => ?_, rfl, rfl⟩
    obtain ⟨hs, hr⟩ := not_or.mp (mt List.mem_cons.mpr ha)
    exact (State.reg_setBit_ne _ 17 false (mt List.mem_singleton.mpr hr)).trans (s.reg_setBit_ne 16 true hs)
  · have hpll : k = 0 ∨ k = 1 ∨ k = 2 := by omega
    obtain rfl | rfl | rfl := hpll
    all_goals exact ⟨rfl, fun a ha => s.reg_setBit_ne _ true (List.ne_of_not_mem_cons ha), rfl, rfl⟩

/-! ## The clauses of the statement -/

section ControlWrite
variable (s : State) (v : Word)

/-- Of the registers, a write of SYS_CLKCTL changes SYS_CLKCTL, the status, and the measurement that the end of the time-base PLL ends; CCLK's source
and the dividers stay. -/
theorem State.wrClkctl_keeps : (s.wrClkctl v).reg Reg.SYS_CLKCTL = s.clkctlAfter v
    ∧ s.KeepsRegs (s.wrClkctl v) [Reg.SYS_CLKCTL, Reg.SYS_CLKSTAT, Reg.TB_RTCCAL]
    ∧ (v.getLsbD 20 = true → (s.wrClkctl v).reg Reg.TB_RTCCAL = s.reg Reg.TB_RTCCAL)
    ∧ (s.wrClkctl v).cur = s.cur ∧ (s.wrClkctl v).sys.divs = s.sys.divs := by
  obtain ⟨_, _, _, hsys⟩ := s.sys_setSources v
  have hsame : ∀ a, a ≠ Reg.SYS_CLKSTAT → (s.wrClkctl v).reg a = (s.setSources v).reg a := by
    obtain ⟨-, h⟩ | ⟨-, h⟩ := s.wrClkctl_cases v <;> rw [h]
    · exact fun _ _ => rfl
    · exact fun _ hs => State.reg_setSwitch_ne _ _ _ hs
  have hstat : (s.setSources v).KeepsBits (s.wrClkctl v) Reg.SYS_CLKSTAT [18] := by
    obtain ⟨-, h⟩ | ⟨-, h⟩ := s.wrClkctl_cases v <;> rw [h]
    · exact fun _ _ _ => rfl
    · exact State.keepsBits_setSwitch _ _ _
  have hdivs : (s.wrClkctl v).sys.divs = (s.setSources v).sys.divs := by
    obtain ⟨-, h⟩ | ⟨-, h⟩ := s.wrClkctl_cases v
    · rw [h]
    · rw [h]
      rfl
  refine ⟨(hsame _ (by decide)).trans (s.clkctl_setSources v), fun a ha => ?_, fun h20 => ?_, ?_, ?_⟩
  · simp only [List.mem_cons, List.not_mem_nil, or_false, not_or] at ha
    obtain ⟨hc, hs, hr⟩ := ha
    rw [hsame a hs, s.reg_setSources v hc hs (.inl hr)]
  · rw [hsame _ (by decide), s.reg_setSources v (by decide) (by decide) (.inr h20)]
  · exact ((s.keepsBits_setSources v).trans hstat).cur (by decide)
  · rw [hdivs, hsys]

/-- The switch that a write of SYS_CLKCTL begins or ends, where no forced switch runs. -/
theorem State.wrClkctl_switches (hf : s.sys.swForced = false) :
    let t := s.wrClkctl v
    let k := t.fld Reg.SYS_CLKCTL 18 2
    t.sys.swTo = (if k = s.cur then none else some k) ∧ t.bit Reg.SYS_CLKSTAT 18 = (decide (k ≠ s.cur) && ! t.srcStable k) := by
  obtain ⟨h, -⟩ | ⟨-, h⟩ := s.wrClkctl_cases v
  · exact absurd h (ne_true_of_eq_false hf)
  · intro t k
    have hk : k = (s.setSources v).fld Reg.SYS_CLKCTL 18 2 := by
      rw [show k = (s.wrClkctl v).fld Reg.SYS_CLKCTL 18 2 from rfl, h]
      exact State.fld_of_reg (State.reg_setSwitch_ne _ _ _ (by decide)) 18 2
    rw [← hk] at h
    have hstable : t.srcStable k = (s.setSources v).srcStable k := by
      rw [show t = _ from h]
      exact (State.keepsBits_setSwitch _ _ _).srcStable (by decide) k
    rw [hstable, show t = _ from h]
    refine ⟨rfl, (State.swp_setSwitch _ _ _).trans ?_⟩
    by_cases hc : k = s.cur <;> simp [hc]

/-- A csrc written during a forced switch is where CCLK goes next (assumption 105). -/
theorem State.wrClkctl_remembers (hf : s.sys.swForced = true) :
    (s.wrClkctl v).sys.swTo = s.sys.swTo ∧ (s.wrClkctl v).sys.swNext = some ((s.wrClkctl v).fld Reg.SYS_CLKCTL 18 2) := by
  obtain ⟨_, _, _, hsys⟩ := s.sys_setSources v
  obtain ⟨-, h⟩ | ⟨h, -⟩ := s.wrClkctl_cases v
  · rw [h]
    refine ⟨?_, rfl⟩
    show (s.setSources v).sys.swTo = s.sys.swTo
    rw [hsys]
  · exact absurd hf (ne_true_of_eq_false h)

end ControlWrite

/-- What both ends of a switch do to CCLK (R260, R261). -/
theorem State.takeSource_keeps {s : State} {k : Nat} (hk : s.srcStable k = true) :
    let t := s.takeSource k
    t.cur = k ∧ t.sys.swForced = false ∧ t.sys.swTo = (if s.sys.swNext = some k then none else s.sys.swNext)
      ∧ (s.sys.swNext = none → t.bit Reg.SYS_CLKSTAT 18 = false) ∧ s.KeepsRegs t [Reg.SYS_CLKSTAT] :=
  ⟨s.cur_takeSource k (Nat.lt_succ_of_lt (State.lt_of_srcStable hk)), rfl, s.swTo_takeSource k, s.swp_takeSource k,
    fun _ ha => s.reg_takeSource_ne k (mt List.mem_singleton.mpr ha)⟩

section Switches
variable {s : State} {k : Nat} (hto : s.sys.swTo = some k)
include hto

theorem clockSwitchComplete_takes (hk : s.srcStable k = true) (hf : s.sys.swForced = false) :
    exec .clockSwitchComplete s = .next (s.takeSource k) := by
  show execClockSwitchComplete s = _
  simp only [execClockSwitchComplete, hto, hf, hk, Bool.not_false, Bool.and_self, if_true]

theorem clockSwitchForced_takes (hk : s.srcStable k = true) (hf : s.sys.swForced = true) :
    exec .clockSwitchForced s = .next ((s.takeSource k).setBit Reg.SYS_CLKSTAT 4 true) := by
  show execClockSwitchForced s = _
  simp only [execClockSwitchForced, hto, hf, hk, Bool.and_self, if_true]

/-- A switch waits while its source is not stable. -/
theorem clockSwitch_waits (hk : s.srcStable k = false) : ∀ i ∈ [Instr.clockSwitchComplete, .clockSwitchForced], Answers i s fun t => t = s := by
  have hcomplete : execClockSwitchComplete s = .next s := by simp [execClockSwitchComplete, hto, hk]
  have hforced : execClockSwitchForced s = .next s := by simp [execClockSwitchForced, hto, hk]
  intro i hi
  simp only [List.mem_cons, List.not_mem_nil, or_false] at hi
  rcases hi with rfl | rfl
  · exact ⟨s, hcomplete, rfl⟩
  · exact ⟨s, hforced, rfl⟩

theorem clockSwitch_ends (hk : s.srcStable k = true) :
    let then_ := fun (t : State) => t.cur = k ∧ t.sys.swForced = false ∧ t.sys.swTo = (if s.sys.swNext = some k then none else s.sys.swNext)
      ∧ (s.sys.swNext = none → t.bit Reg.SYS_CLKSTAT 18 = false) ∧ s.KeepsRegs t [Reg.SYS_CLKSTAT]
    (s.sys.swForced = false → Answers .clockSwitchComplete s fun t => then_ t ∧ t.bit Reg.SYS_CLKSTAT 4 = s.bit Reg.SYS_CLKSTAT 4)
      ∧ (s.sys.swForced = true → Answers .clockSwitchForced s fun t => then_ t ∧ t.bit Reg.SYS_CLKSTAT 4 = true) := by
  obtain ⟨hcur, hforced, hnext, hswp, hregs⟩ := State.takeSource_keeps hk
  have hset := (s.takeSource k).keepsBits_setBit Reg.SYS_CLKSTAT 4 true
  refine ⟨fun hf => ⟨_, clockSwitchComplete_takes hto hk hf, ⟨hcur, hforced, hnext, hswp, hregs⟩, ?_⟩,
    fun hf => ⟨_, clockSwitchForced_takes hto hk hf, ⟨?_, hforced, hnext, fun hn => ?_, fun a ha => ?_⟩, ?_⟩⟩
  · exact s.keepsBits_takeSource k 4 (by decide) (by decide)
  · exact (hset.cur (by decide)).trans hcur
  · exact (hset 18 (by decide) (by decide)).trans (hswp hn)
  · exact ((s.takeSource k).reg_setBit_ne 4 true (mt List.mem_singleton.mpr ha)).trans (hregs a ha)
  · exact State.bit_setBit_same _ _ _ _ (by decide)

end Switches

section GateTimeout
variable {s : State} (m : Master) (a : Word)

theorem gateTimeout_open (hg : s.gateOpen a.toNat = true) : Answers (.gateAccessTimeout m a) s fun t => t = s :=
  ⟨s, if_pos hg, rfl⟩

theorem gateTimeout_closed (hg : s.gateOpen a.toNat = false) : Answers (.gateAccessTimeout m a) s fun t => t.sys.busErr = true ∧ t.regs = s.regs ∧ t.mem = s.mem
    ∧ (∀ c, Master.core? m = some c → (s.core c).fault = none → (t.core c).fault = some { code := 5, efa := a, eia := (s.core c).pc })
    ∧ ∀ c, Master.core? m ≠ some c → t.core c = s.core c := by
  obtain ⟨hbus, hregs, hmem⟩ := s.busError_keeps m a
  exact ⟨_, if_neg (ne_true_of_eq_false hg), hbus, hregs, hmem, fun _ hm hf => s.core_busError a hm hf, fun _ hm => s.core_busError_ne a hm⟩

end GateTimeout

/-- The failure of a monitored clock, where nothing is being received and no slot's operation runs. -/
theorem clockFail_answers {s : State} (ha : s.asleep = false) (k : Fin 4) (hm : s.monitored k.val = true) (hf : s.isFailed k.val = false)
    (hop : s.slot.op = none) (hrx : s.phy.rx = []) : Answers (.clockFail k) s fun t =>
      t.isFailed k.val = true ∧ t.bit Reg.SYS_CLKSTAT k.val = true ∧ t.isPending 82 = true ∧ t.intc.ashPend.getLsbD 8 = true ∧ t.mem = s.mem
      ∧ (k.val ≠ 3 → t.bit Reg.SYS_CLKSTAT 17 = true ∧ t.path false = 0 ∧ t.path true = 0 ∧ t.bit Reg.RFE_STAT 2 = true)
      ∧ (k.val = 3 → t.bit Reg.RTC_STAT 17 = true ∧ t.sys.power = s.sys.power)
      ∧ (k.val = 2 → t.lk.noClock = true ∧ t.tb.extrap = true)
      ∧ (k.val = 0 → s.cur = 1 → t.a0.noClock = true ∧ t.a1.noClock = true ∧ t.sys.swTo = some 0 ∧ t.sys.swForced = true) := by
  have hk := k.isLt
  obtain ⟨hmem, hks⟩ := State.mem_failsWith hk hm hf
  obtain ⟨hshows, hbit⟩ := s.noteFailed_shows hks hmem
  obtain ⟨hpend, hash⟩ := State.noteFailed_pends ha (s.failsWith k.val)
  obtain ⟨_, _, _, _, _, _, _, _, hnote⟩ := s.noteFailed_frame (s.failsWith k.val)
  have hkeep := State.clockFail_keeps hk hm hf hop hrx
  have hexec : exec (.clockFail k) s = .next (s.clockFail k.val) := by
    have hdeep : ¬ (k.val = 3 ∧ s.sys.power = .deepSleep) := by
      rintro ⟨-, hp⟩
      simp [State.asleep, hp] at ha
    exact if_neg hdeep
  refine ⟨_, hexec, (hkeep.failed _).trans hshows, ?_, ?_, ?_, ?_, fun h3 => ?_, fun h3 => ?_, fun h2 => ?_, fun h0 hc => ?_⟩
  · rw [hkeep.stat k.val (by omega) ((by decide : ∀ j, j < 4 → j ∉ [17, 18]) k.val hk), hbit]
  · exact (State.bit_of_reg hkeep.pend 10).trans hpend
  · rw [hkeep.ashPend, hash]
  · rw [hkeep.mem, hnote]
  · obtain ⟨t, he, -, -, ht, hto⟩ := State.clockFail_domain hk hm hf h3 hop hrx
    rw [he]
    exact State.forceSafe_shown ht hto
  · refine ⟨?_, ?_⟩
    · rw [State.clockFail_eq (List.ne_nil_of_mem hmem), if_pos h3]
      exact (State.rtcFails_keeps _).2
    · rw [hkeep.power, hnote]
  · obtain ⟨t, he, hdom, -, ht, hto⟩ := State.clockFail_domain hk hm hf (by rw [h2]; decide) hop hrx
    obtain ⟨_, _, _, _, _, hsafe⟩ := State.forceSafe_frame ht hto
    have hmem2 : 2 ∈ s.failsWith k.val := by rwa [h2] at hmem ⊢
    rw [he, hsafe, hdom]
    exact State.domainsFail_tick _ _ hmem2
  · obtain ⟨t, he, hdom, -, ht, hto⟩ := State.clockFail_domain hk hm hf (by rw [h0]; decide) hop hrx
    obtain ⟨_, _, _, _, _, hsafe⟩ := State.forceSafe_frame ht hto
    obtain ⟨ha0, ha1, hsys⟩ := (s.noteFailed (s.failsWith k.val)).domainsFail_cclk (s.failsWith k.val)
    have href : (s.noteFailed (s.failsWith k.val)).isFailed 0 = true := by rwa [← h0]
    rw [he, hsafe, hdom]
    dsimp only
    rw [ha0, ha1, hsys]
    exact State.cclkFails_reference ((s.cur_noteFailed hks).trans hc) href

/-- The return of a failed clock, a PLL's on a stable reference. -/
theorem clockReturn_answers {s : State} (ha : s.asleep = false) (k : Fin 4) (hf : s.isFailed k.val = true)
    (hr : k.val = 0 ∨ k.val = 3 ∨ s.bit Reg.SYS_CLKSTAT 23 = true) : Answers (.clockReturn k) s fun t =>
      t.isFailed k.val = false ∧ t.isPending 82 = true ∧ t.mem = s.mem ∧ s.KeepsRegs t ([Reg.SYS_CLKSTAT, Reg.RTC_STAT] ++ sourceRegs 82) := by
  obtain ⟨hfail, hregs, hmem, hasleep⟩ := s.markReturned_frame k.isLt
  obtain ⟨_, _, hraise⟩ := (s.markReturned k.val).raise_frame 82
  let u := (s.markReturned k.val).raise 82
  have huf : u.isFailed k.val = false := by
    rw [show u = _ from hraise]
    exact hfail
  have hup : u.isPending 82 = true := State.isPending_raise _ (by decide) rfl (hasleep.trans ha)
  have hum : u.mem = s.mem := ((s.markReturned k.val).raise_mem 82).trans hmem
  have hur : s.KeepsRegs u ([Reg.SYS_CLKSTAT, Reg.RTC_STAT] ++ sourceRegs 82) := fun a h => by
    obtain ⟨hs, h82⟩ := not_or.mp (mt List.mem_append.mpr h)
    rw [State.reg_raise _ 82 h82, hregs a hs]
  have hcond : (s.isFailed k.val && (k.val == 0 || k.val == 3 || s.bit Reg.SYS_CLKSTAT 23)) = true := by
    rw [hf]
    rcases hr with h | h | h <;> simp [h]
  have hexec : exec (.clockReturn k) s = .next (if k.val = 3 then u else u.cclkReturns) := if_pos hcond
  refine ⟨_, hexec, ?_⟩
  split
  · exact ⟨huf, hup, hum, hur⟩
  · refine ⟨(u.isFailed_cclkReturns _).trans huf, ?_, u.cclkReturns_mem.trans hum, fun a h => ?_⟩
    · exact (State.bit_of_reg (u.reg_cclkReturns_ne (by decide)) 10).trans hup
    · rw [u.reg_cclkReturns_ne (by rintro rfl; exact h (by decide)), hur a h]

/-- Settles O38, clause by clause; the parts that are deduced are assumptions 105 (a csrc written during a forced switch), 81 (the reference that fails
as the source of CCLK) and 83 (the transfer at a gate that closes). -/
theorem clocks : Obligations.Clocks := by
  intro s v ha
  have hctl : exec (.clockControlWrite v) s = .next (s.wrClkctl v) := congrArg Host.Outcome.next (State.onBus_awake ha _)
  have hrel : exec (.safeRelease v) s = .next (s.wrSafectl v) := congrArg Host.Outcome.next (State.onBus_awake ha _)
  obtain ⟨hword, hregs, hcal, hcur, hdivs⟩ := s.wrClkctl_keeps v
  refine ⟨⟨_, hctl, fun i hi => ?_, s.wrClkctl_switches v, s.wrClkctl_remembers v, hregs, hcal, hcur, hdivs⟩, fun hen hfail hon => ?_, fun hfail => ?_,
    ⟨s, rfl, rfl⟩, fun tpll hen href hfail => ?_, fun k hto hk => clockSwitch_ends hto hk, fun k hto hk => clockSwitch_waits hto hk, ?_,
    ?_, fun m a => ⟨gateTimeout_open m a, gateTimeout_closed m a⟩, fun k => clockFail_answers ha k, fun k => clockReturn_answers ha k,
    fun h0 hfail => ?_, fun h => ?_⟩
  · rw [hword]
    split
    case h_5 h23 h21 h18 h19 => rw [s.getLsbD_clkctlAfter v hi, if_neg h23, if_neg h21, if_neg (not_or.mpr ⟨h18, h19⟩)]
    all_goals exact s.getLsbD_clkctlAfter v hi
  · refine ⟨_, if_pos ?_, s.shownStable (by decide)⟩
    simp [hen, hfail, hon]
  · exact ⟨_, if_neg (ne_true_of_eq_false hfail), ⟨rfl, fun a h => s.reg_setBit_ne 16 true (mt List.mem_singleton.mpr h)⟩,
      State.bit_setBit_same _ _ _ _ (by decide)⟩
  · refine ⟨_, if_pos ?_, s.shownStable (by cases tpll <;> decide)⟩
    simp [hen, href, hfail]
  · have hdiv : s.fld Reg.SYS_CLKCTL 14 4 = (s.reg Reg.SYS_CLKCTL).toNat / 2 ^ 14 % 16 := congrArg (· % 16) (Nat.shiftRight_eq_div_pow _ 14)
    exact ⟨_, rfl, by rw [hdiv]⟩
  · simp only [List.forall_mem_cons]
    refine ⟨?_, ?_, ?_, ?_, ?_, ?_, ?_, ?_, ?_, ?_, ?_, ?_, ?_, ?_, ?_, ?_, ?_, ?_, List.forall_mem_nil _⟩
    all_goals exact gate_bars ha rfl rfl
  · refine ⟨_, hrel, ?_⟩
    rw [State.wrSafectl, if_pos (by simp only [h0, hfail, Bool.not_false, Bool.and_self])]
    exact ⟨⟨rfl, fun a h => s.reg_setBit_ne 17 false (mt List.mem_singleton.mpr h)⟩, State.bit_setBit_same _ _ _ _ (by decide)⟩
  · refine ⟨_, hrel, if_neg ?_⟩
    rcases h with h | h <;> simp only [h, Bool.false_and, Bool.not_true, Bool.and_false, Bool.false_eq_true, not_false_eq_true]

end Sys2Proof.Machine

/-! PROOFS. The configuration memory (R279): what the Ashlar's commands, the journal step and the rest of the ROM's work before it looks at the two
copies leave of it. -/
namespace Sys2Proof.Machine

/-! ## The configuration memory is kept: interrupt sources, the log, free values and SRAM -/

/-- What every step of a fold keeps, the fold keeps. -/
theorem State.foldl_keeps {α β : Type} (p : State → β) {f : State → α → State} (h : ∀ t a, p (f t a) = p t) (l : List α) (s : State) :
    p (l.foldl f s) = p s := by
  induction l generalizing s with
  | nil => rfl
  | cons a l ih => exact (ih _).trans (h s a)

theorem State.foldl_nor {α : Type} {f : State → α → State} (h : ∀ t a, (f t a).nor = t.nor) (l : List α) (s : State) :
    (l.foldl f s).nor = s.nor := State.foldl_keeps State.nor h l s

theorem State.nor_ite (c : Prop) [Decidable c] (s t : State) : (if c then s else t).nor = if c then s.nor else t.nor := apply_ite State.nor c s t

@[simp] theorem State.raise_nor (s : State) (n : Nat) : (s.raise n).nor = s.nor := by rw [raise_eq]

@[simp] theorem State.logRequest_nor (s : State) (code origin : Nat) (d1 d2 : Word) : (s.logRequest code origin d1 d2).nor = s.nor := by
  obtain ⟨_, _, h⟩ := s.logRequest_frame code origin d1 d2
  rw [h]

@[simp] theorem State.drawWords_regs (s : State) (n : Nat) : (s.drawWords n).2.regs = s.regs := by
  induction n generalizing s with
  | zero => rfl
  | succ n ih => exact ih s.drawFree.2

@[simp] theorem State.drawWords_nor (s : State) (n : Nat) : (s.drawWords n).2.nor = s.nor := by
  induction n generalizing s with
  | zero => rfl
  | succ n ih => exact ih s.drawFree.2

@[simp] theorem State.setMemWords_nor (s : State) (a : Nat) (ws : List Word) : (s.setMemWords a ws).nor = s.nor := by
  induction ws generalizing s a with
  | nil => rfl
  | cons w ws ih => exact ih (s.setMem a w) (a + 1)

theorem State.storeRams_keeps (s : State) (a : Nat) (ws : List Word) : (s.storeRams a ws).nor = s.nor ∧ (s.storeRams a ws).regs = s.regs := by
  induction ws generalizing s a with
  | nil => exact ⟨rfl, rfl⟩
  | cons w ws ih =>
    have h := ih (s.storeRam a w) (a + 1)
    rw [s.storeRam_eq a w] at h
    rw [State.storeRams, s.storeRam_eq a w]
    exact h

@[simp] theorem State.countReg_nor (s : State) (a : Nat) : (s.countReg a).nor = s.nor := by
  simp only [State.countReg, State.nor_ite, State.setReg_nor, ite_self]

/-! ## The log's entries (R440 to R442) -/

@[simp] theorem State.setHead_nor (s : State) (i lap : Nat) : (s.setHead i lap).nor = s.nor := by
  rw [State.setHead, State.setReg_nor, State.setReg_nor, State.setReg_nor]

@[simp] theorem State.putEntry_nor (s : State) (code : Nat) (r : LogRequest) (d1 d2 : Word) : (s.putEntry code r d1 d2).nor = s.nor := by
  rw [State.putEntry, State.raise_nor, State.setHead_nor, State.setMemWords_nor]

@[simp] theorem State.putRequest_nor (s : State) (r : LogRequest) : (s.putRequest r).nor = s.nor := by
  rw [State.putRequest, State.foldl_nor fun t d => t.putEntry_nor _ _ _ _, State.putEntry_nor]

@[simp] theorem State.logReady_nor (s : State) : s.logReady.nor = s.nor := by
  simp only [State.logReady, State.nor_ite, State.putRequest_nor, State.setHead_nor, State.setBit_nor, ite_self]

/-! ## The Ashlar's commands (R331 to R348) -/

/-- A command that keeps the configuration memory where its checks pass keeps it. -/
theorem State.ashChecks_nor (s : State) (cs : List (Bool × Nat)) {go : Unit → AshOut} (h : (go ()).2.2.nor = s.nor) :
    (s.ashChecks cs go).2.2.nor = s.nor := by
  unfold State.ashChecks
  split
  · rfl
  · exact h

@[simp] theorem State.setAshJ_nor (s : State) (k : Nat) (v : Word) : (s.setAshJ k v).nor = s.nor := by
  rw [State.setAshJ, State.raiseAsh_nor, State.setMem_nor]

@[simp] theorem State.syncInfo_nor (s : State) : s.syncInfo.nor = s.nor := by
  rw [State.syncInfo, State.setFld_nor, State.setBit_nor]

@[simp] theorem State.clearKeys_nor (s : State) (mask : Nat) : (s.clearKeys mask).nor = s.nor := by
  refine State.foldl_nor (fun t i => ?_) _ _
  rw [State.nor_ite, State.setStored_nor, State.setKey_nor, ite_self]

@[simp] theorem State.takeEnvelope_nor (s : State) (p : List Nat) : (s.takeEnvelope p).nor = s.nor := by
  simp only [State.takeEnvelope, State.setStored_nor, State.setKey_nor, State.nor_ite, State.setAshJ_nor, State.mapAsh_nor, ite_self]

@[simp] theorem State.loadEnvelope_nor (s : State) (ws : List Word) : (s.loadEnvelope ws).2.2.nor = s.nor := by
  unfold State.loadEnvelope
  exact s.ashChecks_nor _ (s.takeEnvelope_nor _)

@[simp] theorem State.applySec_nor (s : State) (n : Nat) (ws : List Word) : (s.applySec n ws).2.2.nor = s.nor := by
  induction n generalizing s ws with
  | zero => rfl
  | succ n ih =>
    cases ws with
    | nil => rfl
    | cons w ws =>
      unfold State.applySec
      dsimp only
      split
      · rfl
      · split
        · exact ih _ _
        · split
          · split
            · rw [ih]
              exact s.ashChecks_nor _ (s.loadEnvelope_nor _)
            · exact s.ashChecks_nor _ (s.loadEnvelope_nor _)
          · rfl

@[simp] theorem State.verifyStream_nor (s : State) (lo hi : Nat) (rec_ : Bool) : (s.verifyStream lo hi rec_).2.2.nor = s.nor := by
  unfold State.verifyStream
  refine s.endStream.ashChecks_nor _ ?_
  cases rec_ <;> rfl

@[simp] theorem State.transferOwner_nor (s : State) : s.transferOwner.2.2.nor = s.nor := by
  unfold State.transferOwner
  refine s.ashChecks_nor _ ?_
  simp only [State.logRequest_nor, State.syncInfo_nor, State.clearKeys_nor, State.setAshJ_nor, State.mapAsh_nor]

@[simp] theorem State.debugUnlock_nor (s : State) : s.debugUnlock.2.2.nor = s.nor := by
  unfold State.debugUnlock
  refine s.ashChecks_nor _ ?_
  simp only [State.logRequest_nor, State.syncInfo_nor, State.setAshJ_nor, State.mapAsh_nor]

@[simp] theorem State.fcntReserve_nor (s : State) : s.fcntReserve.2.2.nor = s.nor := by
  unfold State.fcntReserve
  exact s.ashChecks_nor _ (s.setAshJ_nor _ _)

@[simp] theorem State.fcntRaise_nor (s : State) : s.fcntRaise.2.2.nor = s.nor := by
  unfold State.fcntRaise
  exact s.ashChecks_nor _ (s.setAshJ_nor _ _)

@[simp] theorem State.attest_nor (s : State) : s.attest.2.2.nor = s.nor := by
  unfold State.attest
  refine s.ashChecks_nor _ ?_
  simp only [State.drawSalt, State.drawWords_nor, State.logReady_nor]

@[simp] theorem State.flashWord_nor (s : State) (a failed : Nat) : (s.flashWord a failed).2.nor = s.nor := by
  unfold State.flashWord
  split
  · rfl
  · split
    · simp only [State.flagRaise, State.logRequest_nor, State.raise_nor, State.setBit_nor, State.setReg_nor]
    · simp only [State.buffer_nor, State.nor_ite, State.countReg_nor, ite_self]

@[simp] theorem State.recordBody_nor (s : State) (bank : Nat) (d : Option (List Nat)) : (s.recordBody bank d).nor = s.nor := rfl

@[simp] theorem State.verifyImage_nor (s : State) : s.verifyImage.2.2.nor = s.nor := by
  unfold State.verifyImage
  dsimp only
  split
  · rfl
  · rw [apply_ite fun o : AshOut => o.2.2.nor, State.recordBody_nor, State.recordBody_nor, ite_self]
    split
    · exact s.flashWord_nor _ _
    · rfl

theorem State.ashCommand_nor (s : State) (r : AshRun) : (s.ashCommand r).2.2.nor = s.nor := by
  unfold State.ashCommand
  dsimp only
  split
  case h_3 => exact s.ashChecks_nor _ (s.drawWords_nor _)
  case h_4 => exact s.mapAsh_nor _
  case h_5 => exact s.ashChecks_nor _ (s.mapAsh_nor _)
  case h_8 => exact s.ashChecks_nor _ (by rw [State.mapAsh_nor, State.setAshJ_nor])
  case h_10 => exact s.ashChecks_nor _ (by rw [State.syncInfo_nor, State.mapAsh_nor])
  case h_16 => exact s.fcntReserve_nor
  case h_17 => exact s.fcntRaise_nor
  case h_6 | h_13 => exact s.verifyStream_nor _ _ _
  case h_7 => exact s.verifyImage_nor
  case h_9 => exact s.applySec_nor _ _
  case h_11 => exact s.transferOwner_nor
  case h_12 => exact s.attest_nor
  case h_14 => exact s.ashChecks_nor _ (s.loadEnvelope_nor _)
  case h_15 => exact s.clearKeys_nor _
  case h_18 => exact s.ashChecks_nor _ (by rw [State.mapAsh_nor, State.drawWords_nor])
  case h_19 => exact s.debugUnlock_nor
  all_goals rfl

theorem State.ashOutcome_nor (s : State) (r : AshRun) : (s.ashOutcome r).2.2.nor = s.nor := by
  unfold State.ashOutcome
  dsimp only
  split
  · rfl
  · split
    · split <;> rfl
    · split
      · split <;> rfl
      · exact s.ashCommand_nor r

@[simp] theorem State.ashCommit_nor (s : State) : s.ashCommit.nor = s.nor := by
  unfold State.ashCommit
  split
  · rfl
  · split
    · rfl
    · exact s.ashOutcome_nor _

@[simp] theorem State.wrAshCmd_nor (s : State) (m : Master) (v : Word) : (s.wrAshCmd m v).nor = s.nor := by
  simp only [State.wrAshCmd, State.nor_ite, State.raiseAsh_nor, State.mapAsh_nor, State.setBit_nor, ite_self]

@[simp] theorem State.respond_nor (s : State) (o : Nat × List Word) : (s.respond o).nor = s.nor := by
  simp only [State.respond, State.raise_nor, State.mapAsh_nor, State.setBit_nor, State.setFld_nor]
  exact State.foldl_nor (fun _ _ => State.setReg_nor _ _ _) _ s

@[simp] theorem State.ashCall_nor (s : State) (m : Master) (code : Nat) (ws : List Word) : (s.ashCall m code ws).2.nor = s.nor := by
  have hreq (t : State) : ((List.range (min 512 ws.length)).foldl (fun t i => t.setReg (Reg.ASH_REQ i) (ws.getD i 0#24)) t).nor = t.nor :=
    State.foldl_nor (fun _ _ => State.setReg_nor _ _ _) _ t
  unfold State.ashCall
  dsimp only
  split <;> simp only [State.respond_nor, State.ashCommit_nor, State.wrAshCmd_nor, hreq, State.mapAsh_nor]

@[simp] theorem State.ashOnce_nor (s : State) (m : Master) (code : Nat) (ws : List Word) : (s.ashOnce m code ws).2.nor = s.nor := by
  simp only [State.ashOnce, State.freeMailbox, State.mapAsh_nor, State.resetRegs_nor, State.ashCall_nor]

/-! ## The journal step (R317, R362) and the rest of the work before a copy is chosen -/

@[simp] theorem State.journalPut_nor (s : State) (j : JournalOp) (n : Nat) : (s.journalPut j n).nor = s.nor := by
  unfold State.journalPut
  dsimp only
  split
  · rw [State.nor_ite, State.setMem_nor, ite_self]
  · rw [State.nor_ite, State.setMem_nor, State.setMemWords_nor, ite_self]

@[simp] theorem State.romJournal_nor (s : State) (off : Nat) (ws : List Word) : (s.romJournal off ws).nor = s.nor := by
  rw [State.romJournal, State.journalEnd, State.raise_nor, State.setLatch_nor, State.journalPut_nor]

@[simp] theorem State.setCopyState_nor (s : State) (st status : Nat) : (s.setCopyState st status).nor = s.nor := s.romJournal_nor _ _

@[simp] theorem State.syncNvm_nor (s : State) : s.syncNvm.nor = s.nor := by
  rw [State.syncNvm, State.setReg_nor, State.setBit_nor, State.setBit_nor]

@[simp] theorem State.nvmEnd_nor (s : State) (status cid : Nat) : (s.nvmEnd status cid).nor = s.nor := by
  rw [State.nvmEnd, State.raise_nor, State.setFld_nor, State.setFld_nor, State.syncNvm_nor]

@[simp] theorem State.setTicket_nor (s : State) (t st sector : Nat) : (s.setTicket t st sector).nor = s.nor := s.setMem_nor _ _

@[simp] theorem State.closeTickets_nor (s : State) (sector : Nat) : (s.closeTickets sector).nor = s.nor := by
  refine State.foldl_nor (fun t k => ?_) _ _
  rw [State.nor_ite, State.setTicket_nor, ite_self]

@[simp] theorem State.scrapSector_nor (s : State) (sector : Nat) : (s.scrapSector sector).nor = s.nor := rfl

@[simp] theorem State.blankSector_nor (s : State) (sector : Nat) : (s.blankSector sector).nor = s.nor := rfl

@[simp] theorem State.eraseDone_nor (s : State) (e : NvmErase) : (s.eraseDone e).nor = s.nor := by
  simp only [State.eraseDone, State.nvmEnd_nor, State.nor_ite, State.logRequest_nor, State.setBit_nor, State.setMem_nor,
    State.closeTickets_nor, State.blankSector_nor, ite_self]

/-- An accepted erase: the ticket, the unconstrained sector and the operation in progress. -/
theorem State.nvmRun_erase_nor (s : State) (a cid : Nat) (late : Bool) : (s.nvmRun 2 a cid late).nor = s.nor := by
  simp only [State.nvmRun]
  rw [State.syncNvm_nor, State.touchBank, State.recordBody_nor]
  rfl

@[simp] theorem State.romErase_nor (s : State) (sector : Nat) : (s.romErase sector).nor = s.nor := by
  unfold State.romErase
  split
  · exact s.nvmEnd_nor _ _
  · dsimp only
    split <;> simp only [State.eraseDone_nor, State.nvmRun_erase_nor, State.setReg_nor]

@[simp] theorem State.programRow_nor (s : State) (row : Nat) (ws : List Word) : (s.programRow row ws).nor = s.nor := by
  simp only [State.programRow, State.unbuffer_nor, State.setSpare_nor, State.setMemWords_nor]

@[simp] theorem State.romCopyRows_nor (s : State) (src dst : Nat) : (s.romCopyRows src dst).nor = s.nor := by
  refine State.foldl_nor (fun t i => ?_) _ _
  simp only [State.nvmEnd_nor, State.programRow_nor, State.touchBank, State.recordBody_nor]

@[simp] theorem State.copySectors_nor (verify retried : List Nat) (n k : Nat) (s : State) : (s.copySectors verify retried n k).2.nor = s.nor := by
  induction k generalizing s with
  | zero => rfl
  | succ k ih =>
    unfold State.copySectors
    split
    · rfl
    · split
      · simp only [State.nvmEnd_nor, State.scrapSector_nor, State.romErase_nor]
      · simp only [ih, State.romJournal_nor, State.romCopyRows_nor, State.romErase_nor, State.nor_ite, ite_self]

@[simp] theorem State.copyStep_nor (s : State) (verify retried : List Nat) : (s.copyStep verify retried).nor = s.nor := by
  simp only [State.copyStep, State.nor_ite, State.setCopyState_nor, State.copySectors_nor, State.romJournal_nor, State.ashOnce_nor, ite_self]

@[simp] theorem State.closeStray_nor (s : State) (t : Nat) : (s.closeStray t).nor = s.nor := by
  simp only [State.closeStray, State.nor_ite, State.logRequest_nor, State.setTicket_nor, ite_self]

@[simp] theorem State.journalStep_nor (s : State) (verify retried : List Nat) : (s.journalStep verify retried).nor = s.nor := by
  have herased (t : State) : ((List.range 512).foldl (fun t i => if t.isHalf (512 + i) then t.romErase (512 + i) else t) t).nor = t.nor :=
    State.foldl_nor (fun t i => by rw [State.nor_ite, State.romErase_nor, ite_self]) _ _
  rw [State.journalStep, State.nor_ite, State.raise_nor, State.setBit_nor, ite_self, State.copyStep_nor, herased, State.foldl_nor State.closeStray_nor]

@[simp] theorem State.logRtcLoss_nor (s : State) : s.logRtcLoss.nor = s.nor := by
  rw [State.logRtcLoss, State.nor_ite, State.setBit_nor, State.logRequest_nor, ite_self]

@[simp] theorem State.loadPaTable_nor (s : State) : s.loadPaTable.nor = s.nor := by
  unfold State.loadPaTable
  extract_lets put r
  have hput (t : State) (ws : List Word) : (put t ws).nor = t.nor := State.foldl_nor (fun _ _ => by rw [State.setReg_nor, State.setReg_nor]) _ _
  split
  · exact hput s _
  · rw [State.logRequest_nor, State.setBit_nor, hput, State.drawWords_nor]

@[simp] theorem State.spimUsed_nor (s : State) : s.spimUsed.nor = s.nor := by
  rw [State.spimUsed, State.raise_nor, State.setReg_nor, State.foldl_nor fun _ _ => by rw [State.setReg_nor]]
  exact s.drawWords_nor 64

end Sys2Proof.Machine

/-! PROOFS. Start-up (R288, R291 to R297, R469): what the ROM's closing work keeps of the boot outcome, what a write of SYS_CORECTL releases, the ways
in which the boot ends, and from these the statement about start-up. -/
namespace Sys2Proof.Machine

/-! ## What the ROM leaves: the configuration memory and the boot outcome (R293 to R297, R443) -/

/-- The configuration memory and SYS_BOOTSTAT are as they were. -/
structure State.KeepsBoot (s t : State) : Prop where
  nor : t.nor = s.nor
  bootstat : t.reg Reg.SYS_BOOTSTAT = s.reg Reg.SYS_BOOTSTAT

theorem State.KeepsBoot.rfl {s : State} : s.KeepsBoot s := ⟨Eq.refl _, Eq.refl _⟩

theorem State.KeepsBoot.trans {s t u : State} (h : s.KeepsBoot t) (g : t.KeepsBoot u) : s.KeepsBoot u :=
  ⟨g.nor.trans h.nor, g.bootstat.trans h.bootstat⟩

/-- The fields of the state beside the registers and the configuration memory do not count. -/
theorem State.KeepsBoot.of_regs {s t u : State} (h : s.KeepsBoot u) (hn : t.nor = u.nor) (hr : t.regs = u.regs) : s.KeepsBoot t :=
  ⟨hn.trans h.nor, (reg_of_regs hr).trans h.bootstat⟩

/-- An operation that may or may not take place. -/
theorem State.KeepsBoot.ite {s t : State} (h : s.KeepsBoot t) (c : Prop) [Decidable c] : s.KeepsBoot (if c then t else s) := by
  split
  · exact h
  · exact .rfl

section KeepsBoot
variable (s : State)

theorem State.keepsBoot_setReg {a : Nat} (v : Word) (h : Reg.SYS_BOOTSTAT ≠ a) : s.KeepsBoot (s.setReg a v) :=
  ⟨s.setReg_nor a v, s.reg_setReg_ne v h⟩

theorem State.keepsBoot_setFld {a : Nat} (lo len v : Nat) (h : Reg.SYS_BOOTSTAT ≠ a) : s.KeepsBoot (s.setFld a lo len v) :=
  s.keepsBoot_setReg _ h

theorem State.keepsBoot_setBit {a : Nat} (i : Nat) (b : Bool) (h : Reg.SYS_BOOTSTAT ≠ a) : s.KeepsBoot (s.setBit a i b) :=
  s.keepsBoot_setReg _ h

theorem State.keepsBoot_storeReg {a : Nat} (v : Word) (h : Reg.SYS_BOOTSTAT ≠ a) : s.KeepsBoot (s.storeReg a v) := by
  unfold State.storeReg
  split
  · exact .rfl
  · exact s.keepsBoot_setReg _ h

theorem State.keepsBoot_raise {n : Nat} (h : Reg.SYS_BOOTSTAT ∉ sourceRegs n) : s.KeepsBoot (s.raise n) := ⟨s.raise_nor n, s.reg_raise n h⟩

theorem State.keepsBoot_logRequest (code origin : Nat) (d1 d2 : Word) : s.KeepsBoot (s.logRequest code origin d1 d2) :=
  ⟨s.logRequest_nor _ _ _ _, s.reg_logRequest _ _ _ _ (by decide) (by decide)⟩

theorem State.keepsBoot_storeRams (a : Nat) (ws : List Word) : s.KeepsBoot (s.storeRams a ws) :=
  have ⟨hnor, hregs⟩ := s.storeRams_keeps a ws
  ⟨hnor, reg_of_regs hregs⟩

/-! The link-RAM loader (R288). -/

theorem State.mem1_setFld (a lo len v b : Nat) : (s.setFld a lo len v).mem1 b = s.mem1 b := by
  rw [State.mem1, State.setFld_mem, State.setFld_losses, State.setFld_scraps, State.mem1]

theorem State.keepsBoot_wrLklddat (v : Word) : s.KeepsBoot (s.wrLklddat v) := by
  unfold State.wrLklddat
  split
  · exact .rfl
  · exact State.KeepsBoot.trans (t := s.setMem _ v) ⟨s.setMem_nor _ v, reg_of_regs (s.setMem_regs _ v)⟩ (State.keepsBoot_setReg _ _ (by decide))

theorem State.keepsBoot_loadLink (off : Nat) (ws : List Word) : s.KeepsBoot (s.loadLink off ws) := by
  have hload (t : State) : t.KeepsBoot (ws.foldl State.wrLklddat t) :=
    ⟨State.foldl_nor (fun u w => (u.keepsBoot_wrLklddat w).nor) ws t,
      State.foldl_keeps (fun u => u.reg Reg.SYS_BOOTSTAT) (fun u w => (u.keepsBoot_wrLklddat w).bootstat) ws t⟩
  exact (s.keepsBoot_setReg _ (by decide)).trans (hload _)

/-! The bus held low and the host link of the safe commissioning state (R297, R411, R413). -/

theorem State.keepsBoot_hlOpen (typ : Nat) (ws : List Word) : s.KeepsBoot (s.hlOpen typ ws) :=
  State.KeepsBoot.of_regs (s.keepsBoot_setReg 0x800000#24 (by decide : _ ≠ Reg.HL_TXSTAT)) rfl rfl

theorem State.keepsBoot_reply (code tag status : Nat) (data : List Word) : s.KeepsBoot (s.reply code tag status data) := by
  have hdrawn : s.KeepsBoot (s.replyWords code tag status data).2 := KeepsBoot.rfl.of_regs s.drawFree_nor s.drawFree_regs
  unfold State.reply
  dsimp only
  split
  · exact hdrawn.of_regs rfl rfl
  · exact hdrawn.trans (State.keepsBoot_hlOpen _ _ _)

theorem State.keepsBoot_daliToHost : s.KeepsBoot s.daliToHost := by
  unfold State.daliToHost
  split
  · exact .rfl
  · refine State.KeepsBoot.trans ?_ (State.keepsBoot_reply _ _ _ _ _)
    exact State.KeepsBoot.rfl.of_regs rfl rfl

theorem State.keepsBoot_daliEnd (status ans : Nat) : s.KeepsBoot (s.daliEnd status ans) := by
  have hclear : s.KeepsBoot { s.setBit Reg.DALI_TXSTAT 23 false with dali := { s.dali with tx := none } } :=
    State.KeepsBoot.of_regs (s.keepsBoot_setBit 23 false (by decide : _ ≠ Reg.DALI_TXSTAT)) rfl rfl
  have hstatus (t : State) : t.KeepsBoot (t.daliStatus status ans) :=
    ((t.keepsBoot_setFld _ _ _ (by decide)).trans (State.keepsBoot_setFld _ _ _ _ (by decide))).trans (State.keepsBoot_raise _ (by decide))
  exact (hclear.trans (hstatus _)).trans (State.keepsBoot_daliToHost _)

theorem State.keepsBoot_wrDaliCtl (v : Word) : s.KeepsBoot (s.wrDaliCtl v) := by
  have hstore : s.KeepsBoot (s.storeReg Reg.DALI_CTL v) := s.keepsBoot_storeReg v (by decide)
  unfold State.wrDaliCtl
  dsimp only
  split
  · have hstat := hstore.trans (State.keepsBoot_setBit _ 23 false (by decide : _ ≠ Reg.DALI_STAT))
    split
    · exact hstat.trans ((State.keepsBoot_daliEnd _ _ _).ite _)
    · exact hstat
  · exact hstore

theorem State.keepsBoot_safeLink : s.KeepsBoot s.safeLink := by
  unfold State.safeLink
  split
  · exact .rfl
  · exact (s.keepsBoot_setReg _ (by decide)).trans (State.keepsBoot_setReg _ _ (by decide))

end KeepsBoot

/-! ## The release of LK and A1 (R469) -/

/-- A1 is released. -/
def State.freeA1 (s : State) : State := { s.setBit Reg.SYS_CORECTL 1 true with a1 := s.releasedA1 }

/-- LK is released. -/
def State.freeLk (s : State) : State :=
  { s.setBit Reg.SYS_CORECTL 0 true with lk := (s.setBit Reg.SYS_CORECTL 0 true).freshLk .run }

theorem State.wrCorectl_eq (s : State) (v : Word) : s.wrCorectl v =
    let t := if v.getLsbD 1 && ! s.bit Reg.SYS_CORECTL 1 then s.freeA1 else s
    if v.getLsbD 0 && ! t.bit Reg.SYS_CORECTL 0 then t.freeLk else t := rfl

section Release
variable (s : State)

theorem State.reg_freeA1 {a : Nat} (h : a ≠ Reg.SYS_CORECTL) : s.freeA1.reg a = s.reg a := s.reg_setBit_ne 1 true h

theorem State.reg_freeLk {a : Nat} (h : a ≠ Reg.SYS_CORECTL) : s.freeLk.reg a = s.reg a := s.reg_setBit_ne 0 true h

theorem State.corectl_freeA1 : s.freeA1.bit Reg.SYS_CORECTL 1 = true ∧ s.freeA1.bit Reg.SYS_CORECTL 0 = s.bit Reg.SYS_CORECTL 0 :=
  ⟨s.bit_setBit_same _ _ _ (by decide), s.keepsBits_setBit _ _ _ 0 (by decide) (by decide)⟩

theorem State.corectl_freeLk : s.freeLk.bit Reg.SYS_CORECTL 0 = true ∧ s.freeLk.bit Reg.SYS_CORECTL 1 = s.bit Reg.SYS_CORECTL 1 :=
  ⟨s.bit_setBit_same _ _ _ (by decide), s.keepsBits_setBit _ _ _ 1 (by decide) (by decide)⟩

/-- A released A1 stands at SYS_A1ENT, or waits where that is 0. -/
theorem State.releasedA1_runs : (s.reg Reg.SYS_A1ENT = 0#24 → s.releasedA1.run = .wfi)
    ∧ (s.reg Reg.SYS_A1ENT ≠ 0#24 → s.releasedA1.run = .run ∧ s.releasedA1.pc = s.reg Reg.SYS_A1ENT) := by
  unfold State.releasedA1
  refine ⟨fun h => ?_, fun h => ?_⟩
  · rw [if_pos h]
  · rw [if_neg h]
    exact ⟨rfl, rfl⟩

theorem fieldOf_bit (w : Word) (i : Nat) : fieldOf w i 1 = if w.getLsbD i then 1 else 0 := by
  have hbit : fieldOf w i 1 = (w.getLsbD i).toNat := by
    rw [fieldOf, Nat.shiftRight_eq_div_pow, Nat.pow_one, ← BitVec.testBit_toNat, Nat.toNat_testBit]
  rw [hbit]
  cases w.getLsbD i <;> rfl

/-- A released LK stands at word 0 of the active bank. -/
theorem State.freeLk_runs : s.freeLk.lk.run = .run ∧ s.freeLk.lk.pc.toNat = 0xD00000 + (if s.bit Reg.SLOT_LKBANK 23 then 0x4000 else 0) := by
  have hbank : (s.setBit Reg.SYS_CORECTL 0 true).lkBase = 0xD00000 + (if s.bit Reg.SLOT_LKBANK 23 then 0x4000 else 0) := by
    rw [State.lkBase, State.fld, s.reg_setBit_ne _ _ (by decide), fieldOf_bit, State.bit]
    cases (s.reg Reg.SLOT_LKBANK).getLsbD 23 <;> rfl
  have hpc : s.freeLk.lk.pc = BitVec.ofNat 24 (s.setBit Reg.SYS_CORECTL 0 true).lkBase := rfl
  refine ⟨rfl, ?_⟩
  rw [hpc, hbank]
  cases s.bit Reg.SLOT_LKBANK 23 <;> rfl

/-- The effect of a write on A1: where it releases it, A1 starts and its bit sets, and nothing else changes. -/
theorem State.freeA1_if (b : Bool) : let t := if b then s.freeA1 else s
    t.bit Reg.SYS_CORECTL 1 = (b || s.bit Reg.SYS_CORECTL 1) ∧ t.bit Reg.SYS_CORECTL 0 = s.bit Reg.SYS_CORECTL 0 ∧ s.KeepsRegs t [Reg.SYS_CORECTL]
      ∧ t.mem = s.mem ∧ t.a0 = s.a0 ∧ t.lk = s.lk ∧ t.nor = s.nor ∧ (b = false → t = s) ∧ (b = true → t.a1 = s.releasedA1) := by
  cases b with
  | false => exact ⟨rfl, rfl, fun _ _ => rfl, rfl, rfl, rfl, rfl, fun _ => rfl, nofun⟩
  | true => exact ⟨s.corectl_freeA1.1, s.corectl_freeA1.2, fun a h => s.reg_freeA1 (mt List.mem_singleton.mpr h), rfl, rfl, rfl, rfl, nofun, fun _ => rfl⟩

/-- The effect of a write on LK, in the same way. -/
theorem State.freeLk_if (b : Bool) : let t := if b then s.freeLk else s
    t.bit Reg.SYS_CORECTL 0 = (b || s.bit Reg.SYS_CORECTL 0) ∧ t.bit Reg.SYS_CORECTL 1 = s.bit Reg.SYS_CORECTL 1 ∧ s.KeepsRegs t [Reg.SYS_CORECTL]
      ∧ t.mem = s.mem ∧ t.a0 = s.a0 ∧ t.a1 = s.a1 ∧ t.nor = s.nor ∧ (b = false → t = s) ∧ (b = true → t.lk = s.freeLk.lk) := by
  cases b with
  | false => exact ⟨rfl, rfl, fun _ _ => rfl, rfl, rfl, rfl, rfl, fun _ => rfl, nofun⟩
  | true => exact ⟨s.corectl_freeLk.1, s.corectl_freeLk.2, fun a h => s.reg_freeLk (mt List.mem_singleton.mpr h), rfl, rfl, rfl, rfl, nofun, fun _ => rfl⟩

/-- What a write of a word to SYS_CORECTL leaves: each 1 written to a bit that is 0 sets it and releases its core, and nothing else changes. -/
def State.Releases (s : State) (v : Word) (t : State) : Prop :=
  let a1 := v.getLsbD 1 && ! s.bit Reg.SYS_CORECTL 1
  let lk := v.getLsbD 0 && ! s.bit Reg.SYS_CORECTL 0
  t.bit Reg.SYS_CORECTL 1 = (a1 || s.bit Reg.SYS_CORECTL 1) ∧ t.bit Reg.SYS_CORECTL 0 = (lk || s.bit Reg.SYS_CORECTL 0)
    ∧ s.KeepsRegs t [Reg.SYS_CORECTL] ∧ t.mem = s.mem ∧ t.a0 = s.a0 ∧ (a1 = false → t.a1 = s.a1) ∧ (lk = false → t.lk = s.lk)
    ∧ (a1 = false → lk = false → t.regs = s.regs)
    ∧ (a1 = true → s.reg Reg.SYS_A1ENT = 0#24 → t.a1.run = .wfi)
    ∧ (a1 = true → s.reg Reg.SYS_A1ENT ≠ 0#24 → t.a1.run = .run ∧ t.a1.pc = s.reg Reg.SYS_A1ENT)
    ∧ (lk = true → t.lk.run = .run ∧ t.lk.pc.toNat = 0xD00000 + (if s.bit Reg.SLOT_LKBANK 23 then 0x4000 else 0))

/-- A1 is released first, then LK, which does not depend on it. -/
theorem State.wrCorectl_releases (v : Word) : s.Releases v (s.wrCorectl v) ∧ (s.wrCorectl v).nor = s.nor := by
  rw [State.wrCorectl_eq]
  obtain ⟨h1, h0, hregs, hmem, ha0, hlk, hnor, hsame, ha1⟩ := s.freeA1_if (v.getLsbD 1 && ! s.bit Reg.SYS_CORECTL 1)
  generalize hA : (v.getLsbD 1 && ! s.bit Reg.SYS_CORECTL 1) = a1 at *
  generalize (if a1 then s.freeA1 else s) = t at *
  obtain ⟨g0, g1, gregs, gmem, ga0, ga1, gnor, gsame, glk⟩ := t.freeLk_if (v.getLsbD 0 && ! t.bit Reg.SYS_CORECTL 0)
  dsimp only
  unfold State.Releases
  rw [h0] at *
  generalize (v.getLsbD 0 && ! s.bit Reg.SYS_CORECTL 0) = lk at *
  generalize (if lk then t.freeLk else t) = u at *
  have hbank : t.bit Reg.SLOT_LKBANK 23 = s.bit Reg.SLOT_LKBANK 23 := bit_of_reg (hregs _ (by decide)) 23
  refine ⟨⟨?_, g0, fun a h => (gregs a h).trans (hregs a h), gmem.trans hmem, ga0.trans ha0, fun h => ?_, fun h => ?_, fun h h' => ?_,
    fun h he => ?_, fun h he => ?_, fun h => ?_⟩, gnor.trans hnor⟩
  · rw [g1, h1, hA]
  · rw [ga1, hsame (hA ▸ h)]
  · rw [gsame h, hlk]
  · rw [gsame h', hsame (hA ▸ h)]
  · rw [ga1, ha1 (hA ▸ h)]
    exact s.releasedA1_runs.1 he
  · rw [ga1, ha1 (hA ▸ h)]
    exact s.releasedA1_runs.2 he
  · rw [glk h, ← hbank]
    exact t.freeLk_runs

end Release

theorem State.keepsBoot_wrCorectl (s : State) (v : Word) : s.KeepsBoot (s.wrCorectl v) :=
  have ⟨⟨_, _, hregs, _⟩, hnor⟩ := s.wrCorectl_releases v
  ⟨hnor, hregs _ (by decide)⟩

theorem State.keepsBoot_logStart (s : State) (causes : Word) : s.KeepsBoot (s.logStart causes) := s.keepsBoot_logRequest _ _ _ _

theorem State.keepsBoot_bootInfo (s : State) (causes seq : Word) (stA stB l : Nat) (rs : List BootRec) :
    s.KeepsBoot (s.bootInfo causes seq stA stB l rs) := s.keepsBoot_storeRams _ _

/-! ## The ways in which the ROM ends (R293 to R297) -/

/-- A0 has left the ROM's own work: it issues at SYS_A0ENT, or the part is in the safe commissioning state. -/
def State.BootLeft (t : State) : Prop := t.a0.issued = true ∧ (t.a0.pc = t.reg Reg.SYS_A0ENT ∨ t.bit Reg.SYS_BOOTSTAT 15 = true)

section Ends
variable (s : State)

theorem State.romLeaves_left : (s.romLeaves (s.reg Reg.SYS_A0ENT)).BootLeft := by
  have hregs : (s.romLeaves (s.reg Reg.SYS_A0ENT)).regs = s.regs := s.drawWords_regs 30
  exact ⟨rfl, .inl (reg_of_regs hregs).symm⟩

theorem State.keepsBoot_romLeaves (pc : Word) : s.KeepsBoot (s.romLeaves pc) :=
  KeepsBoot.rfl.of_regs (s.drawWords_nor 30) (s.drawWords_regs 30)

theorem State.keepsBoot_romStays : s.KeepsBoot s.romStays := KeepsBoot.rfl.of_regs rfl rfl

theorem State.safeBegin_shows (status : Nat) : (s.safeBegin status).bit Reg.SYS_BOOTSTAT 15 = true
    ∧ (s.safeBegin status).fld Reg.SYS_BOOTSTAT 16 8 = status % 256 ∧ (s.safeBegin status).nor = s.nor := by
  have hbegun (t : State) : t.KeepsBoot (t.wrDaliCtl (t.reg Reg.DALI_CTL ||| 0x900000#24)).safeLink :=
    (t.keepsBoot_wrDaliCtl _).trans (State.keepsBoot_safeLink _)
  have h := hbegun ((s.setFld Reg.SYS_BOOTSTAT 16 8 status).setBit Reg.SYS_BOOTSTAT 15 true)
  refine ⟨(bit_of_reg h.bootstat 15).trans (State.bit_setBit_same _ _ _ _ (by decide)), ?_, h.nor⟩
  calc (s.safeBegin status).fld Reg.SYS_BOOTSTAT 16 8
      = ((s.setFld Reg.SYS_BOOTSTAT 16 8 status).setBit Reg.SYS_BOOTSTAT 15 true).fld Reg.SYS_BOOTSTAT 16 8 := fld_of_reg h.bootstat 16 8
    _ = (s.setFld Reg.SYS_BOOTSTAT 16 8 status).fld Reg.SYS_BOOTSTAT 16 8 := (State.keepsBits_setBit _ _ _ _).fld 16 8 (by decide) (by decide)
    _ = status % 256 := s.fld_setFld_same _ _ _ _ (by decide)

end Ends

/-! ## The clocks of the safe commissioning state (R290, R297) -/

section SafeClocks
variable (s : State)

theorem State.setSwitch_nor (dest : Option Nat) (forced : Bool) : (s.setSwitch dest forced).nor = s.nor := State.setBit_nor _ _ _ _

theorem State.takeSource_nor (k : Nat) : (s.takeSource k).nor = s.nor := by
  unfold State.takeSource
  dsimp only
  rw [State.setSwitch_nor, State.setFld_nor]

theorem State.bringUp_nor (v : Word) (refUp pllUp : Bool) : (s.bringUp v refUp pllUp).2.nor = s.nor := by
  unfold State.bringUp
  extract_lets s1 s2 s3
  have h2 : s2.nor = s.nor := by rw [State.setReg_nor, State.setBit_nor, State.setReg_nor]
  have h3 : s3.nor = s.nor := by rw [State.setReg_nor, State.setBit_nor, State.setBit_nor, h2]
  split
  · exact s.setReg_nor _ _
  · split
    · exact h2
    · dsimp only
      rw [State.takeSource_nor, h3]

theorem State.dropSources_nor : s.dropSources.nor = s.nor := by
  have hcal : (if s.bit Reg.SYS_CLKCTL 20 then s else s.abandonCal).nor = s.nor := by
    rw [State.nor_ite, State.abandonCal, State.setBit_nor, ite_self]
  unfold State.dropSources
  dsimp only
  rw [State.setBit_nor, State.setBit_nor, State.setBit_nor, hcal]

theorem State.safeClocks_nor (xtal tcxo pll : Bool) : (s.safeClocks xtal tcxo pll).2.nor = s.nor := by
  unfold State.safeClocks
  split
  · exact s.bringUp_nor _ _ _
  · split
    · exact s.bringUp_nor _ _ _
    · exact (State.dropSources_nor _).trans (s.setReg_nor _ _)

end SafeClocks

/-! ## The boot as a whole (R291 to R297) -/

section Boot
variable (s : State)

/-- What the safe commissioning state shows, however the boot came to it. -/
theorem State.safeState_shows (causes : Word) (status stA stB l : Nat) (rs : List BootRec) (clocked xtal tcxo pll : Bool) :
    let t := s.safeState causes status stA stB l rs clocked xtal tcxo pll
    t.BootLeft ∧ t.locked = true ∧ t.bit Reg.SYS_BOOTSTAT 15 = true ∧ t.fld Reg.SYS_BOOTSTAT 16 8 = status % 256 ∧ t.nor = s.nor := by
  unfold State.safeState
  extract_lets c listen s1 s2 s3
  have hclocks : c.2.nor = s.nor := by
    unfold c
    split
    · rfl
    · exact s.safeClocks_nor _ _ _
  obtain ⟨hsafe, hstatus, hnor⟩ := c.2.safeBegin_shows status
  have hload : s1.KeepsBoot s2 := (s1.keepsBoot_loadLink _ _).ite _
  have hinfo := hload.trans (s2.keepsBoot_bootInfo causes 0#24 stA stB l rs)
  have hbits := State.keepsBits_setBit (s2.bootInfo causes 0#24 stA stB l rs) Reg.SYS_BOOTSTAT 11 true
  have hend := (State.keepsBoot_logStart ((s2.bootInfo causes 0#24 stA stB l rs).setBit Reg.SYS_BOOTSTAT 11 true) causes).trans
    (((s3.keepsBoot_wrCorectl 1#24).ite (listen = true)).trans (State.keepsBoot_romStays _))
  have h15 := (bit_of_reg hend.bootstat 15).trans ((hbits 15 (by decide) (by decide)).trans ((bit_of_reg hinfo.bootstat 15).trans hsafe))
  refine ⟨⟨rfl, .inr h15⟩, (bit_of_reg hend.bootstat 11).trans (State.bit_setBit_same _ _ _ _ (by decide)), h15, ?_, ?_⟩
  · exact (fld_of_reg hend.bootstat 16 8).trans ((hbits.fld 16 8 (by decide) (by decide)).trans ((fld_of_reg hinfo.bootstat 16 8).trans hstatus))
  · exact hend.nor.trans ((State.setBit_nor _ _ _ _).trans (hinfo.nor.trans (hnor.trans hclocks)))

theorem State.bootDone_shows (causes : Word) (copy stA stB : Nat) (rs : List BootRec) (lkLoaded : Bool) :
    let t := s.bootDone causes copy stA stB rs lkLoaded
    t.BootLeft ∧ t.locked = true := by
  unfold State.bootDone
  extract_lets seq s1 s2 s3 s4 s5
  have hend := (State.keepsBoot_logStart (s2.setBit Reg.SYS_BOOTSTAT 11 true) causes).trans
    (((s3.keepsBoot_wrCorectl 1#24).ite (lkLoaded = true)).trans
      (((s4.keepsBoot_wrCorectl 2#24).ite ((rs.any fun r => recTag r == 0x002) = true)).trans (s5.keepsBoot_romLeaves (s5.reg Reg.SYS_A0ENT))))
  exact ⟨s5.romLeaves_left, (bit_of_reg hend.bootstat 11).trans (State.bit_setBit_same _ _ _ _ (by decide))⟩

theorem State.bootApply_shows (causes : Word) (copy stA stB : Nat) (rs : List BootRec) (xtal tcxo pll : Bool) :
    let t := s.bootApply causes copy stA stB rs xtal tcxo pll
    t.BootLeft ∧ t.locked = true := by
  have hsafe (u : State) (status l : Nat) (clocked : Bool) :
      (u.safeState causes status stA stB l rs clocked xtal tcxo pll).BootLeft ∧ (u.safeState causes status stA stB l rs clocked xtal tcxo pll).locked = true :=
    have ⟨hleft, hlock, _⟩ := u.safeState_shows causes status stA stB l rs clocked xtal tcxo pll
    ⟨hleft, hlock⟩
  unfold State.bootApply
  dsimp only
  split
  · exact hsafe _ _ _ _
  · split
    · exact hsafe _ _ _ _
    · exact State.bootDone_shows _ _ _ _ _ _ _

theorem State.boot_shows (bad verify retried : List Nat) (xtal tcxo pll : Bool) :
    let t := s.boot bad verify retried xtal tcxo pll
    t.BootLeft ∧ t.locked = true := by
  unfold State.boot
  dsimp only
  split
  · exact State.bootApply_shows _ _ _ _ _ _ _ _ _
  · next _ _ _ _ u _ =>
    obtain ⟨hleft, hlock, _⟩ := u.safeState_shows (s.reg Reg.SYS_RSTCAUSE) _ _ _ 0 [] false xtal tcxo pll
    exact ⟨hleft, hlock⟩

theorem State.norBlockOk_congr {s t : State} (h : t.nor = s.nor) (bad : List Nat) (copy b : Nat) : t.norBlockOk bad copy b = s.norBlockOk bad copy b := by
  have hoctet : t.norOctet = s.norOctet := by
    funext a
    rw [State.norOctet, h, State.norOctet]
  have hword : t.norWord = s.norWord := by
    funext a
    rw [State.norWord, hoctet, State.norWord]
  rw [State.norBlockOk, State.norBlock, hword, State.norBlockOk, State.norBlock]

/-- A header that fails its CRC has the status CRC_FAIL. -/
theorem State.headerStatus_bad {bad : List Nat} {copy : Nat} (h : s.norBlockOk bad copy 0 = false) : s.headerStatus bad copy = 8 := by
  unfold State.headerStatus
  rw [h]
  rfl

/-- The state in which the ROM looks at the headers of the two copies. -/
def State.beforeCopies (verify retried : List Nat) : State :=
  ((((s.journalStep verify retried).logRtcLoss).loadPaTable).setReg Reg.SPIM_CTL 0x800000#24).spimUsed

theorem State.beforeCopies_nor (verify retried : List Nat) : (s.beforeCopies verify retried).nor = s.nor := by
  rw [State.beforeCopies, State.spimUsed_nor, State.setReg_nor, State.loadPaTable_nor, State.logRtcLoss_nor, State.journalStep_nor]

/-- Where neither header passes its CRC there is no copy to try. -/
theorem State.boot_noHeader {bad : List Nat} (verify retried : List Nat) (xtal tcxo pll : Bool) (hA : s.norBlockOk bad 0 0 = false)
    (hB : s.norBlockOk bad 1 0 = false) : s.boot bad verify retried xtal tcxo pll =
      (s.beforeCopies verify retried).safeState (s.reg Reg.SYS_RSTCAUSE) 8 8 8 0 [] false xtal tcxo pll := by
  have hstatus {copy : Nat} (h : s.norBlockOk bad copy 0 = false) : (s.beforeCopies verify retried).headerStatus bad copy = 8 :=
    State.headerStatus_bad _ ((State.norBlockOk_congr (s.beforeCopies_nor verify retried) bad copy 0).trans h)
  unfold State.boot
  extract_lets causes s1 stA stB
  rw [show stA = 8 from hstatus hA, show stB = 8 from hstatus hB]
  rfl

theorem State.restart_left (verify retried : List Nat) : (s.restart verify retried).BootLeft := by
  unfold State.restart
  extract_lets causes s1 b s2 s3 u
  split
  · exact s3.romLeaves_left
  · have hend := ((u.keepsBoot_storeRams 0x200000 [u.reg Reg.SYS_BOOTSTAT, causes]).trans (State.keepsBoot_logStart _ causes)).trans (State.keepsBoot_romStays _)
    exact ⟨rfl, .inr ((bit_of_reg hend.bootstat 15).trans (b.2.safeBegin_shows 0x46).1)⟩

end Boot

/-! ## The clauses of the statement -/

section Commands
variable {s : State} (bad verify retried : List Nat) (xtal tcxo pll : Bool) (v : Word)

theorem exec_bootSequence (hr : s.romRuns = true) (hl : s.locked = false) :
    exec (.bootSequence bad verify retried xtal tcxo pll) s = .next (s.boot bad verify retried xtal tcxo pll) :=
  if_pos (by simp only [hr, hl, Bool.not_false, Bool.and_self])

theorem exec_applicationRestart (hr : s.romRuns = true) (hl : s.locked = true) :
    exec (.applicationRestart verify retried) s = .next (if s.bit Reg.SYS_BOOTSTAT 15 then s.romStays else s.restart verify retried) :=
  if_pos (by simp only [hr, hl, Bool.and_self])

/-- Where A0 does not stand at the start of the ROM, neither command has an effect. -/
theorem startUp_waits (hr : s.romRuns = false) :
    ∀ i ∈ [Instr.bootSequence bad verify retried xtal tcxo pll, .applicationRestart verify retried], Answers i s fun t => t = s := by
  have hcond (b : Bool) : ¬ ((s.romRuns && b) = true) := by simp only [hr, Bool.false_and, Bool.false_eq_true, not_false_eq_true]
  simp only [List.forall_mem_cons]
  exact ⟨⟨s, if_neg (hcond _), rfl⟩, ⟨s, if_neg (hcond _), rfl⟩, List.forall_mem_nil _⟩

theorem applicationRestart_left (hr : s.romRuns = true) (hl : s.locked = true) : Answers (.applicationRestart verify retried) s State.BootLeft := by
  refine ⟨_, exec_applicationRestart verify retried hr hl, ?_⟩
  split
  · next h => exact ⟨rfl, .inr h⟩
  · exact s.restart_left verify retried

/-- The link-RAM loader takes a word at its address while LK is held and the configuration is open, and none afterwards (R288). -/
theorem linkRamLoad_stores (ha : s.asleep = false) (hk : s.bit Reg.SYS_CORECTL 0 = false) (hl : s.locked = false) : Answers (.linkRamLoad v) s fun t =>
    t.mem1 (0xD00000 + s.fld Reg.SYS_LKLDADR 0 14) = v ∧ (∀ b, b ≠ 0xD00000 + s.fld Reg.SYS_LKLDADR 0 14 → t.mem1 b = s.mem1 b)
      ∧ t.fld Reg.SYS_LKLDADR 0 14 = (s.fld Reg.SYS_LKLDADR 0 14 + 1) % 16384 ∧ s.KeepsRegs t [Reg.SYS_LKLDADR] := by
  have hexec : exec (.linkRamLoad v) s = .next (s.wrLklddat v) := congrArg Host.Outcome.next (State.onBus_awake ha _)
  refine ⟨_, hexec, ?_⟩
  rw [State.wrLklddat, if_neg (by simp only [hk, hl, Bool.or_self, Bool.false_eq_true, not_false_eq_true])]
  refine ⟨?_, fun b hb => ?_, State.fld_setFld_same _ _ _ _ _ (by decide), fun a h => ?_⟩
  · rw [State.mem1_setFld, State.mem1_setMem, if_pos rfl]
  · rw [State.mem1_setFld, State.mem1_setMem, if_neg hb]
  · exact (State.reg_setFld_ne _ _ _ _ (mt List.mem_singleton.mpr h)).trans (State.reg_of_regs (s.setMem_regs _ _))

theorem linkRamLoad_ignored (ha : s.asleep = false) (h : s.bit Reg.SYS_CORECTL 0 = true ∨ s.locked = true) : Answers (.linkRamLoad v) s fun t => t = s := by
  have hexec : exec (.linkRamLoad v) s = .next (s.wrLklddat v) := congrArg Host.Outcome.next (State.onBus_awake ha _)
  refine ⟨_, hexec, if_pos ?_⟩
  rwa [Bool.or_eq_true]

/-- The two commands that release a core are the same write of SYS_CORECTL. -/
theorem exec_release_core (ha : s.asleep = false) : ∀ i ∈ [Instr.a1Release v, .lkRelease v], exec i s = .next (s.wrCorectl v) := by
  simp only [List.forall_mem_cons]
  exact ⟨congrArg Host.Outcome.next (State.onBus_awake ha _), congrArg Host.Outcome.next (State.onBus_awake ha _), List.forall_mem_nil _⟩

/-- A register write of any master that reaches SYS_CORECTL is that write too, with the master's raised priority taken. -/
theorem exec_write_corectl {m : Master} (ha : s.asleep = false) (hr : s.reaches m Reg.SYS_CORECTL true = true) :
    exec (.registerWrite m 0xF00061#24 v) s = .next (((s.served m).wrCorectl v).noteBus false) := by
  have hbus : s.busWrite m Reg.SYS_CORECTL v = (0, (s.served m).wrCorectl v) := if_neg (by
    rw [show (s.served m).reaches m Reg.SYS_CORECTL true = true from hr]
    decide)
  refine congrArg Host.Outcome.next (?_ : s.busPut m Reg.SYS_CORECTL v = _)
  rw [State.busPut, if_neg (ne_true_of_eq_false ha), hbus]
  rfl

theorem registerWrite_releases {m : Master} (ha : s.asleep = false) (hr : s.reaches m Reg.SYS_CORECTL true = true) :
    Answers (.registerWrite m 0xF00061#24 v) s (s.Releases v) :=
  ⟨_, exec_write_corectl v ha hr, ((s.served m).wrCorectl_releases v).1⟩

theorem State.wrCorectl_zero (s : State) {v : Word} (h0 : v.getLsbD 0 = false) (h1 : v.getLsbD 1 = false) : s.wrCorectl v = s := by
  simp only [State.wrCorectl, h0, h1, Bool.false_and, Bool.false_eq_true, if_false]

end Commands

/-- Settles O40, clause by clause. R469 gives the releases alone; that a released A1 stands at SYS_A1ENT at once is assumption 86, and that a restart
shows the safe commissioning state in spite of the lock is assumption 41. -/
theorem startUp : Obligations.StartUp := by
  intro s bad verify retried xtal tcxo pll v
  refine ⟨fun hr hl => ⟨_, exec_bootSequence bad verify retried xtal tcxo pll hr hl, s.boot_shows bad verify retried xtal tcxo pll⟩,
    fun hr hl hA hB => ⟨_, exec_bootSequence bad verify retried xtal tcxo pll hr hl, ?_⟩,
    startUp_waits bad verify retried xtal tcxo pll, applicationRestart_left verify retried,
    fun hr hl hsafe => ⟨_, exec_applicationRestart verify retried hr hl, if_pos hsafe⟩,
    fun ha => ⟨linkRamLoad_stores v ha, linkRamLoad_ignored v ha, ?_, fun h0 h1 i hi => ⟨_, exec_release_core v ha i hi, s.wrCorectl_zero h0 h1⟩⟩⟩
  · rw [s.boot_noHeader verify retried xtal tcxo pll hA hB]
    obtain ⟨_, _, h15, hstatus, hnor⟩ := (s.beforeCopies verify retried).safeState_shows (s.reg Reg.SYS_RSTCAUSE) 8 8 8 0 [] false xtal tcxo pll
    exact ⟨h15, hstatus, hnor.trans (s.beforeCopies_nor verify retried)⟩
  · have hreleases := (s.wrCorectl_releases v).1
    exact ⟨⟨_, exec_release_core v ha _ List.mem_cons_self, hreleases⟩, ⟨_, exec_release_core v ha _ (List.mem_cons_of_mem _ List.mem_cons_self), hreleases⟩,
      fun m _ hr => registerWrite_releases v ha hr⟩

end Sys2Proof.Machine

/-! PROOFS. The Core Sample log (R439 to R445): the length of a chain value, memory words in a row, what an entry leaves, the search for the newest entry,
and what firmware's requests queue; from these the statement about the log. -/
namespace Sys2Proof.Machine

/-! ## A chain value is two words (R2, R441) -/

theorem length_octetsOfNat (n v : Nat) : (octetsOfNat n v).length = n := by
  induction n generalizing v with
  | zero => rfl
  | succ n ih => rw [octetsOfNat, List.length_append, ih, List.length_singleton]

theorem length_packOctets (os : List Nat) : (packOctets os).length = (os.length + 2) / 3 := by
  induction os using packOctets.induct with
  | case1 a b c os ih =>
    simp only [packOctets, List.length_cons, ih]
    omega
  | case2 | case3 | case4 => simp [packOctets]

theorem length_sha512Round {st : List (BitVec 64)} (h : st.length = 8) (kw : BitVec 64 × BitVec 64) : (sha512Round st kw).length = 8 := by
  unfold sha512Round
  split
  · rfl
  · exact h

theorem length_sha512Block {st : List (BitVec 64)} (h : st.length = 8) (block : List Nat) : (sha512Block st block).length = 8 := by
  rw [sha512Block, List.length_zipWith, h, List.foldlRecOn (motive := fun t => t.length = 8) _ sha512Round h fun _ ht kw _ => length_sha512Round ht kw]
  rfl

theorem length_sha512Out (st : List (BitVec 64)) : (sha512Out st).length = 8 * st.length := by
  unfold sha512Out
  induction st with
  | nil => rfl
  | cons w st ih => rw [List.flatMap_cons, List.length_append, length_octetsOfNat, ih, List.length_cons, Nat.mul_succ, Nat.add_comm]

theorem length_sha512 (os : List Nat) : (sha512 os).length = 64 := by
  rw [sha512, length_sha512Out, List.foldlRecOn (motive := fun t => t.length = 8) _ sha512Block (by rfl) fun _ ht block _ => length_sha512Block ht block]

theorem length_chainWords (prev ws : List Word) : (chainWords prev ws).length = 2 := by
  rw [chainWords, length_packOctets, List.length_take, length_sha512]
  rfl

/-! ## Memory words in a row -/

theorem State.setMemWords_eq (s : State) (a : Nat) (ws : List Word) : s.setMemWords a ws = { s with mem := (s.setMemWords a ws).mem } := by
  induction ws generalizing s a with
  | nil => rfl
  | cons w ws ih => rw [setMemWords, ih]; rfl

theorem State.setMemWords_cs (s : State) (a : Nat) (ws : List Word) : (s.setMemWords a ws).cs = s.cs := by rw [setMemWords_eq]

theorem State.setMemWords_regs (s : State) (a : Nat) (ws : List Word) : (s.setMemWords a ws).regs = s.regs := by rw [setMemWords_eq]

theorem State.setMemWords_asleep (s : State) (a : Nat) (ws : List Word) : (s.setMemWords a ws).asleep = s.asleep := by rw [setMemWords_eq]; rfl

theorem State.mem1_setMemWords_outside (s : State) {a b : Nat} (ws : List Word) (h : b < a ∨ a + ws.length ≤ b) : (s.setMemWords a ws).mem1 b = s.mem1 b := by
  induction ws generalizing s a with
  | nil => rfl
  | cons w ws ih =>
    rw [List.length_cons] at h
    rw [setMemWords, ih _ (by omega), mem1_setMem, if_neg (by omega)]

theorem State.memWords_congr {s t : State} (h : ∀ x, t.mem1 x = s.mem1 x) (a n : Nat) : t.memWords a n = s.memWords a n := by
  induction n generalizing a with
  | zero => rfl
  | succ n ih => rw [memWords, memWords, h, ih]

@[simp] theorem State.length_memWords (s : State) (a n : Nat) : (s.memWords a n).length = n := by
  induction n generalizing a with
  | zero => rfl
  | succ n ih => rw [memWords, List.length_cons, ih]

theorem State.memWords_add (s : State) (a m n : Nat) : s.memWords a (m + n) = s.memWords a m ++ s.memWords (a + m) n := by
  induction m generalizing a with
  | zero => rw [Nat.zero_add]; rfl
  | succ m ih => rw [Nat.succ_add, memWords, memWords, ih, List.cons_append, Nat.add_right_comm, Nat.add_assoc]

theorem State.memWords_setMemWords (s : State) (a : Nat) (ws : List Word) : (s.setMemWords a ws).memWords a ws.length = ws := by
  induction ws generalizing s a with
  | nil => rfl
  | cons w ws ih => rw [setMemWords, List.length_cons, memWords, ih, mem1_setMemWords_outside _ _ (by omega), mem1_setMem, if_pos rfl]

/-- Two lists written one after the other are each read back. -/
theorem State.memWords_setMemWords_append (s : State) (a : Nat) (us vs : List Word) :
    (s.setMemWords a (us ++ vs)).memWords a us.length = us ∧ (s.setMemWords a (us ++ vs)).memWords (a + us.length) vs.length = vs := by
  have h := s.memWords_setMemWords a (us ++ vs)
  rw [List.length_append, memWords_add] at h
  exact List.append_inj h (State.length_memWords ..)

/-! ## The head and an entry (R439, R441, R444) -/

theorem State.mem1_raise (s : State) (n x : Nat) : (s.raise n).mem1 x = s.mem1 x := by rw [raise_eq]; rfl

theorem State.raise_cs (s : State) (n : Nat) : (s.raise n).cs = s.cs := by rw [raise_eq]

theorem State.setHead_regs (s : State) (i lap : Nat) : (s.setHead i lap).regs = (((s.setReg Reg.CS_HEAD0 ((s.chainAt i).getD 0 0#24)).setReg Reg.CS_HEAD1
    ((s.chainAt i).getD 1 0#24)).setReg Reg.CS_HIDX (BitVec.ofNat 24 (lap * 4096 + i))).regs := rfl

theorem State.setHead_mem (s : State) (i lap : Nat) : (s.setHead i lap).mem = s.mem := rfl

theorem State.mem1_setHead (s : State) (i lap x : Nat) : (s.setHead i lap).mem1 x = s.mem1 x := rfl

theorem State.setHead_cs (s : State) (i lap : Nat) : (s.setHead i lap).cs = { s.cs with index := i, lap := lap } := rfl

theorem State.setHead_asleep (s : State) (i lap : Nat) : (s.setHead i lap).asleep = s.asleep := rfl

theorem State.reg_setHead_ne (s : State) (i lap : Nat) {a : Nat} (h : a ∉ [Reg.CS_HEAD0, Reg.CS_HEAD1, Reg.CS_HIDX]) :
    (s.setHead i lap).reg a = s.reg a := by
  simp only [List.mem_cons, List.not_mem_nil, or_false, not_or] at h
  obtain ⟨h0, h1, hi⟩ := h
  rw [reg_of_regs (setHead_regs ..), reg_setReg_ne _ _ hi, reg_setReg_ne _ _ h1, reg_setReg_ne _ _ h0]

/-- The three head registers describe the entry. -/
theorem State.setHead_shows (s : State) (i lap : Nat) : (s.setHead i lap).reg Reg.CS_HEAD0 = (s.chainAt i).getD 0 0#24
    ∧ (s.setHead i lap).reg Reg.CS_HEAD1 = (s.chainAt i).getD 1 0#24 ∧ (s.setHead i lap).reg Reg.CS_HIDX = BitVec.ofNat 24 (lap * 4096 + i) := by
  simp only [reg_of_regs (s.setHead_regs i lap), reg_setReg]
  exact ⟨rfl, rfl, rfl⟩

theorem State.nextEntry_lap_lt {s : State} (h : s.cs.lap < 4095) : s.nextEntry.2 < 4095 := by
  unfold nextEntry
  split
  · dsimp only
    split <;> omega
  · exact h

/-- Words 0 to 5 of an entry that a request makes, as R439 lays them out. -/
def LogRequest.words (r : LogRequest) (code lap : Nat) : List Word :=
  [BitVec.ofNat 24 (code * 65536 + r.origin * 8192 + (if r.tq then 4096 else 0) + lap), BitVec.ofNat 24 r.asn,
    BitVec.ofNat 24 (r.time / 2 ^ 24 % 256 * 65536 + r.asn / 2 ^ 24 % 65536), BitVec.ofNat 24 r.time, r.d1, r.d2]

theorem entryWords_eq {code lap : Nat} {r : LogRequest} (hc : code < 256) (ho : r.origin < 8) (hl : lap < 4096) :
    entryWords code lap r r.d1 r.d2 = r.words code lap := by
  rw [entryWords, Nat.mod_eq_of_lt hc, Nat.mod_eq_of_lt ho, Nat.mod_eq_of_lt hl, LogRequest.words]
  cases r.tq <;> rfl

/-- A request's entry stands after the newest one, extends the chain and is the head, with source 81 pending (R439, R441, R444). -/
def State.WroteEntry (s : State) (code : Nat) (r : LogRequest) (t : State) : Prop :=
  let e := s.nextEntry
  let a := entryAddr e.1
  let ws := r.words code e.2
  let chain := chainWords (s.chainAt s.cs.index) ws
  t.memWords a 6 = ws ∧ t.memWords (a + 6) 2 = chain ∧ (∀ x, (x < a ∨ a + 8 ≤ x) → t.mem1 x = s.mem1 x)
    ∧ t.reg Reg.CS_HEAD0 = chain.getD 0 0#24 ∧ t.reg Reg.CS_HEAD1 = chain.getD 1 0#24 ∧ t.reg Reg.CS_HIDX = BitVec.ofNat 24 (e.2 * 4096 + e.1)
    ∧ t.cs.index = e.1 ∧ t.cs.lap = e.2 ∧ t.isPending 81 = true

theorem State.nextEntry_congr {s u : State} (hi : u.cs.index = s.cs.index) (hl : u.cs.lap = s.cs.lap) : u.nextEntry = s.nextEntry := by
  rw [nextEntry, nextEntry, hi, hl]

/-- Where an entry goes and what it extends hangs on memory and on the newest entry alone. -/
theorem State.WroteEntry.congr {s u t : State} {code : Nat} {r : LogRequest} (hm : ∀ x, u.mem1 x = s.mem1 x) (hi : u.cs.index = s.cs.index)
    (hl : u.cs.lap = s.cs.lap) (h : u.WroteEntry code r t) : s.WroteEntry code r t := by
  have hchain : u.chainAt u.cs.index = s.chainAt s.cs.index := by rw [chainAt, chainAt, hi, memWords_congr hm]
  simpa only [WroteEntry, nextEntry_congr hi hl, hchain, hm] using h

/-- The count of dropped requests starts again (R444). -/
def State.clearLost (s : State) : State := { s with cs := { s.cs with lostSince := 0 } }

theorem State.clearLost_cs (s : State) : s.clearLost.cs = { s.cs with lostSince := 0 } := rfl

theorem State.WroteEntry.clearLost {s t : State} {code : Nat} {r : LogRequest} (h : s.WroteEntry code r t) : s.WroteEntry code r t.clearLost := h

theorem State.putEntry_cs (s : State) (code : Nat) (r : LogRequest) (d1 d2 : Word) :
    (s.putEntry code r d1 d2).cs = { s.cs with index := s.nextEntry.1, lap := s.nextEntry.2 } := by
  rw [putEntry, raise_cs, setHead_cs, setMemWords_cs]

theorem State.putEntry_queue (s : State) (code : Nat) (r : LogRequest) (d1 d2 : Word) : (s.putEntry code r d1 d2).cs.queue = s.cs.queue := by
  rw [putEntry_cs]

theorem State.reg_putEntry (s : State) (code : Nat) (r : LogRequest) (d1 d2 : Word) {a : Nat} (hh : a ∉ [Reg.CS_HEAD0, Reg.CS_HEAD1, Reg.CS_HIDX])
    (hs : a ∉ sourceRegs 81) : (s.putEntry code r d1 d2).reg a = s.reg a := by
  rw [putEntry, reg_raise _ 81 hs, reg_setHead_ne _ _ _ hh, reg_of_regs (setMemWords_regs ..)]

/-- An entry's six words and its chain value are read back, and memory outside the entry is kept. -/
theorem State.setMemWords_entry (s : State) (i : Nat) {ws chain : List Word} (h6 : ws.length = 6) (h2 : chain.length = 2) :
    let u := s.setMemWords (entryAddr i) (ws ++ chain)
    u.memWords (entryAddr i) 6 = ws ∧ u.chainAt i = chain ∧ ∀ x, (x < entryAddr i ∨ entryAddr i + 8 ≤ x) → u.mem1 x = s.mem1 x := by
  have h8 : (ws ++ chain).length = 8 := by rw [List.length_append, h6, h2]
  obtain ⟨hfirst, hlast⟩ := s.memWords_setMemWords_append (entryAddr i) ws chain
  rw [h6] at hfirst hlast
  rw [h2] at hlast
  exact ⟨hfirst, hlast, fun x hx => s.mem1_setMemWords_outside _ (by rwa [h8])⟩

/-- What is shown when an entry that stands in memory becomes the head: its chain value and its place, and source 81; memory is kept (R444). -/
theorem State.setHead_raise_shows {s : State} (ha : s.asleep = false) (i lap : Nat) :
    let t := (s.setHead i lap).raise 81
    (∀ x, t.mem1 x = s.mem1 x) ∧ t.reg Reg.CS_HEAD0 = (s.chainAt i).getD 0 0#24 ∧ t.reg Reg.CS_HEAD1 = (s.chainAt i).getD 1 0#24
      ∧ t.reg Reg.CS_HIDX = BitVec.ofNat 24 (lap * 4096 + i) ∧ t.cs.index = i ∧ t.cs.lap = lap ∧ t.isPending 81 = true := by
  obtain ⟨h0, h1, hidx⟩ := s.setHead_shows i lap
  refine ⟨fun x => by rw [mem1_raise, mem1_setHead], ?_, ?_, ?_, by rw [raise_cs, setHead_cs], by rw [raise_cs, setHead_cs],
    isPending_raise _ (by decide) rfl (by rw [setHead_asleep, ha])⟩
  · rw [reg_raise _ 81 (by decide), h0]
  · rw [reg_raise _ 81 (by decide), h1]
  · rw [reg_raise _ 81 (by decide), hidx]

/-- What is written at the next entry is read back, and the head shows its chain value. -/
theorem State.putEntry_wrote {s : State} (ha : s.asleep = false) {code : Nat} {r : LogRequest} (hl : s.cs.lap < 4095) (hc : code < 256) (ho : r.origin < 8) :
    s.WroteEntry code r (s.putEntry code r r.d1 r.d2) := by
  have hlap : s.nextEntry.2 < 4096 := Nat.lt_succ_of_lt (nextEntry_lap_lt hl)
  rw [putEntry, entryWords_eq hc ho hlap]
  obtain ⟨hwords, hchain, hout⟩ := s.setMemWords_entry s.nextEntry.1 (ws := r.words code s.nextEntry.2) rfl (length_chainWords (s.chainAt s.cs.index) _)
  obtain ⟨hmem, h0, h1, hrest⟩ := setHead_raise_shows (s := s.setMemWords (entryAddr s.nextEntry.1) _) ((setMemWords_asleep ..).trans ha) s.nextEntry.1 s.nextEntry.2
  rw [hchain] at h0 h1
  exact ⟨(memWords_congr hmem _ _).trans hwords, (memWords_congr hmem _ _).trans hchain, fun x hx => (hmem x).trans (hout x hx), h0, h1, hrest⟩

theorem State.putRequest_single {s : State} {r : LogRequest} (h : r.cont = []) : s.putRequest r = s.putEntry r.code r r.d1 r.d2 := by
  rw [putRequest, h, List.foldl_nil]

/-! ## The search for the newest entry (R442) -/

theorem State.logReady_done {s : State} (h : s.bit Reg.CS_STAT 22 = false) : s.logReady = s := by
  rw [logReady, h]
  rfl

/-- Each halving step keeps the newest entry in the range that is left. -/
theorem State.newestFrom_eq {s : State} {i : Nat} (h : ∀ j, j < 4096 → (s.lapAt j = s.lapAt 0 ↔ j ≤ i)) {k lo : Nat} (hlo : lo ≤ i) (hi : i < lo + 2 ^ k)
    (hk : lo + 2 ^ k ≤ 4096) : s.newestFrom lo k = i := by
  induction k generalizing lo with
  | zero =>
    rw [newestFrom]
    omega
  | succ k ih =>
    rw [Nat.pow_succ] at hi hk
    have hpos := Nat.two_pow_pos k
    have hmid := h (lo + 2 ^ k) (by omega)
    rw [newestFrom]
    by_cases hle : lo + 2 ^ k ≤ i
    · rw [if_pos (hmid.mpr hle)]
      exact ih hle (by omega) (by omega)
    · rw [if_neg (mt hmid.mp hle)]
      exact ih hlo (by omega) (by omega)

/-- The code of an entry's word 0 and of a firmware request (R439, R445). -/
theorem fieldOf_code (w : Word) : fieldOf w 16 8 = w.toNat / 65536 := by
  have h : w.toNat / 2 ^ 16 < 2 ^ 8 := Nat.div_lt_of_lt_mul w.isLt
  exact (congrArg (· % 2 ^ 8) (Nat.shiftRight_eq_div_pow ..)).trans (Nat.mod_eq_of_lt h)

/-- The chain value that entry i extends: that of the entry before it, or for GENESIS that of the identity digest. -/
def State.chainBefore (s : State) (i : Nat) : List Word := if (s.mem1 (entryAddr i)).toNat / 65536 = 1 then genesisPrev else s.chainAt (i + 4095)

/-- The search finds the newest entry, and where its chain value is right it becomes the head. -/
theorem State.logReady_found {s : State} {i : Nat} (hi : i < 4096) (hrun : s.bit Reg.CS_STAT 22 = true)
    (hlap : ∀ j, j < 4096 → (s.lapAt j = s.lapAt 0 ↔ j ≤ i)) (hchain : chainWords (s.chainBefore i) (s.memWords (entryAddr i) 6) = s.chainAt i) :
    s.logReady = (s.setBit Reg.CS_STAT 22 false).setHead i (s.lapAt 0) := by
  have hnew : s.newestFrom 0 12 = i := newestFrom_eq hlap (Nat.zero_le i) (by omega) (by decide)
  rw [chainBefore] at hchain
  simp only [logReady, hrun, hnew, fieldOf_code, (hlap i hi).mpr (Nat.le_refl i), beq_iff_eq, Bool.not_true, Bool.false_eq_true, if_false]
  exact if_pos hchain

/-! ## Latches of a master (R32, R445) -/

theorem State.latch_setLatch_same (s : State) (m : Master) (a : Nat) (v : Word) : (s.setLatch m a v).latch m a = v := by
  rw [latch_setLatch, if_pos rfl]

/-- Every other latch, of the master or of another one, is kept. -/
theorem State.latch_setLatch_other (s : State) {m n : Master} {a b : Nat} (v : Word) (h : n ≠ m ∨ b ≠ a) (ha : a < 2 ^ 24) (hb : b < 2 ^ 24) :
    (s.setLatch m a v).latch n b = s.latch n b := by
  have hkey : latchKey n b ≠ latchKey m a := fun e => by
    obtain ⟨hm, hab⟩ := latchKey_inj hb ha e
    exact h.elim (· hm) (· hab)
  rw [latch, latch, setLatch, WordMap.get_set, if_neg hkey]

/-! ## The commands -/

/-- Where requests were dropped, a LOST entry goes ahead of every request (R444). -/
theorem execEntryWrite_lost {s : State} (hdone : s.bit Reg.CS_STAT 22 = false) (hl : 0 < s.cs.lostSince) :
    execEntryWrite s = .next (s.putRequest (s.logEntry 4 0 (BitVec.ofNat 24 s.cs.lostSince) 0#24 [])).clearLost := by
  rw [execEntryWrite, State.logReady_done hdone]
  exact if_pos hl

theorem execEntryWrite_request {s : State} (hdone : s.bit Reg.CS_STAT 22 = false) {r : LogRequest} {rest : List LogRequest} (hl : s.cs.lostSince = 0)
    (hq : s.cs.queue = r :: rest) : execEntryWrite s = .next ((State.syncLog { s with cs := { s.cs with queue := rest } }).putRequest r) := by
  rw [execEntryWrite, State.logReady_done hdone]
  dsimp only
  rw [hl, if_neg (Nat.lt_irrefl 0), hq]

section Writing
variable {s : State} (ha : s.asleep = false) (hlap : s.cs.lap < 4095) (hdone : s.bit Reg.CS_STAT 22 = false)
include hdone

theorem entryWrite_idle (hl : s.cs.lostSince = 0) (hq : s.cs.queue = []) : Answers .entryWrite s fun t => t = s := by
  refine ⟨s, (?_ : execEntryWrite s = .next s), rfl⟩
  rw [execEntryWrite, State.logReady_done hdone]
  dsimp only
  rw [hl, if_neg (Nat.lt_irrefl 0), hq]

include ha hlap

theorem entryWrite_request {r : LogRequest} {rest : List LogRequest} (hl : s.cs.lostSince = 0) (hq : s.cs.queue = r :: rest) (hr : r.cont = [])
    (hc : r.code < 256) (ho : r.origin < 8) (hn : rest.length < 32) :
    Answers .entryWrite s fun t => s.WroteEntry r.code r t ∧ t.cs.queue = rest ∧ t.fld Reg.CS_STAT 16 5 = rest.length := by
  have hexec := execEntryWrite_request hdone hl hq
  rw [State.putRequest_single hr] at hexec
  generalize hu : State.syncLog { s with cs := { s.cs with queue := rest } } = u at hexec
  have hcs : u.cs = { s.cs with queue := rest } := by rw [← hu]; rfl
  have hmem : ∀ x, u.mem1 x = s.mem1 x := fun x => by rw [← hu]; rfl
  have hw : u.WroteEntry r.code r _ := State.putEntry_wrote (by rw [← hu]; exact ha) (by rw [hcs]; exact hlap) hc ho
  refine ⟨_, hexec, hw.congr hmem (by rw [hcs]) (by rw [hcs]), by rw [State.putEntry_queue, hcs], ?_⟩
  rw [State.fld_of_reg (u.reg_putEntry _ _ _ _ (by decide) (by decide)), ← hu, State.syncLog, State.fld_setFld_same _ _ _ _ _ (by decide)]
  exact Nat.mod_eq_of_lt hn

theorem entryWrite_lost (hl : 0 < s.cs.lostSince) :
    Answers .entryWrite s fun t => s.WroteEntry 4 (s.logEntry 4 0 (BitVec.ofNat 24 s.cs.lostSince) 0#24 []) t ∧ t.cs.queue = s.cs.queue ∧ t.cs.lostSince = 0 := by
  have hexec := execEntryWrite_lost hdone hl
  generalize hreq : s.logEntry 4 0 (BitVec.ofNat 24 s.cs.lostSince) 0#24 [] = r at hexec ⊢
  have hcode : r.code = 4 := by rw [← hreq]; rfl
  have horigin : r.origin < 8 := by rw [← hreq]; exact Nat.zero_lt_succ 7
  rw [State.putRequest_single (by rw [← hreq]; rfl), hcode] at hexec
  have hw : s.WroteEntry 4 r (s.putEntry 4 r r.d1 r.d2) := State.putEntry_wrote ha hlap (by decide) horigin
  exact ⟨_, hexec, hw.clearLost, by rw [State.clearLost_cs, State.putEntry_queue], by rw [State.clearLost_cs]⟩

end Writing

section Head
variable {s : State} {m : Master} (ha : s.asleep = false) (hr : s.reaches m Reg.CS_HEAD0 false = true)
include ha hr

/-- A read of CS_HEAD0 shows the head as the search leaves it, and latches the other two words for the master. -/
theorem headRead_shows {u : State} (hu : (s.begun m).logReady = u) : Answers (.headRead m) s fun t =>
    t.sys.rdata = u.reg Reg.CS_HEAD0 ∧ t.sys.busErr = false ∧ t.latch m Reg.CS_HEAD1 = u.reg Reg.CS_HEAD1 ∧ t.latch m Reg.CS_HIDX = u.reg Reg.CS_HIDX
      ∧ t.regs = u.regs ∧ t.mem = u.mem ∧ t.cs = u.cs := by
  have hexec : exec (.headRead m) s = .next (State.answer ((s.begun m).rdHead m)) := congrArg Host.Outcome.next (State.transfer_reaches ha hr _)
  rw [State.rdHead, hu] at hexec
  refine ⟨_, hexec, rfl, rfl, ?_, State.latch_setLatch_same _ m Reg.CS_HIDX _, rfl, rfl, rfl⟩
  exact (State.latch_setLatch_other _ _ (.inr (by decide)) (by decide) (by decide)).trans (u.latch_setLatch_same m Reg.CS_HEAD1 _)

theorem headRead_done (hdone : s.bit Reg.CS_STAT 22 = false) : Answers (.headRead m) s fun t =>
    t.sys.rdata = s.reg Reg.CS_HEAD0 ∧ t.sys.busErr = false ∧ t.latch m Reg.CS_HEAD1 = s.reg Reg.CS_HEAD1 ∧ t.latch m Reg.CS_HIDX = s.reg Reg.CS_HIDX
      ∧ t.regs = s.regs ∧ t.mem = s.mem ∧ t.cs = s.cs :=
  headRead_shows (u := s.begun m) ha hr (State.logReady_done hdone)

theorem headRead_search {i : Nat} (hi : i < 4096) (hrun : s.bit Reg.CS_STAT 22 = true) (hlap : ∀ j, j < 4096 → (s.lapAt j = s.lapAt 0 ↔ j ≤ i))
    (hchain : chainWords (s.chainBefore i) (s.memWords (entryAddr i) 6) = s.chainAt i) : Answers (.headRead m) s fun t =>
    t.cs.index = i ∧ t.cs.lap = s.lapAt 0 ∧ t.bit Reg.CS_STAT 22 = false ∧ t.sys.rdata = s.mem1 (entryAddr i + 6)
      ∧ t.latch m Reg.CS_HEAD1 = s.mem1 (entryAddr i + 7) ∧ t.mem = s.mem := by
  have hu : (s.begun m).logReady = ((s.begun m).setBit Reg.CS_STAT 22 false).setHead i (s.lapAt 0) := State.logReady_found hi hrun hlap hchain
  obtain ⟨t, hexec, hdata, -, h1, -, hregs, hmem, hcs⟩ := headRead_shows ha hr hu
  have hwords : ((s.begun m).setBit Reg.CS_STAT 22 false).chainAt i = [s.mem1 (entryAddr i + 6), s.mem1 (entryAddr i + 7)] := rfl
  obtain ⟨hh0, hh1, -⟩ := ((s.begun m).setBit Reg.CS_STAT 22 false).setHead_shows i (s.lapAt 0)
  rw [hwords] at hh0 hh1
  refine ⟨t, hexec, by rw [hcs, State.setHead_cs], by rw [hcs, State.setHead_cs], ?_, hdata.trans hh0, h1.trans hh1, by rw [hmem, State.setHead_mem]; rfl⟩
  rw [State.bit_of_reg (State.reg_of_regs hregs), State.bit_of_reg (State.reg_setHead_ne _ _ _ (by decide))]
  exact State.bit_setBit_same _ _ _ _ (by decide)

end Head

section Firmware
variable {s : State} {m : Master}

theorem State.writeReg_firmwareDetail (s : State) (m : Master) {a : Nat} (d : Word) (h : a = Reg.CS_FWD0 ∨ a = Reg.CS_FWD1) :
    s.writeReg m a d = s.setLatch m a d := by
  rcases h with rfl | rfl <;> rfl

theorem exec_write_firmwareDetail {a : Word} (d : Word) (ha : s.asleep = false) (h : a.toNat = Reg.CS_FWD0 ∨ a.toNat = Reg.CS_FWD1)
    (hr : s.reaches m a.toNat true = true) : exec (.registerWrite m a d) s = .next (((s.served m).setLatch m a.toNat d).noteBus false) := by
  have hper : isPeriph a.toNat = true := by rcases h with h | h <;> rw [h] <;> decide
  have hserved : (s.served m).reaches m a.toNat true = true := hr
  refine congrArg Host.Outcome.next (?_ : s.busPut m a.toNat d = _)
  simp only [State.busPut, State.busWrite, ha, hserved, hper, Bool.not_true, Bool.false_eq_true, if_false, if_true, State.writeReg_firmwareDetail _ m d h]
  rfl

theorem registerWrite_firmwareDetail {a : Word} (d : Word) (ha : s.asleep = false) (h : a.toNat = Reg.CS_FWD0 ∨ a.toNat = Reg.CS_FWD1)
    (hr : s.reaches m a.toNat true = true) : Answers (.registerWrite m a d) s fun t => t.latch m a.toNat = d
      ∧ ∀ m' b, (m' ≠ m ∨ b ≠ a.toNat) → b < 2 ^ 24 → t.latch m' b = s.latch m' b :=
  ⟨_, exec_write_firmwareDetail d ha h hr, (s.served m).latch_setLatch_same m a.toNat d,
    fun _ _ hne hb => (s.served m).latch_setLatch_other d hne a.isLt hb⟩

/-- What a firmware request never touches: the counts of lost requests, and memory (R445). -/
def State.KeepsLost (s t : State) : Prop := t.cs.lostSince = s.cs.lostSince ∧ t.reg Reg.CS_LOST = s.reg Reg.CS_LOST ∧ t.mem = s.mem

/-- A request that finds room is queued. -/
theorem State.logRequest_queued {s : State} (h : s.cs.queue.length < 16) (code origin : Nat) (d1 d2 : Word) :
    s.KeepsLost (s.logRequest code origin d1 d2)
      ∧ (s.logRequest code origin d1 d2).cs = { s.cs with queue := s.cs.queue ++ [s.logEntry code origin d1 d2 []] } := by
  rw [logRequest, if_pos h, syncLog]
  refine ⟨⟨rfl, ?_, rfl⟩, rfl⟩
  rw [reg_setFld_ne _ _ _ _ (by decide)]
  rfl

variable {o : Nat} (v : Word) (hm : logOrigin m = some o)
include hm

theorem State.wrFwCmd_eq (s : State) : s.wrFwCmd m v =
    if v.toNat / 65536 < 0x80 then s.setLatch m Reg.CS_FWSTAT 7#24
    else if s.cs.queue.length < 16 then
      (s.logRequest (v.toNat / 65536) o (s.latch m Reg.CS_FWD0) (s.latch m Reg.CS_FWD1)).setLatch m Reg.CS_FWSTAT 0#24
    else s.setLatch m Reg.CS_FWSTAT 3#24 := by
  simp only [wrFwCmd, hm, fieldOf_code]

variable (ha : s.asleep = false) (hr : s.reaches m Reg.CS_FWCMD true = true)
include ha hr

omit hm in
theorem exec_firmwareEntry : exec (.firmwareEntry m v) s = .next ((s.begun m).wrFwCmd m v) :=
  congrArg Host.Outcome.next (State.transfer_reaches ha hr _)

theorem firmwareEntry_illegal (hc : v.toNat / 65536 < 0x80) :
    Answers (.firmwareEntry m v) s fun t => t.latch m Reg.CS_FWSTAT = 7#24 ∧ t.cs = s.cs ∧ s.KeepsLost t := by
  have hexec := exec_firmwareEntry v ha hr
  rw [State.wrFwCmd_eq v hm, if_pos hc] at hexec
  exact ⟨_, hexec, State.latch_setLatch_same .., rfl, rfl, rfl, rfl⟩

theorem firmwareEntry_busy (hc : 0x80 ≤ v.toNat / 65536) (hq : 16 ≤ s.cs.queue.length) :
    Answers (.firmwareEntry m v) s fun t => t.latch m Reg.CS_FWSTAT = 3#24 ∧ t.cs = s.cs ∧ s.KeepsLost t := by
  have hexec := exec_firmwareEntry v ha hr
  rw [State.wrFwCmd_eq v hm, if_neg (Nat.not_lt.mpr hc), if_neg (show ¬ (s.begun m).cs.queue.length < 16 from Nat.not_lt.mpr hq)] at hexec
  exact ⟨_, hexec, State.latch_setLatch_same .., rfl, rfl, rfl, rfl⟩

theorem firmwareEntry_queues (hc : 0x80 ≤ v.toNat / 65536) (hq : s.cs.queue.length < 16) :
    Answers (.firmwareEntry m v) s fun t => t.latch m Reg.CS_FWSTAT = 0#24 ∧ s.KeepsLost t
      ∧ t.cs = { s.cs with queue := s.cs.queue ++ [s.logEntry (v.toNat / 65536) o (s.latch m Reg.CS_FWD0) (s.latch m Reg.CS_FWD1) []] } := by
  have hexec := exec_firmwareEntry v ha hr
  rw [State.wrFwCmd_eq v hm, if_neg (Nat.not_lt.mpr hc), if_pos (show (s.begun m).cs.queue.length < 16 from hq)] at hexec
  exact ⟨_, hexec, State.latch_setLatch_same .., State.logRequest_queued (s := s.begun m) hq _ o _ _⟩

end Firmware

/-- Settles O54, clause by clause (R439 to R442, R444, R445). That the search of R442 is done at the first read of CS_HEAD0 is assumption 88. -/
theorem coreSampleLog : Obligations.CoreSampleLog := by
  intro s m v ha
  refine ⟨fun _ hlap hdone => ⟨entryWrite_idle hdone, fun r rest hl hq hr hc ho hn => entryWrite_request ha hlap hdone hl hq hr hc ho hn,
      entryWrite_lost ha hlap hdone, fun hr => headRead_done ha hr hdone⟩,
    fun i hi hrun hnewest hchain hr => ?_, fun a d _ hfwd hr => registerWrite_firmwareDetail d ha ?_ hr, fun o hmo hr => ?_⟩
  · exact headRead_search ha hr hi hrun hnewest hchain
  · rcases hfwd with rfl | rfl
    · exact .inl rfl
    · exact .inr rfl
  · have hm : logOrigin m = some o := by
      simp only [List.mem_cons, Prod.mk.injEq, List.not_mem_nil, or_false] at hmo
      rcases hmo with ⟨rfl, rfl⟩ | ⟨rfl, rfl⟩ | ⟨rfl, rfl⟩ | ⟨rfl, rfl⟩ <;> rfl
    exact ⟨firmwareEntry_illegal v hm ha hr, firmwareEntry_busy v hm ha hr, firmwareEntry_queues v hm ha hr⟩

end Sys2Proof.Machine
